-- ==== Sys2Proof/Word.lean ====
section
/-!
DEFINITION. Word.lean: the fixed-width quantities of the D440 and the modular arithmetic on them.
Money, levels, counts with a stated range and identifiers are plain `Nat` or `Int`; only the quantities
the manual lets wrap, shifts or masks are bit vectors.
-/

namespace Sys2Proof

/-- One byte of a request frame, of a response or of a station-line frame. -/
abbrev Byte := BitVec 8

/-- A 32-bit quantity that wraps: run seconds, building time, counters, cause and mask words, badge tokens. -/
abbrev Word := BitVec 32

/-- A day number, 0-65535, wrapping (R157). -/
abbrev Day := BitVec 16

/-- The payload of a request or a response: its bytes in order. -/
abbrev Payload := List Byte

/-- The run seconds that have passed since a stamp, taken modulo 2^32 (R18, R34, R112, R123, R126, R148, R153). -/
def elapsed (now stamp : Word) : Nat := (now - stamp).toNat

/-- Submission order of sequence values (R100): `a` is older than `b` when `b - a` modulo 2^32 lies in 1 to 2147483647. -/
def olderSeq (a b : Word) : Bool := 1 ≤ (b - a).toNat && (b - a).toNat ≤ 2147483647

end Sys2Proof
end

