-- ==== Sys2Proof/Config.lean ====
section
/-!
DEFINITION. Config.lean: what the part fixes and no request can change (table sizes, limits that have no parameter
number), and the free value: a constant with no body, for what the manual leaves open.
-/

namespace Sys2Proof.Config

/-- The cost limit COST_MAX, which is fixed and has no parameter number (R90, R183). -/
def costMax : Nat := 2000000

/-- Entries of the ticket table (R31). -/
def ticketEntries : Nat := 64

/-- Entries of the requisition table (R67). -/
def requisitionEntries : Nat := 32

/-- Entries of the account table (R79). -/
def accountEntries : Nat := 4096

/-- Job records the Job Store holds (R99). -/
def jobEntries : Nat := 2048

/-- The lowest balance an account can have, in cu (R79). -/
def balanceMin : Int := -100000

/-- The highest balance an account can have, in cu (R79). -/
def balanceMax : Int := 2000000

/-- The highest pool balance, pool allowance and pool cap of a group, in cu (R86). -/
def poolMax : Nat := 16000000

/-- The highest overdraft of a group, in cu (R86). -/
def overdraftMax : Nat := 100000

/-- The longest payload a request frame can announce (R169). -/
def payloadMax : Nat := 60

/-- FREE VALUE (log entry 1). The byte that JOB_READ and JOB_NEXT_OF write as the target value of a job whose target
is ANY: R99 gives such a target no value and R182 gives the byte no contents in that case. It is applied to
`State.freeCount`, a counter that each such response advances, so that two responses need not agree. -/
opaque anyTargetValue : Nat → Byte

end Sys2Proof.Config
end

