-- ==== Sys2Proof/Machine/Records.lean ====
section
/-!
DEFINITION. Machine/Records.lean: the records the blocks of the D440 own, one structure each, with the names the manual
gives their fields. A field that is present only in some state of its record is carried by that state.
-/

namespace Sys2Proof.Machine

/-- A numbered table: records by number, the numbers strictly rising, so that equal tables are equal lists. -/
abbrev Table (α : Type) := List (Nat × α)

/-! ### Fault kinds -/

/-- The twelve fault kinds, in the order of their numbers (R22). -/
inductive FaultKind where
  | doorOpen | paperJam | paperOut | trayEmpty | offline | wasteFull | fuserFault | engineFault | maintenanceDue
  | tonerEmptyK | tonerEmptyColour | noContact
  deriving DecidableEq, Repr

/-- The host's settings of one fault kind (R22, R23). -/
structure KindSetting where
  severity  : Nat
  cls       : Nat
  autoclose : Bool
  deriving DecidableEq, Repr

/-- The filter state of one kind on one printer (R26). -/
inductive FilterState where
  | clear | onset | confirmed | easing
  deriving DecidableEq, Repr

/-- One value for each of the twelve fault kinds, by kind number. -/
abbrev KindTable (α : Type) := Vector α 12

/-! ### Parameters -/

/-- The parameters of R183, each under its own name. -/
structure Params where
  tickDivisor     : Nat
  dayStart        : Nat
  silenceLimit    : Nat
  deltaLimit      : Nat
  emptyLevel      : Nat
  escInterval1    : Nat
  escInterval2    : Nat
  escInterval3    : Nat
  escInterval4    : Nat
  swapJump        : Nat
  minSample       : Nat
  smoothE         : Nat
  smoothQ         : Nat
  floorLevel      : Nat
  overdueGrace    : Nat
  duplexFactor    : Nat
  jobLimit        : Nat
  holdTime        : Nat
  quietAfter      : Nat
  sparseGap       : Nat
  missLimit       : Nat
  noiseLimit      : Nat
  repeatGuard     : Nat
  releaseBatch    : Nat
  printerInflight : Nat
  takeLimit       : Nat
  abandonLimit    : Nat
  abandonCharge   : Nat
  kinds           : KindTable KindSetting
  deriving DecidableEq, Repr

/-- The parameters as PARAM_SET and PARAM_READ name them (R183). -/
inductive ParamId where
  | tickDivisor | dayStart | silenceLimit | deltaLimit | emptyLevel
  | escInterval1 | escInterval2 | escInterval3 | escInterval4
  | swapJump | minSample | smoothE | smoothQ | floorLevel | overdueGrace | duplexFactor | jobLimit | holdTime
  | quietAfter | sparseGap | missLimit | noiseLimit | repeatGuard
  | releaseBatch | printerInflight | takeLimit | abandonLimit | abandonCharge
  | faultSeverity (k : FaultKind) | faultClass (k : FaultKind) | faultAutoclose (k : FaultKind)
  deriving DecidableEq, Repr

/-! ### Request port -/

/-- The status codes of a response (R173). -/
inductive Status where
  | ok | notFound | exists | full | limit | state | busy | notPermitted | empty | badField | badLength | unknownRequest
  deriving DecidableEq, Repr

/-- A response: its status, the echoed request code and its payload (R171). -/
structure Response where
  status  : Status
  code    : Byte
  payload : Payload
  deriving DecidableEq, Repr

/-- The port's transaction state (R170, R171, R179). `ready r`: READY may be high and the current response is `r`.
`working r`: a request has been taken, READY is low and `r` is the response being formed for it.
`resetting`: a PORT_RESET is at work, READY is low and transactions are ignored. -/
inductive PortPhase where
  | ready (r : Response)
  | working (r : Response)
  | resetting
  deriving DecidableEq, Repr

/-- The seventeen sticky causes (R174). -/
inductive Cause where
  | calloutRaised | calloutEscalated | calloutDeferred | reqOpened | reqOverdue | reqTableFull | stockMismatch
  | quotaExhausted | printerSilent | counterRebase | stationLost | stationNoisy | jobExpired | jobRecalled
  | jobAbandoned | sweepDone | portOverrun
  deriving DecidableEq, Repr

/-- The Request Port's records (R170, R174, R175). -/
structure Port where
  phase  : PortPhase
  sticky : Word
  mask   : Word
  deriving DecidableEq, Repr

/-- The levels of the two outside reset sources (R179). -/
structure Pins where
  rstLow    : Bool
  supplyLow : Bool
  deriving DecidableEq, Repr

/-! ### Time Base -/

/-- The mode of the Time Base (R157). -/
inductive TimeMode where
  | held | running
  deriving DecidableEq, Repr

/-- The walk a sweep is making (R166). `printers n`, `groups n`, `types n`: `n` is the next number the walk reaches.
`accounts n`: `n` is the last account number reached, 0 at the start of the walk. -/
inductive SweepWalk where
  | printers (next : Nat)
  | groups (next : Nat)
  | accounts (last : Nat)
  | types (next : Nat)
  deriving DecidableEq, Repr

/-- The Time Base's state (R157). The sweep state is SWEEPING exactly while `sweep` is present. -/
structure TimeBase where
  mode       : TimeMode
  divider    : Nat
  runSeconds : Word
  building   : Word
  day        : Day
  lastSwept  : Option Day
  sweep      : Option SweepWalk
  queued     : Bool
  span       : Nat
  opening    : Day
  closing    : Day
  deriving DecidableEq, Repr

/-- The timers that run at a second event, each a row of the table (R158). `tick n` is the class-n filter tick. -/
inductive Timer where
  | dayBoundary | takeTimeout | silence | tick (n : Nat) | escalation | abandonment | holdExpiry | quiet
  deriving DecidableEq, Repr

/-- The second event in progress: the timers it has still to run, the jobs it has returned to HELD (R112), and the printers
whose reconciliation it owes (R28, R30). The model's own record (log entry 3). -/
structure SecondWork where
  due          : List Timer
  returned     : List Nat
  unreconciled : List Nat
  deriving DecidableEq, Repr

/-! ### Printers and cartridges -/

/-- The service state of a printer that is not VACANT (section 1.2). -/
inductive ServiceState where
  | awaiting | ready | impaired | down | silent
  deriving DecidableEq, Repr

/-- The three capability flags of a printer (R1). -/
structure Capabilities where
  colour : Bool
  duplex : Bool
  a3     : Bool
  deriving DecidableEq, Repr

/-- A cartridge record (R43). Its slot is its place in the printer's list: K, C, M, Y. -/
structure Cartridge where
  type     : Nat
  level    : Nat
  dayStart : Nat
  stale    : Bool
  void     : Bool
  coverage : Nat
  eSeeded  : Bool
  pageRate : Nat
  qSeeded  : Bool
  forecast : Nat
  wanted   : Bool
  deriving DecidableEq, Repr

/-- The record of a printer that is not VACANT (R1), with its cartridge records (R43) and filter states (R26). -/
structure Printer where
  floor          : Nat
  costClass      : Nat
  caps           : Capabilities
  slots          : List Cartridge
  state          : ServiceState
  reported       : List FaultKind
  monoBase       : Option Word
  colourBase     : Option Word
  pMono          : Nat
  pColour        : Nat
  lastReport     : Word
  rebase         : Bool
  deferred       : Bool
  jobsCompleted  : Word
  sidesCompleted : Word
  jobsAbandoned  : Word
  filters        : KindTable FilterState
  deriving DecidableEq, Repr

/-! ### Tickets -/

/-- The state of a ticket; ACKED carries the acknowledged severity (R31). -/
inductive TicketState where
  | raised
  | acked (severity : Nat)
  | resolved
  deriving DecidableEq, Repr

/-- A ticket (R31). Its number is its key in the table; its severity is `Ticket.severity`. -/
structure Ticket where
  printer : Nat
  causes  : List (FaultKind × Nat)
  nonAuto : Bool
  state   : TicketState
  level   : Nat
  raised  : Word
  point   : Word
  deriving DecidableEq, Repr

/-- The Callout Unit's ticket table and its last issued number (R31). -/
structure Callout where
  tickets    : Table Ticket
  lastTicket : Nat
  deriving DecidableEq, Repr

/-! ### Stock -/

/-- A defined cartridge type (R63). An undefined type is not listed. -/
structure CartridgeType where
  shelf   : Nat
  reserve : Nat
  pack    : Nat
  lead    : Nat
  margin  : Nat
  holdOff : Bool
  pending : Bool
  deriving DecidableEq, Repr

/-- A requisition (R67). It is OPEN while its confirm day is absent, and CONFIRMED from then on. -/
structure Requisition where
  type       : Nat
  quantity   : Nat
  raiseDay   : Day
  confirmDay : Option Day
  overdue    : Bool
  deriving DecidableEq, Repr

/-- The Stock Unit's tables (R63, R67). -/
structure Stock where
  types   : Table CartridgeType
  reqs    : Table Requisition
  lastReq : Nat
  deriving DecidableEq, Repr

/-! ### Accounts -/

/-- The role of an account (R79). -/
inductive Role where
  | user | service
  deriving DecidableEq, Repr

/-- An account (R79). A badge token is never 0; the job count is derived from the job records. -/
structure Account where
  token     : Option Word
  group     : Nat
  role      : Role
  suspended : Bool
  colour    : Bool
  poolDraw  : Bool
  balance   : Int
  reserved  : Nat
  allowance : Nat
  cap       : Nat
  exhausted : Bool
  deriving DecidableEq, Repr

/-- A group record (R86). -/
structure BudgetGroup where
  pool      : Nat
  reserved  : Nat
  allowance : Nat
  cap       : Nat
  overdraft : Nat
  period    : Nat
  phase     : Nat
  deriving DecidableEq, Repr

/-- The four prices of a cost class, in cu per side (R89). -/
structure Prices where
  monoA4   : Nat
  colourA4 : Nat
  monoA3   : Nat
  colourA3 : Nat
  deriving DecidableEq, Repr

/-- The Account Unit's tables (R79, R86, R89). -/
structure Bank where
  accounts : Table Account
  groups   : Table BudgetGroup
  prices   : Table Prices
  deriving DecidableEq, Repr

/-! ### Jobs -/

/-- Mono or colour (R99). -/
inductive Colour where
  | mono | colour
  deriving DecidableEq, Repr

/-- A4 or A3 (R99). -/
inductive Size where
  | a4 | a3
  deriving DecidableEq, Repr

/-- Where a job may print (R99). -/
inductive Target where
  | specific (printer : Nat)
  | floor (floor : Nat)
  | any
  deriving DecidableEq, Repr

/-- What a job carries in RELEASING and PRINTING (R99, R105). -/
structure ReleaseInfo where
  printer        : Nat
  colour         : Colour
  duplex         : Bool
  cost           : Nat
  accountPortion : Nat
  poolPortion    : Nat
  releasedAt     : Word
  deriving DecidableEq, Repr

/-- The state of a job, with the parts that are present in it (R99). -/
inductive JobPhase where
  | held
  | releasing (r : ReleaseInfo)
  | printing (r : ReleaseInfo) (takenAt : Word)
  deriving DecidableEq, Repr

/-- A job record (R99). -/
structure Job where
  number          : Nat
  seq             : Word
  owner           : Nat
  spool           : Word
  pages           : Nat
  copies          : Nat
  requested       : Colour
  colour          : Colour
  forcedMono      : Bool
  size            : Size
  duplex          : Bool
  target          : Target
  submitRun       : Word
  submitBuilding  : Word
  phase           : JobPhase
  deriving DecidableEq, Repr

/-- The Job Store (R99 to R102). `records` holds the jobs in the order of their submission. -/
structure JobStore where
  records    : List Job
  lastNumber : Nat
  nextSeq    : Word
  expiry     : List Nat
  deriving DecidableEq, Repr

/-! ### Station line -/

/-- The display outcomes of section 11.7. -/
inductive DisplayOutcome where
  | released | nothingHeld | quota | busy | unavailable | suspended | unknownBadge | notAccepted | notBound
  | serviceAck | serviceClosed | noCallout
  deriving DecidableEq, Repr

/-- A display message (R119). -/
structure Message where
  outcome   : DisplayOutcome
  released  : Nat
  remaining : Nat
  printer   : Nat
  ticket    : Nat
  deriving DecidableEq, Repr

/-- The baud rates of LINE_RATE (R117). -/
inductive LineRate where
  | b38400 | b115200 | b250000
  deriving DecidableEq, Repr

/-- The regimes of the line (R123). -/
inductive Regime where
  | off | full | sparse
  deriving DecidableEq, Repr

/-- The state of a station (R124). -/
inductive StationState where
  | unlisted | unknown | alive | lost
  deriving DecidableEq, Repr

/-- The acceptance mode of a station (R124). -/
inductive AcceptMode where
  | all | usersOnly | serviceOnly
  deriving DecidableEq, Repr

/-- A station record (R124). `last` is the last token and the last run second. -/
structure Station where
  state     : StationState
  bound     : Option Nat
  mode      : AcceptMode
  redirect  : Bool
  misses    : Nat
  pollCount : Nat
  badCount  : Nat
  noisy     : Bool
  polls     : Word
  good      : Word
  bad       : Word
  slot      : Option Message
  last      : Option (Word × Word)
  deriving DecidableEq, Repr

/-- The poll exchange in progress (section 7.2): the station polled, whether it is an answer poll (R130), the message
its poll carried (R119), the characters of that poll on TXD (R118), while these are being transmitted the CLKIN periods
since its first bit (R117), the rate and window it began with (R135), whether a calendar installed meanwhile keeps its
end from moving the walk, and whether its station has become UNLISTED (R132). -/
structure Exchange where
  station   : Nat
  answer    : Bool
  carried   : Option Message
  frame     : List Byte
  sending   : Option Nat
  rate      : LineRate
  window    : Nat
  walkFixed : Bool
  abandoned : Bool
  deriving DecidableEq, Repr

/-- The Station Line Controller's state (R117, R122, R123, R130, R131). `loading` is the pending calendar: its total
count and the addresses received. `gap` is the SPARSE gap in progress, in ms. `answer` is the pending answer poll. -/
structure Line where
  enabled    : Bool
  rate       : LineRate
  window     : Nat
  calendar   : List Nat
  walk       : Nat
  loading    : Option (Nat × List Nat)
  regime     : Regime
  quietStamp : Word
  exchange   : Option Exchange
  gap        : Option Nat
  answer     : Option Nat
  stations   : Table Station
  deriving DecidableEq, Repr

/-! ### Release Unit -/

/-- The Release Unit's state (R137). -/
structure Release where
  dispatch      : List Nat
  histogram     : Vector Word 6
  presentations : Word
  releases      : Word
  recalls       : Word
  deriving DecidableEq, Repr

end Sys2Proof.Machine
end

