-- ==== Sys2Proof/Machine/Defaults.lean ====
section
/-!
DEFINITION. Machine/Defaults.lean: the values each block's records take at reset (R180 and the rules it points to).
-/

namespace Sys2Proof.Machine

/-- The settings of the twelve kinds after reset, in kind order (R22). -/
def defaultKinds : KindTable KindSetting :=
  #v[⟨1, 2, true⟩, ⟨2, 1, true⟩, ⟨1, 2, true⟩, ⟨0, 2, true⟩, ⟨1, 3, true⟩, ⟨2, 1, false⟩, ⟨3, 1, false⟩,
     ⟨4, 0, false⟩, ⟨1, 4, false⟩, ⟨2, 2, true⟩, ⟨2, 2, true⟩, ⟨2, 2, true⟩]

/-- Every parameter at its default (R183). -/
def defaultParams : Params where
  tickDivisor := 25000000
  dayStart := 0
  silenceLimit := 300
  deltaLimit := 20000
  emptyLevel := 20
  escInterval1 := 120
  escInterval2 := 60
  escInterval3 := 30
  escInterval4 := 15
  swapJump := 300
  minSample := 50
  smoothE := 4
  smoothQ := 4
  floorLevel := 50
  overdueGrace := 3
  duplexFactor := 12
  jobLimit := 16
  holdTime := 24
  quietAfter := 30
  sparseGap := 1000
  missLimit := 3
  noiseLimit := 16
  repeatGuard := 3
  releaseBatch := 8
  printerInflight := 8
  takeLimit := 60
  abandonLimit := 30
  abandonCharge := 1
  kinds := defaultKinds

/-- The current response after any reset: OK, code 0, length 0 (R180). -/
def resetResponse : Response := ⟨.ok, 0, []⟩

/-- The Request Port after reset (R180). -/
def resetPort : Port := ⟨.ready resetResponse, 0, 0⟩

/-- The Time Base after reset (R157). -/
def resetTime : TimeBase := ⟨.held, 0, 0, 0, 0, none, none, false, 0, 0, 0⟩

/-- A group after reset: every field 0, the period 1 (R86). -/
def resetGroup : BudgetGroup := ⟨0, 0, 0, 0, 0, 1, 0⟩

/-- The prices of a class after reset (R89). -/
def resetPrices : Prices := ⟨1, 5, 2, 10⟩

/-- A station after reset (R124). -/
def resetStation : Station := ⟨.unlisted, none, .all, false, 0, 0, 0, false, 0, 0, 0, none, none⟩

/-- The Account Unit after reset (R79, R86, R89). -/
def resetBank : Bank where
  accounts := []
  groups := (List.range 64).map fun g => (g, resetGroup)
  prices := (List.range 8).map fun c => (c, resetPrices)

/-- The Job Store after reset (R99, R100). -/
def resetStore : JobStore := ⟨[], 0, 0, []⟩

/-- The Station Line Controller after reset (R117, R122, R123, R124, R130, R131). -/
def resetLine : Line where
  enabled := false
  rate := .b115200
  window := 10
  calendar := []
  walk := 0
  loading := none
  regime := .off
  quietStamp := 0
  exchange := none
  gap := none
  answer := none
  stations := (List.range' 1 126).map fun a => (a, resetStation)

/-- The Release Unit after reset (R137). -/
def resetRelease : Release := ⟨[], #v[0, 0, 0, 0, 0, 0], 0, 0, 0⟩

end Sys2Proof.Machine
end

