-- ==== Sys2Proof/Syntax.lean ====
section
/-!
DEFINITION. Syntax.lean: the commands of the D440, one constructor per row of spec/opcode_table.json, in its order.
A request carries the payload bytes of its frame (R169), so that the length and field checks of its rule are the
model's to make. An event of the part carries what it brings from outside: the characters of a reply, the bytes of a
frame, the class of a tick (log entry 2: the table lists no operands).
-/

namespace Sys2Proof

/-- The commands: the first forty-nine rows are requests taken on the request port, the others are events. -/
inductive Instr where
  /-- PORT_RESET (R179). Request that resets every block exactly as the end of a reset hold does. -/
  | portReset (p : Payload)
  /-- STATUS_READ (R176). Returns the cause word and the mask word. -/
  | statusRead (p : Payload)
  /-- STATUS_CLEAR (R176). Clears the named sticky causes; ATTN then follows the new cause word. -/
  | statusClear (p : Payload)
  /-- MASK_SET (R175). Replaces the mask word; ATTN follows at once. -/
  | maskSet (p : Payload)
  /-- PARAM_SET (R177). Checks and stores a parameter value; a FAULT_SEVERITY change reconciles every printer within the same event. -/
  | paramSet (p : Payload)
  /-- PARAM_READ (R177). Returns the current value of a parameter. -/
  | paramRead (p : Payload)
  /-- COUNTERS_READ (R178). Returns the device-wide histogram buckets and the presentation, release and recall counters. -/
  | countersRead (p : Payload)
  /-- COUNTERS_CLEAR (R178). Returns the nine device-wide counters and then sets them to 0. -/
  | countersClear (p : Payload)
  /-- TIME_SET (R161). Sets the mode, optionally sets the building time and day number, and clears the divider; a day number set ahead of the last swept day requests a sweep. -/
  | timeSet (p : Payload)
  /-- TIME_READ (R163). Returns the Time Base clocks, mode and sweep state. -/
  | timeRead (p : Payload)
  /-- PRINTER_ADD (R7). Checks and creates a printer record in AWAITING with its cartridges and CLEAR filter states. -/
  | printerAdd (p : Payload)
  /-- PRINTER_SET (R8). Changes a printer's floor, class, capabilities and types, optionally clears its counters, and is a condition event of the printer. -/
  | printerSet (p : Payload)
  /-- PRINTER_READ (R9). Returns a printer record. -/
  | printerRead (p : Payload)
  /-- PRINTER_RETIRE (R11). Retargets the printer's held jobs, retires its ticket and WANTED marks, unbinds its stations and makes the record VACANT. -/
  | printerRetire (p : Payload)
  /-- STATUS_REPORT (R17). Applies a relayed printer report: counter deltas, levels, reported set, stamp, service state and the Callout Unit's condition inputs. -/
  | statusReport (p : Payload)
  /-- TICKET_ACK (R37). Acknowledges a RAISED ticket, which becomes ACKED. -/
  | ticketAck (p : Payload)
  /-- TICKET_CLOSE (R38). Retires a RESOLVED ticket and hands the freed entry to a deferred printer. -/
  | ticketClose (p : Payload)
  /-- TICKET_READ (R39). Returns a ticket's fields. -/
  | ticketRead (p : Payload)
  /-- TICKET_NEXT (R39). Returns the live ticket with the next higher number. -/
  | ticketNext (p : Payload)
  /-- CARTRIDGE_READ (R61). Returns the cartridge records of a printer. -/
  | cartridgeRead (p : Payload)
  /-- CARTRIDGE_SWAPPED (R49). Records a swap with level 1000 for one slot, with its stock effects, and is a condition event of the printer. -/
  | cartridgeSwapped (p : Payload)
  /-- CARTRIDGE_SEED (R60). Stores E and Q for a slot as seeded values, recomputes F and applies the WANTED test. -/
  | cartridgeSeed (p : Payload)
  /-- TYPE_SET (R64). Defines or changes a cartridge type and its shelf, or undefines the type, and then runs its reorder check. -/
  | typeSet (p : Payload)
  /-- TYPE_READ (R66). Returns a type record with its derived counts. -/
  | typeRead (p : Payload)
  /-- REQ_CONFIRM (R73). Confirms an OPEN requisition and runs the reorder check for its type. -/
  | reqConfirm (p : Payload)
  /-- REQ_RECEIVE (R74). Adds a delivery to the shelf, lowers the requisition's quantity and retires the requisition when its quantity reaches 0. -/
  | reqReceive (p : Payload)
  /-- REQ_CANCEL (R75). Retires a requisition and holds its type off reordering until the next sweep. -/
  | reqCancel (p : Payload)
  /-- REQ_READ (R76). Returns a requisition's fields. -/
  | reqRead (p : Payload)
  /-- REQ_NEXT (R76). Returns the live requisition with the next higher number. -/
  | reqNext (p : Payload)
  /-- ACCOUNT_ADD (R81). Checks and creates an account and enters its badge token in the badge index. -/
  | accountAdd (p : Payload)
  /-- ACCOUNT_SET (R82). Changes an account's token, group, role, state, permissions, allowance and cap. -/
  | accountSet (p : Payload)
  /-- ACCOUNT_READ (R83). Returns an account record with its account available. -/
  | accountRead (p : Payload)
  /-- ACCOUNT_FIND_BADGE (R83). Returns the account that holds a badge token. -/
  | accountFindBadge (p : Payload)
  /-- ACCOUNT_ADJUST (R84). Adds a signed amount to an account balance, clamped to its range. -/
  | accountAdjust (p : Payload)
  /-- ACCOUNT_RETIRE (R85). Retires the account's held jobs, removes its token from the badge index and frees the record. -/
  | accountRetire (p : Payload)
  /-- GROUP_SET (R87). Sets a group's pool, allowance, cap, overdraft, period and phase. -/
  | groupSet (p : Payload)
  /-- GROUP_READ (R88). Returns a group record with its pool available. -/
  | groupRead (p : Payload)
  /-- PRICE_SET (R89). Replaces the four prices of a cost class, clamped to 1 to 1,000. -/
  | priceSet (p : Payload)
  /-- JOB_SUBMIT (R104). Checks and creates a HELD job with a new number and sequence. -/
  | jobSubmit (p : Payload)
  /-- JOB_CANCEL (R108). Retires a HELD or RELEASING job. -/
  | jobCancel (p : Payload)
  /-- JOB_READ (R110). Returns a job record. -/
  | jobRead (p : Payload)
  /-- JOB_NEXT_OF (R111). Returns the next job in an owner's job list. -/
  | jobNextOf (p : Payload)
  /-- STATION_SET (R133). Sets a station's binding, acceptance mode and redirect flag, and optionally clears its counters. -/
  | stationSet (p : Payload)
  /-- STATION_READ (R134). Returns a station record. -/
  | stationRead (p : Payload)
  /-- CALENDAR_SET (R131). Loads one piece of the pending calendar and installs the calendar when it is complete. -/
  | calendarSet (p : Payload)
  /-- LINE_SET (R135). Reports the line settings and, with the apply flag set, changes the enable, rate and reply window. -/
  | lineSet (p : Payload)
  /-- RELEASE_REQUEST (R145). Makes a release decision for the host without redirect, optionally for one named job. -/
  | releaseRequest (p : Payload)
  /-- DISPATCH_TAKE (R147). Moves the first job of the dispatch order to PRINTING and returns it. -/
  | dispatchTake (p : Payload)
  /-- JOB_DONE (R151). Settles a PRINTING job at the cost of the sides counted, counts it, and retires or requeues it. -/
  | jobDone (p : Payload)
  /-- UNKNOWN_REQUEST (R170). A well-formed frame with a code the part does not know is answered UNKNOWN_REQUEST. `code` is the first byte of the frame, `p` its payload. -/
  | unknownRequest (code : Byte) (p : Payload)
  /-- MALFORMED_REQUEST_FRAME (R170). A request frame that is not well formed is answered BAD_LENGTH. `frame` is every byte clocked while CS was low. -/
  | malformedRequestFrame (frame : List Byte)
  /-- EARLY_REQUEST (R172). A request frame arriving while READY is low is discarded and PORT_OVERRUN is set. `frame` is every byte clocked while CS was low. -/
  | earlyRequest (frame : List Byte)
  /-- RST_ASSERT (R179). RST held low puts the part in reset hold, abandoning any work in progress. -/
  | rstAssert
  /-- RST_RELEASE (R179). The end of the last reset source puts every block in its reset state and raises READY. -/
  | rstRelease
  /-- SUPPLY_LOW (R179). The supply monitor finds VDD below its threshold and holds the part in reset. -/
  | supplyLow
  /-- SUPPLY_RESTORED (R179). VDD recovers; if no other reset source remains, every block takes its reset state. -/
  | supplyRestored
  /-- SECOND_EVENT (R158). The tick divider completes; run seconds and building time advance by 1. -/
  | secondEvent
  /-- DAY_BOUNDARY (R160). Building time reaches DAY_START; the day number advances and a sweep is requested. -/
  | dayBoundary
  /-- SILENCE_EXPIRY (R18). A printer unreported for SILENCE_LIMIT seconds becomes SILENT, sets PRINTER_SILENT and calls a recall. -/
  | silenceExpiry
  /-- CLASS_TICK (R28). A class-n filter tick judges the kinds of class n on every printer and reconciles the printers affected. `n` is the filter class, 1-7. -/
  | classTick (n : Nat)
  /-- ESCALATION (R34). A RAISED ticket whose interval has elapsed rises one escalation level and sets CALLOUT_ESCALATED. -/
  | escalation
  /-- HOLD_EXPIRY (R112). HELD jobs older than HOLD_TIME retire and JOB_EXPIRED is set. -/
  | holdExpiry
  /-- TAKE_TIMEOUT (R148). A RELEASING job untaken for TAKE_LIMIT is settled without charge and returned to HELD. -/
  | takeTimeout
  /-- ABANDONMENT (R153). A PRINTING job unreported for ABANDON_LIMIT is settled as ABANDON_CHARGE gives and retired. -/
  | abandonment
  /-- QUIET_TIMEOUT (R123). With no presentation for QUIET_AFTER minutes the line moves from FULL to SPARSE. -/
  | quietTimeout
  /-- SWEEP_PRINTER_STEP (R52). The sweep updates all cartridges of one printer and clears its accumulators. -/
  | sweepPrinterStep
  /-- SWEEP_GROUP_STEP (R97). The sweep refills one group's pool when a period day falls in its span. -/
  | sweepGroupStep
  /-- SWEEP_ACCOUNT_STEP (R97). The sweep refills one account's balance when its group's period day falls in the span. -/
  | sweepAccountStep
  /-- SWEEP_TYPE_STEP (R77). The sweep clears one type's hold-off, runs its reorder check and checks its requisitions for overdue delivery. -/
  | sweepTypeStep
  /-- CALENDAR_POLL (R122). The part begins a poll of the station at the walk position after the idle or the sparse gap. -/
  | calendarPoll
  /-- ANSWER_POLL (R130). The part begins a pending answer poll carrying the station's display message. -/
  | answerPoll
  /-- STATION_REPLY (R125). A reply that began in the window is judged good or bad and the station record is updated. `chars` are the characters received, the first of them while the reply window was open, in the order received, up to the moment the line fell idle. -/
  | stationReply (chars : List Byte)
  /-- MISS (R120). The reply window closes and the line stays idle, so the exchange is judged a miss. -/
  | miss
  /-- LATE_REPLY (R120). A reply beginning after the window is judged a bad frame once the line falls idle. `chars` are the characters received, the first of them after the window closed. -/
  | lateReply (chars : List Byte)
  /-- RESPONSE_STORED (R170). The response to a taken request is stored with its echoed code and READY is driven high, ending the busy period. -/
  | responseStored
  deriving DecidableEq, Repr

end Sys2Proof
end

