-- ==== Sys2Proof/Machine/State.lean ====
section
/-!
DEFINITION. Machine/State.lean: the whole state of the D440, one field per block of section 2.1, and the state after reset.
-/

namespace Sys2Proof.Machine

/-- No fault stops the D440: every wrong request has a response (R173) and every event an effect, so there is no
constructor. -/
inductive Fault where
  deriving DecidableEq, Repr

/-- What the model does not answer. -/
inductive Refusal where
  /-- Raised by `exec` alone, for a row that has no meaning yet (safe: the model stops). No arm raises it. -/
  | notModelled (mnemonic : String)
  deriving DecidableEq, Repr

/-- The state of the part. The blocks of section 2.1 in their order, the reset sources, and three fields of the model's
own: `second`, `freeCount` and the queue `pending`. The Cartridge Unit's records and the filter states stand in the
printer records. -/
structure State where
  /-- the Request Port (10) -/
  port      : Port
  /-- the reset sources (R179) -/
  pins      : Pins
  /-- the Time Base (R157) -/
  time      : TimeBase
  /-- every block's parameters (R183) -/
  params    : Params
  /-- the printers that are not VACANT, by number (R1, R26, R43) -/
  printers  : Table Printer
  /-- the Callout Unit's ticket table (R31) -/
  callout   : Callout
  /-- the Stock Unit (R63, R67) -/
  stock     : Stock
  /-- the Account Unit (R79, R86, R89) -/
  bank      : Bank
  /-- the Job Store (R99 to R102) -/
  store     : JobStore
  /-- the Station Line Controller (07) -/
  line      : Line
  /-- the Release Unit (R137) -/
  release   : Release
  /-- the model's own: the second event in progress (log entry 3) -/
  second    : SecondWork
  /-- the model's own: the counter the free values are applied to (log entry 1) -/
  freeCount : Nat
  /-- the model's own: the commands waiting, first in, first out -/
  pending   : List Instr
  deriving DecidableEq, Repr

/-- The machine right after reset (R180), with no command waiting. -/
def State.reset : State where
  port := resetPort
  pins := ⟨false, false⟩
  time := resetTime
  params := defaultParams
  printers := []
  callout := ⟨[], 0⟩
  stock := ⟨[], [], 0⟩
  bank := resetBank
  store := resetStore
  line := resetLine
  release := resetRelease
  second := ⟨[], [], []⟩
  freeCount := 0
  pending := []

end Sys2Proof.Machine
end

