-- ==== Sys2Proof/Machine/Operands.lean ====
section
/-!
DEFINITION. Machine/Operands.lean: reading the fields of a request payload and writing the fields of a response payload
(R169, R181, R182): little-endian, packed, in layout order; and the characters of the station line as their bits (R117). Code
values are those of section 11.5.
-/

namespace Sys2Proof.Machine

/-! ### Request fields -/

/-- The one-byte field at an offset. -/
def byteAt (p : Payload) (i : Nat) : Nat := (p.getD i 0).toNat

/-- The two-byte field at an offset, little-endian. -/
def u16 (p : Payload) (i : Nat) : Nat := byteAt p i + 256 * byteAt p (i + 1)

/-- The four-byte field at an offset, little-endian. -/
def u32 (p : Payload) (i : Nat) : Nat := u16 p i + 65536 * u16 p (i + 2)

/-- The four-byte field at an offset as a word. -/
def word (p : Payload) (i : Nat) : Word := BitVec.ofNat 32 (u32 p i)

/-- The signed two-byte field at an offset, two's complement. -/
def i16 (p : Payload) (i : Nat) : Int := if u16 p i < 32768 then u16 p i else (u16 p i : Int) - 65536

/-- The signed four-byte field at an offset, two's complement. -/
def i32 (p : Payload) (i : Nat) : Int := if u32 p i < 2147483648 then u32 p i else (u32 p i : Int) - 4294967296

/-- A request flag: clear for 0, set for any other value (R181). -/
def flagAt (p : Payload) (i : Nat) : Bool := byteAt p i ≠ 0

/-- A bit of a bit-field byte; the other bits are ignored (R181). -/
def bitAt (p : Payload) (i b : Nat) : Bool := (byteAt p i).testBit b

/-- The capability flags of PRINTER_ADD and PRINTER_SET (section 11.6). -/
def capsAt (p : Payload) (i : Nat) : Capabilities := ⟨bitAt p i 0, bitAt p i 1, bitAt p i 2⟩

/-- The bytes of a list field, as numbers. -/
def listAt (p : Payload) (i n : Nat) : List Nat := ((p.drop i).take n).map BitVec.toNat

/-- The position of the first entry of a list field that fails a check (R181). -/
def firstBad (ok : Nat → Bool) (l : List Nat) : Option Nat := l.findIdx? fun x => !ok x

/-! ### Response fields -/

/-- The low `n` bytes of a number, least significant first. -/
def le : Nat → Nat → Payload
  | 0, _ => []
  | n + 1, x => BitVec.ofNat 8 x :: le n (x / 256)

/-- A signed number in `n` bytes, two's complement. -/
def leInt (n : Nat) (x : Int) : Payload := le n (x % (256 ^ n : Nat)).toNat

/-- A response flag, 0 or 1 (R181). -/
def flag (b : Bool) : Payload := [if b then 1 else 0]

/-- An optional field: a presence byte and the field at its full width, 0 when absent (R181). -/
def optional (width : Nat) : Option Nat → Payload
  | none => 0 :: le width 0
  | some x => 1 :: le width x

/-! ### Code values (section 11.5) -/

/-- The kinds in the order of their numbers. -/
def FaultKind.all : List FaultKind :=
  [.doorOpen, .paperJam, .paperOut, .trayEmpty, .offline, .wasteFull, .fuserFault, .engineFault, .maintenanceDue,
   .tonerEmptyK, .tonerEmptyColour, .noContact]

/-- The number of a kind (R22). -/
def FaultKind.index : FaultKind → Fin 12
  | .doorOpen => 0
  | .paperJam => 1
  | .paperOut => 2
  | .trayEmpty => 3
  | .offline => 4
  | .wasteFull => 5
  | .fuserFault => 6
  | .engineFault => 7
  | .maintenanceDue => 8
  | .tonerEmptyK => 9
  | .tonerEmptyColour => 10
  | .noContact => 11

/-- The number of a kind as a plain number. -/
def FaultKind.number (k : FaultKind) : Nat := k.index.val

/-- The kind of a number 0-11. -/
def FaultKind.ofNumber? (n : Nat) : Option FaultKind := FaultKind.all[n]?

/-- The value a kind table holds for a kind. -/
def KindTable.at {α : Type} (t : KindTable α) (k : FaultKind) : α := t.get k.index

/-- Replaces the value a kind table holds for a kind. -/
def KindTable.upd {α : Type} (t : KindTable α) (k : FaultKind) (x : α) : KindTable α :=
  t.set k.index.val x k.index.isLt

/-- The kind table of a function of the kind. -/
def KindTable.of {α : Type} (f : FaultKind → α) : KindTable α :=
  Vector.ofFn fun i => f (FaultKind.all.getD i.val .noContact)

/-- The status codes of section 11.3. -/
def Status.code : Status → Byte
  | .ok => 0x00
  | .notFound => 0x01
  | .exists => 0x02
  | .full => 0x03
  | .limit => 0x04
  | .state => 0x05
  | .busy => 0x06
  | .notPermitted => 0x07
  | .empty => 0x08
  | .badField => 0x09
  | .badLength => 0x0A
  | .unknownRequest => 0x0B

/-- Service state codes; 0 is VACANT. -/
def ServiceState.code : ServiceState → Byte
  | .awaiting => 1
  | .ready => 2
  | .impaired => 3
  | .down => 4
  | .silent => 5

/-- Ticket state codes. -/
def TicketState.code : TicketState → Byte
  | .raised => 0
  | .acked _ => 1
  | .resolved => 2

/-- Job state codes. -/
def JobPhase.code : JobPhase → Byte
  | .held => 0
  | .releasing _ => 1
  | .printing _ _ => 2

/-- Colour codes. -/
def Colour.code : Colour → Byte
  | .mono => 0
  | .colour => 1

/-- Size codes. -/
def Size.code : Size → Byte
  | .a4 => 0
  | .a3 => 1

/-- Target kind codes. -/
def Target.code : Target → Byte
  | .specific _ => 0
  | .floor _ => 1
  | .any => 2

/-- Role codes. -/
def Role.code : Role → Byte
  | .user => 0
  | .service => 1

/-- Acceptance mode codes. -/
def AcceptMode.code : AcceptMode → Byte
  | .all => 0
  | .usersOnly => 1
  | .serviceOnly => 2

/-- The acceptance mode of a code. -/
def AcceptMode.ofCode? : Nat → Option AcceptMode
  | 0 => some .all
  | 1 => some .usersOnly
  | 2 => some .serviceOnly
  | _ => none

/-- Station state codes. -/
def StationState.code : StationState → Byte
  | .unlisted => 0
  | .unknown => 1
  | .alive => 2
  | .lost => 3

/-- Regime codes. -/
def Regime.code : Regime → Byte
  | .off => 0
  | .full => 1
  | .sparse => 2

/-- Time Base mode codes. -/
def TimeMode.code : TimeMode → Byte
  | .held => 0
  | .running => 1

/-- Display outcome codes (section 11.7). -/
def DisplayOutcome.code : DisplayOutcome → Byte
  | .released => 0x01
  | .nothingHeld => 0x02
  | .quota => 0x03
  | .busy => 0x04
  | .unavailable => 0x05
  | .suspended => 0x06
  | .unknownBadge => 0x07
  | .notAccepted => 0x08
  | .notBound => 0x09
  | .serviceAck => 0x0A
  | .serviceClosed => 0x0B
  | .noCallout => 0x0C

/-- The baud value of a line rate (R117). -/
def LineRate.baud : LineRate → Nat
  | .b38400 => 38400
  | .b115200 => 115200
  | .b250000 => 250000

/-- The CLKIN periods of one bit time at a line rate: with these a character of 10 bit times takes the character time of R117's
table, 260.4, 86.8 or 40.0 µs, at the nominal 25 MHz of CLKIN (log entry 25). -/
def LineRate.bitPeriods : LineRate → Nat
  | .b38400 => 651
  | .b115200 => 217
  | .b250000 => 100

/-- The line rate of a baud value (R135). -/
def LineRate.ofBaud? (n : Nat) : Option LineRate :=
  if n = 38400 then some .b38400
  else if n = 115200 then some .b115200
  else if n = 250000 then some .b250000
  else none

/-- A character on TXD or RXD, one level for each bit time: a start bit, the 8 data bits with the least significant first, and a
stop bit (R117). The levels of start and stop bit are log entry 27. -/
def charBits (b : Byte) : List Bool := false :: (List.range 8).map b.getLsbD ++ [true]

/-- The levels of characters sent one right after another (R117). -/
def lineBits (chars : List Byte) : List Bool := (chars.map charBits).flatten

/-- A byte from its bits, the least significant first. -/
def byteOfBits (bits : List Bool) : Byte := BitVec.ofNat 8 (bits.foldr (fun b n => b.toNat + 2 * n) 0)

/-- The characters that a line carries, from its level in each bit time: idle is passed over, a start bit begins a character
(R117). None where a start bit is not followed by 8 data bits and a stop bit, of which the manual says nothing. -/
def readChars : List Bool → Option (List Byte)
  | [] => some []
  | true :: rest => readChars rest
  | false :: a :: b :: c :: d :: e :: f :: g :: h :: true :: rest =>
    (readChars rest).map fun chars => byteOfBits [a, b, c, d, e, f, g, h] :: chars
  | false :: _ => none

/-- The six payload bytes of a display message, the ticket number high byte first (R118, R119). -/
def Message.bytes (m : Message) : List Byte :=
  [m.outcome.code, BitVec.ofNat 8 m.released, BitVec.ofNat 8 m.remaining, BitVec.ofNat 8 m.printer,
   BitVec.ofNat 8 (m.ticket / 256), BitVec.ofNat 8 m.ticket]

end Sys2Proof.Machine
end

