-- ==== Sys2Proof/Machine/Flags.lean ====
section
/-!
DEFINITION. Machine/Flags.lean: the cause word, the mask word and the pins derived from them (section 10.4, R117, R170, R179).
-/

namespace Sys2Proof.Machine

/-- The bit position of a sticky cause (section 11.4). -/
def Cause.bit : Cause → Nat
  | .calloutRaised => 0
  | .calloutEscalated => 1
  | .calloutDeferred => 2
  | .reqOpened => 3
  | .reqOverdue => 4
  | .reqTableFull => 5
  | .stockMismatch => 6
  | .quotaExhausted => 7
  | .printerSilent => 8
  | .counterRebase => 9
  | .stationLost => 10
  | .stationNoisy => 11
  | .jobExpired => 12
  | .jobRecalled => 13
  | .jobAbandoned => 14
  | .sweepDone => 15
  | .portOverrun => 16

/-- The word with one cause's bit. -/
def Cause.mask (c : Cause) : Word := 1#32 <<< c.bit

/-- The seventeen sticky causes, bits 0-16 (section 11.4). -/
def stickyBits : Word := 0x0001FFFF

/-- The level cause DISPATCH_PENDING, bit 17 (section 11.4). -/
def dispatchPendingBit : Word := 0x00020000

/-- The assigned bits of the cause word and of the mask word (R174, R175). -/
def assignedBits : Word := 0x0003FFFF

/-- Sets a sticky cause; a cause already set stays set (R174). -/
def setCause (c : Cause) (s : State) : State :=
  { s with port := { s.port with sticky := s.port.sticky ||| c.mask } }

/-- Sets a sticky cause when a condition holds. -/
def setCauseIf (b : Bool) (c : Cause) (s : State) : State := if b then setCause c s else s

/-- The cause word: the sticky causes, and DISPATCH_PENDING while the dispatch order holds a job (R137, R174). -/
def State.causeWord (s : State) : Word :=
  if s.release.dispatch.isEmpty then s.port.sticky else s.port.sticky ||| dispatchPendingBit

/-- The part is held in reset while RST is low or VDD is below its threshold (R179). -/
def State.inReset (s : State) : Bool := s.pins.rstLow || s.pins.supplyLow

/-- READY: high when no request and no PORT_RESET is being worked on and the part is not held in reset (R170, R179). -/
def State.ready (s : State) : Bool :=
  match s.port.phase with
  | .ready _ => !s.inReset
  | .working _ | .resetting => false

/-- ATTN is asserted while a cause is present whose mask bit is set (R175), and released while held in reset (R179). -/
def State.attn (s : State) : Bool := !s.inReset && s.causeWord &&& s.port.mask != 0

/-- The poll of the exchange in progress is being transmitted (R117). -/
def Line.transmitting (l : Line) : Bool := l.exchange.any fun ex => ex.sending.isSome

/-- DE: asserted from the first bit of a poll to the end of the stop bit of its last character (R117), and released while held
in reset (R179). -/
def State.de (s : State) : Bool := s.line.transmitting && !s.inReset

/-- The level of TXD that an exchange gives: while its poll is transmitted that of the bit whose turn it is, else idle (R117). -/
def Exchange.level (ex : Exchange) : Bool :=
  match ex.sending with
  | none => true
  | some k => (lineBits ex.frame).getD (k / ex.rate.bitPeriods) true

/-- TXD: the characters of the poll being transmitted, bit by bit (R117), and idle otherwise (log entry 27). -/
def State.txd (s : State) : Bool := s.inReset || s.line.exchange.all Exchange.level

end Sys2Proof.Machine
end

