-- ==== Sys2Proof/Machine/Table.lean ====
section
/-!
DEFINITION. Machine/Table.lean: the operations on numbered tables, and the numbers the part issues.
-/

namespace Sys2Proof.Machine

/-- The record at a number, if there is one. -/
def Table.get? {α : Type} : Table α → Nat → Option α
  | [], _ => none
  | (k, v) :: t, n => if k = n then some v else Table.get? t n

/-- Stores a record at a number, in its place, replacing the one there. -/
def Table.put {α : Type} : Table α → Nat → α → Table α
  | [], n, x => [(n, x)]
  | (k, v) :: t, n, x =>
    if k = n then (n, x) :: t
    else if n < k then (n, x) :: (k, v) :: t
    else (k, v) :: Table.put t n x

/-- Changes the record at a number, if there is one. -/
def Table.modify {α : Type} (t : Table α) (n : Nat) (f : α → α) : Table α :=
  t.map fun e => if e.1 = n then (e.1, f e.2) else e

/-- Removes the record at a number. -/
def Table.del {α : Type} (t : Table α) (n : Nat) : Table α :=
  t.filter fun e => e.1 ≠ n

/-- The numbers that hold a record, rising. -/
def Table.keys {α : Type} (t : Table α) : List Nat := t.map Prod.fst

/-- The live record with the lowest number above `n` (R39, R76, R166). -/
def Table.above {α : Type} (t : Table α) (n : Nat) : Option (Nat × α) :=
  t.find? fun e => n < e.1

/-- The numbers of a table strictly rise. -/
abbrev Table.Sorted {α : Type} (t : Table α) : Prop := t.keys.Pairwise (· < ·)

/-- The issued number after `n`, wrapping from 65535 to 1 (section 4.4). -/
def nextNumber (n : Nat) : Nat := if n ≥ 65535 then 1 else n + 1

/-- The next number after `last` that no live record holds (section 4.4): at most `fuel` numbers are passed over. -/
def issueFrom (live : List Nat) : Nat → Nat → Nat
  | 0, last => nextNumber last
  | fuel + 1, last =>
    if nextNumber last ∈ live then issueFrom live fuel (nextNumber last) else nextNumber last

/-- The number the part issues: the next after the last issued, passing over the numbers of live records of the kind
(R31, R67, R100). As many numbers can be passed over as there are live records. -/
def issueNumber (live : List Nat) (last : Nat) : Nat := issueFrom live live.length last

end Sys2Proof.Machine
end

