-- ==== Sys2Proof/Machine/Ops.lean ====
section
/-!
DEFINITION. Machine/Ops.lean: the named operations over the records that every block shares: looking a record up,
changing one record, and the replies of a request (R173).
-/

namespace Sys2Proof.Machine

/-! ### Looking up and changing one record -/

/-- The current run seconds (R157). -/
def State.now (s : State) : Word := s.time.runSeconds

/-- The group record of a group number (R86); every group 0-63 exists. -/
def State.groupAt (s : State) (g : Nat) : BudgetGroup := (s.bank.groups.get? g).getD resetGroup

/-- The prices of a cost class (R89); every class 0-7 has prices. -/
def State.pricesAt (s : State) (c : Nat) : Prices := (s.bank.prices.get? c).getD resetPrices

/-- The station record of an address 1-126 (R124). -/
def State.stationAt (s : State) (a : Nat) : Station := (s.line.stations.get? a).getD resetStation

/-- The job record of a number, if it is live. -/
def State.jobAt (s : State) (n : Nat) : Option Job := s.store.records.find? fun j => j.number == n

/-- An account's job list, oldest first: its records in the order of their submission (R101). -/
def State.jobsOf (s : State) (a : Nat) : List Job := s.store.records.filter fun j => j.owner == a

/-- The account that holds a badge token: the badge index (R80). -/
def State.badge (s : State) (b : Word) : Option (Nat × Account) :=
  s.bank.accounts.find? fun e => e.2.token == some b

/-- A printer's ticket with its number, if it has one (R31). -/
def State.ticketOf (s : State) (p : Nat) : Option (Nat × Ticket) :=
  s.callout.tickets.find? fun e => e.2.printer == p

/-- Changes a printer record, if the number is not VACANT. -/
def updPrinter (n : Nat) (f : Printer → Printer) (s : State) : State :=
  { s with printers := s.printers.modify n f }

/-- Changes a ticket. -/
def updTicket (n : Nat) (f : Ticket → Ticket) (s : State) : State :=
  { s with callout := { s.callout with tickets := s.callout.tickets.modify n f } }

/-- Changes a defined cartridge type. -/
def updType (n : Nat) (f : CartridgeType → CartridgeType) (s : State) : State :=
  { s with stock := { s.stock with types := s.stock.types.modify n f } }

/-- Changes a requisition. -/
def updReq (n : Nat) (f : Requisition → Requisition) (s : State) : State :=
  { s with stock := { s.stock with reqs := s.stock.reqs.modify n f } }

/-- Changes an account. -/
def updAccount (n : Nat) (f : Account → Account) (s : State) : State :=
  { s with bank := { s.bank with accounts := s.bank.accounts.modify n f } }

/-- Changes a group. -/
def updGroup (n : Nat) (f : BudgetGroup → BudgetGroup) (s : State) : State :=
  { s with bank := { s.bank with groups := s.bank.groups.modify n f } }

/-- Changes a job record in its place. -/
def updJob (n : Nat) (f : Job → Job) (s : State) : State :=
  { s with store := { s.store with records := s.store.records.map fun j => if j.number == n then f j else j } }

/-- Changes a station record. -/
def updStation (n : Nat) (f : Station → Station) (s : State) : State :=
  { s with line := { s.line with stations := s.line.stations.modify n f } }

/-- What a job carries while it is in flight (R99). -/
def JobPhase.info? : JobPhase → Option ReleaseInfo
  | .held => none
  | .releasing r => some r
  | .printing r _ => some r

/-- A job is in flight when it is RELEASING or PRINTING. -/
def Job.inFlight (j : Job) : Bool := j.phase.info?.isSome

/-- A job is HELD. -/
def Job.isHeld (j : Job) : Bool := j.phase == .held

/-- A printer's in-flight count: the jobs RELEASING or PRINTING on it (R138). -/
def State.inflightCount (s : State) (p : Nat) : Nat :=
  s.store.records.countP fun j => j.phase.info?.any fun r => r.printer == p

/-! ### Replies of a request -/

/-- A refusal: a status other than OK and the payload it carries (R173). -/
structure Reject where
  status  : Status
  payload : Payload
  deriving DecidableEq, Repr

/-- What the block that owns a request answers: a refusal, which by its form changes no state (R173), or the state after
the request and the payload of its OK response. -/
abbrev Reply := Except Reject (State × Payload)

/-- A refusal without payload. -/
def refuse (st : Status) : Reply := .error ⟨st, []⟩

/-- A refusal whose payload says which record was not found (R173). -/
def notFound (which : Nat) : Reply := .error ⟨.notFound, [BitVec.ofNat 8 which]⟩

/-- BAD_FIELD with the index of the first bad field (R173, R181). -/
def badField (i : Nat) : Reply := .error ⟨.badField, [BitVec.ofNat 8 i]⟩

/-- BAD_FIELD with the index of a list field and the position of its first bad entry (R181). -/
def badEntry (i j : Nat) : Reply := .error ⟨.badField, [BitVec.ofNat 8 i, BitVec.ofNat 8 j]⟩

/-- OK with a payload, after the request's effect. -/
def okay (s : State) (payload : Payload) : Reply := .ok (s, payload)

end Sys2Proof.Machine
end

