-- ==== Sys2Proof/Machine/StockOps.lean ====
section
/-!
DEFINITION. Machine/StockOps.lean: what the Stock Unit does inside the events of other blocks: the derived counts, the
reorder check, the service of pending types and the taking of a swap (R59, R63, R67 to R71).
-/

namespace Sys2Proof.Machine

/-- The wanted count of a type: the cartridge records of the type marked WANTED (R59). -/
def State.wantedCount (s : State) (t : Nat) : Nat :=
  (s.printers.map fun e => e.2.slots.countP fun c => c.wanted && c.type == t).sum

/-- The on-order of a type: the sum of the quantities of its requisitions (R63, R67). -/
def State.onOrder (s : State) (t : Nat) : Nat :=
  (s.stock.reqs.map fun e => if e.2.type = t then e.2.quantity else 0).sum

/-- The OPEN requisition of a type, with its number, if it has one (R67). -/
def State.openReq (s : State) (t : Nat) : Option (Nat × Requisition) :=
  s.stock.reqs.find? fun e => e.2.type == t && e.2.confirmDay.isNone

/-- Sets or clears the pending flag of a type (R69). -/
def setTypePending (b : Bool) (t : Nat) (s : State) : State := updType t (fun r => { r with pending := b }) s

/-- What a reorder check did (R69): nothing, grew or issued the requisition of a number, or found the table full. -/
inductive ReorderResult where
  | none
  | grew (req : Nat)
  | issued (req : Nat)
  | tableFull
  deriving DecidableEq, Repr

/-- The quantity a check orders: the shortfall in whole packs (R69, step 3). -/
def orderQuantity (pack short : Nat) : Nat := pack * ((short + pack - 1) / pack)

/-- Step 4 of R69: the OPEN requisition of the type grows, saturating at 255. A requisition that gains nothing is not
counted as grown (log entry 12). -/
def growReq (t q req : Nat) (r : Requisition) (s : State) : State × ReorderResult :=
  (setTypePending false t (updReq req (fun x => { x with quantity := min 255 (x.quantity + q) }) s),
   if min 255 (r.quantity + q) = r.quantity then .none else .grew req)

/-- Step 5 of R69: a requisition is issued with the next number. -/
def issueReq (t q : Nat) (s : State) : State × ReorderResult :=
  let n := issueNumber s.stock.reqs.keys s.stock.lastReq
  let r : Requisition := ⟨t, min 255 q, s.time.day, Option.none, false⟩
  (setTypePending false t (setCause .reqOpened
    { s with stock := { s.stock with reqs := s.stock.reqs.put n r, lastReq := n } }), .issued n)

/-- The reorder check of type `t` (R69). -/
def reorder (t : Nat) (s : State) : State × ReorderResult :=
  match s.stock.types.get? t with
  | .none => (s, .none)
  | some ty =>
    let need := s.wantedCount t + ty.reserve
    let supply := ty.shelf + s.onOrder t
    if ty.holdOff || need ≤ supply then (setTypePending false t s, .none)
    else
      let q := orderQuantity ty.pack (need - supply)
      match s.openReq t with
      | some (n, r) => growReq t q n r s
      | .none =>
        if s.stock.reqs.length < Config.requisitionEntries then issueReq t q s
        else (setTypePending true t (setCauseIf (!ty.pending) .reqTableFull s), .tableFull)

/-- The reorder check of a type, for its effect alone. -/
def reorderCheck (t : Nat) (s : State) : State := (reorder t s).1

/-- The checks of the types an event concerns, in ascending type number, each once (R68). -/
def reorderChecks (ts : List Nat) (s : State) : State :=
  ((List.range 64).filter fun t => t ∈ ts).foldl (fun s t => reorderCheck t s) s

/-- Serves pending types in the order given, until a check finds the table full (R70). -/
def servePendingFrom : List Nat → State → State
  | [], s => s
  | t :: ts, s =>
    if (s.stock.types.get? t).any fun r => r.pending then
      match reorder t s with
      | (s', .tableFull) => s'
      | (s', _) => servePendingFrom ts s'
    else servePendingFrom ts s

/-- The service of pending types after a requisition retires, in ascending type number (R70). -/
def servePending (s : State) : State := servePendingFrom (List.range 64) s

/-- Whether a type is defined with a shelf of 1 or more (R24, R71). -/
def State.stocked (s : State) (t : Nat) : Bool := (s.stock.types.get? t).any fun r => 1 ≤ r.shelf

/-- A swap of a cartridge of type `t` (R71), and whether the shelf changed, which is announced to the Callout Unit
at the end of the event (R72, R25). The reorder check runs on the result. -/
def takeSwap (t : Nat) (s : State) : State × Bool :=
  if s.stocked t then (reorderCheck t (updType t (fun r => { r with shelf := r.shelf - 1 }) s), true)
  else (reorderCheck t (setCause .stockMismatch s), false)

end Sys2Proof.Machine
end

