-- ==== Sys2Proof/Machine/CalloutOps.lean ====
section
/-!
DEFINITION. Machine/CalloutOps.lean: the toner conditions, the confirmation filter, causes, tickets, reconciliation and
hand-over (R2, R24 to R36, R41).
-/

namespace Sys2Proof.Machine

/-! ### Toner conditions -/

/-- Black empty: the K level is at or below EMPTY_LEVEL (R2). -/
def Printer.blackEmpty (empty : Nat) (p : Printer) : Bool := (p.slots.take 1).any fun c => c.level ≤ empty

/-- Colour unavailable: colour-capable with a C, M or Y level at or below EMPTY_LEVEL (R2). -/
def Printer.colourUnavailable (empty : Nat) (p : Printer) : Bool :=
  p.caps.colour && (p.slots.drop 1).any fun c => c.level ≤ empty

/-! ### Presence and the filter -/

/-- Whether a kind is judged present on a printer (R26). -/
def Printer.present (empty : Nat) (p : Printer) : FaultKind → Bool
  | .tonerEmptyK => p.blackEmpty empty
  | .tonerEmptyColour => p.colourUnavailable empty
  | .noContact => p.state == .silent
  | k => k ∈ p.reported

/-- The move of a filter state at a tick (R28). -/
def FilterState.tick (present : Bool) : FilterState → FilterState
  | .clear => if present then .onset else .clear
  | .onset => if present then .confirmed else .clear
  | .confirmed => if present then .confirmed else .easing
  | .easing => if present then .confirmed else .clear

/-- The settings of a kind. -/
def State.kindOf (s : State) (k : FaultKind) : KindSetting := s.params.kinds.at k

/-- The filter states of a printer after the class-0 judgments of a condition event (R27). -/
def judgeClass0 (s : State) (p : Printer) : KindTable FilterState :=
  KindTable.of fun k =>
    if (s.kindOf k).cls = 0 then (if p.present s.params.emptyLevel k then .confirmed else .clear) else p.filters.at k

/-- The filter states of a printer after a class-n tick (R28). -/
def judgeTick (n : Nat) (s : State) (p : Printer) : KindTable FilterState :=
  KindTable.of fun k =>
    if (s.kindOf k).cls = n then (p.filters.at k).tick (p.present s.params.emptyLevel k) else p.filters.at k

/-! ### Effective severity and causes -/

/-- The severity of a toner kind with its empty cartridges concerned (R24): one step higher, up to 4, unless every one of
them has a type with stock on the shelf. -/
def tonerSeverity (s : State) (base : Nat) (cs : List Cartridge) : Nat :=
  if base = 0 then 0
  else if (cs.filter fun c => c.level ≤ s.params.emptyLevel).all fun c => s.stocked c.type then base
  else min (base + 1) 4

/-- The effective severity of a kind on a printer (R24). -/
def effSeverity (s : State) (p : Printer) (k : FaultKind) : Nat :=
  match k with
  | .tonerEmptyK => tonerSeverity s (s.kindOf k).severity (p.slots.take 1)
  | .tonerEmptyColour => tonerSeverity s (s.kindOf k).severity (p.slots.drop 1)
  | _ => (s.kindOf k).severity

/-- A printer's current causes, in kind order, each with its effective severity (R29). -/
def currentCauses (s : State) (p : Printer) : List (FaultKind × Nat) :=
  FaultKind.all.filterMap fun k =>
    if p.filters.at k = .confirmed ∧ 1 ≤ effSeverity s p k then some (k, effSeverity s p k) else none

/-- The highest effective severity in a cause set, 0 when it is empty (R31). -/
def severityOf (cs : List (FaultKind × Nat)) : Nat := cs.foldl (fun m c => max m c.2) 0

/-- A ticket's severity (R31). -/
def Ticket.severity (t : Ticket) : Nat := severityOf t.causes

/-- A ticket's acknowledged severity, absent but in ACKED (R31). -/
def Ticket.acknowledged (t : Ticket) : Option Nat :=
  match t.state with
  | .acked a => some a
  | _ => none

/-- Whether a kind is in a ticket's cause set. -/
def Ticket.lists (t : Ticket) (k : FaultKind) : Bool := t.causes.any fun c => c.1 == k

/-! ### Issue and reconciliation -/

/-- Issues a ticket to a printer from its current causes (R31), and clears its deferred-callout flag (R36). -/
def issueTicket (pn : Nat) (s : State) : State :=
  match s.printers.get? pn with
  | none => s
  | some p =>
    let cs := currentCauses s p
    let n := issueNumber s.callout.tickets.keys s.callout.lastTicket
    let t : Ticket := ⟨pn, cs, cs.any fun c => !(s.kindOf c.1).autoclose, .raised, 0, s.now, s.now⟩
    setCause .calloutRaised (updPrinter pn (fun p => { p with deferred := false })
      { s with callout := ⟨s.callout.tickets.put n t, n⟩ })

/-- Sets a printer's deferred-callout flag (R35). -/
def deferCallout (pn : Nat) (s : State) : State :=
  setCause .calloutDeferred (updPrinter pn (fun p => { p with deferred := true }) s)

/-- Removes a ticket from the table (R36). -/
def retireTicket (n : Nat) (s : State) : State :=
  { s with callout := { s.callout with tickets := s.callout.tickets.del n } }

/-- What a reconciliation makes of a ticket (R32, R33): retired, or changed, and whether it has become RAISED again. -/
inductive TicketMove where
  | retired
  | kept (t : Ticket) (reopened : Bool)
  deriving DecidableEq, Repr

/-- The ticket's state and escalation point once its cause set is `cs`, which is not empty (R32). -/
def Ticket.restate (now : Word) (t : Ticket) : TicketMove :=
  match t.state with
  | .raised => .kept t false
  | .acked a => if a < t.severity then .kept { t with state := .raised, point := now } true else .kept t false
  | .resolved => .kept { t with state := .raised, point := now } true

/-- The ticket of a printer whose current causes are `cs` (R32, R33). `manual k` says that FAULT_AUTOCLOSE of `k` is 0. -/
def Ticket.reconciled (manual : FaultKind → Bool) (now : Word) (cs : List (FaultKind × Nat)) (t : Ticket) : TicketMove :=
  let mark := t.nonAuto || cs.any fun c => !t.lists c.1 && manual c.1
  let t' := { t with causes := cs, nonAuto := mark }
  if cs.isEmpty then (if mark then .kept { t' with state := .resolved } false else .retired)
  else t'.restate now

/-- Reconciles a printer with its ticket of number `n` (R32, R33). The second component counts the entries freed in this
event, which are held for the hand-overs (R30). -/
def reconcileTicket (n : Nat) (t : Ticket) (p : Printer) (s : State) (freed : Nat) : State × Nat :=
  match t.reconciled (fun k => !(s.kindOf k).autoclose) s.now (currentCauses s p) with
  | .retired => (retireTicket n s, freed + 1)
  | .kept t' reopened => (setCauseIf reopened .calloutRaised (updTicket n (fun _ => t') s), freed)

/-- Reconciles a printer (R30). An entry freed earlier in the event is not used to issue a ticket. -/
def reconcile (acc : State × Nat) (pn : Nat) : State × Nat :=
  match acc.1.printers.get? pn with
  | none => acc
  | some p =>
    match acc.1.ticketOf pn with
    | some (n, t) => reconcileTicket n t p acc.1 acc.2
    | none =>
      if (currentCauses acc.1 p).isEmpty then (updPrinter pn (fun p => { p with deferred := false }) acc.1, acc.2)
      else if p.deferred then acc
      else if acc.1.callout.tickets.length + acc.2 < Config.ticketEntries then (issueTicket pn acc.1, acc.2)
      else (deferCallout pn acc.1, acc.2)

/-- The deferred printers with causes, each with its highest effective severity, in ascending printer number (R36). -/
def handOverCandidates (s : State) : List (Nat × Nat) :=
  s.printers.filterMap fun e =>
    let sev := severityOf (currentCauses s e.2)
    if e.2.deferred ∧ 0 < sev then some (e.1, sev) else none

/-- The candidate with the highest severity, ties to the lowest printer number (R36). -/
def bestCandidate (l : List (Nat × Nat)) : Option Nat :=
  (l.foldl (fun best c => if best.any fun b => c.2 ≤ b.2 then best else some c) none).map Prod.fst

/-- Hands one freed entry over to a deferred printer, if there is one (R36). -/
def handOver (s : State) : State :=
  match bestCandidate (handOverCandidates s) with
  | none => s
  | some pn => issueTicket pn s

/-- Makes one hand-over for each entry freed (R36). -/
def handOvers : Nat → State → State
  | 0, s => s
  | n + 1, s => handOvers n (handOver s)

/-- Reconciles the printers of a list, in its order, and then makes the hand-overs of the entries freed (R30, R36). -/
def reconcileAll (ps : List Nat) (s : State) : State :=
  let r := ps.foldl reconcile (s, 0)
  handOvers r.2 r.1

/-- The printers that satisfy a condition, in ascending printer number. -/
def State.printersWhere (s : State) (f : Nat → Printer → Bool) : List Nat :=
  Table.keys (s.printers.filter fun e => f e.1 e.2)

/-- One of the two toner kinds is CONFIRMED on the printer (R41). -/
def Printer.tonerConfirmed (p : Printer) : Bool :=
  p.filters.at .tonerEmptyK == .confirmed || p.filters.at .tonerEmptyColour == .confirmed

/-- The class-0 judgments of one printer (R27). -/
def judgePrinter (s : State) (n : Nat) : State := updPrinter n (fun p => { p with filters := judgeClass0 s p }) s

/-- The Callout Unit's part at the end of an event (R25, R27, R30, R41): the class-0 judgments of the printers that have a
condition event, then the reconciliation of those printers and of every printer that has a cartridge of an announced
type and a confirmed toner kind, in ascending printer number, then the hand-overs. -/
def calloutUpdate (conds types : List Nat) (s : State) : State :=
  let s := conds.foldl judgePrinter s
  reconcileAll (s.printersWhere fun n p =>
    n ∈ conds || (p.tonerConfirmed && p.slots.any fun c => c.type ∈ types)) s

end Sys2Proof.Machine
end

