-- ==== Sys2Proof/Machine/AccountOps.lean ====
section
/-!
DEFINITION. Machine/AccountOps.lean: cost, availability, reservation and settlement (R90 to R95).
-/

namespace Sys2Proof.Machine

/-- A balance clamped to its range (R84). -/
def clampBalance (b : Int) : Int := max Config.balanceMin (min Config.balanceMax b)

/-- The price of a side: class, colour granted and size (R90, step 1). -/
def Prices.side (p : Prices) : Colour → Size → Nat
  | .mono, .a4 => p.monoA4
  | .mono, .a3 => p.monoA3
  | .colour, .a4 => p.colourA4
  | .colour, .a3 => p.colourA3

/-- The cost of a number of sides (R90): exact, the duplex factor in sixteenths rounded up, limited to COST_MAX. -/
def sidesCost (factor price : Nat) (duplex : Bool) (n : Nat) : Nat :=
  min Config.costMax (if duplex then (n * price * factor + 15) / 16 else n * price)

/-- The cost of `n` sides of a job at a cost class, with the grants given (R90). -/
def State.cost (s : State) (cls : Nat) (size : Size) (col : Colour) (dup : Bool) (n : Nat) : Nat :=
  sidesCost s.params.duplexFactor ((s.pricesAt cls).side col size) dup n

/-- The account available (R92). -/
def State.accountAvailable (s : State) (a : Account) : Int :=
  a.balance - a.reserved + (s.groupAt a.group).overdraft

/-- The pool available of a group (R92). -/
def BudgetGroup.available (g : BudgetGroup) : Int := (g.pool : Int) - g.reserved

/-- How a cost divides into an account portion and a pool portion (R93); none: refused. -/
def State.portions (s : State) (a : Account) (c : Nat) : Option (Nat × Nat) :=
  let avail := s.accountAvailable a
  if (c : Int) ≤ avail then some (c, 0)
  else if a.poolDraw ∧ 0 ≤ avail ∧ (c : Int) - avail ≤ (s.groupAt a.group).available then
    some (avail.toNat, c - avail.toNat)
  else none

/-- An accepted reservation of two portions for an account (R93). -/
def addReservation (an : Nat) (u v : Nat) (s : State) : State :=
  match s.bank.accounts.get? an with
  | none => s
  | some a =>
    updGroup a.group (fun g => { g with reserved := g.reserved + v })
      (updAccount an (fun a => { a with reserved := a.reserved + u }) s)

/-- A refused reservation sets the exhausted flag, and QUOTA_EXHAUSTED when the flag was clear (R95). -/
def markExhausted (an : Nat) (s : State) : State :=
  setCauseIf ((s.bank.accounts.get? an).any fun a => !a.exhausted) .quotaExhausted
    (updAccount an (fun a => { a with exhausted := true }) s)

/-- The account charge of an actual cost `a` (R94, step 1). -/
def accountCharge (r : ReleaseInfo) (a : Nat) : Nat := min a r.accountPortion

/-- The pool charge of an actual cost `a` (R94, step 1). -/
def poolCharge (r : ReleaseInfo) (a : Nat) : Nat := a - accountCharge r a

/-- The settlement of a job of account `an` at actual cost `a` (R94). -/
def settle (an : Nat) (r : ReleaseInfo) (a : Nat) (s : State) : State :=
  match s.bank.accounts.get? an with
  | none => s
  | some acc =>
    updGroup acc.group (fun g =>
        { g with pool := g.pool - poolCharge r a, reserved := g.reserved - r.poolPortion })
      (updAccount an (fun x =>
        { x with balance := max Config.balanceMin (x.balance - accountCharge r a),
                 reserved := x.reserved - r.accountPortion }) s)

end Sys2Proof.Machine
end

