-- ==== Sys2Proof/Machine/JobOps.lean ====
section
/-!
DEFINITION. Machine/JobOps.lean: the moves of a job between its states and out of the Job Store (R102, R105 to R107).
-/

namespace Sys2Proof.Machine

/-- The sides of a job, pages times copies (R99). -/
def Job.sides (j : Job) : Nat := j.pages * j.copies

/-- Whether the job of a number is newer than a sequence value. -/
def State.newerThan (s : State) (q : Word) (n : Nat) : Bool :=
  (s.jobAt n).any fun j => olderSeq q j.seq

/-- Inserts a number immediately before the first one that is newer, or at the end (R106, step 3). -/
def insertBefore (newer : Nat → Bool) (n : Nat) : List Nat → List Nat
  | [] => [n]
  | m :: ms => if newer m then n :: m :: ms else m :: insertBefore newer n ms

/-- Moves a HELD job to RELEASING: stores what the release gives it and removes it from the expiry order (R105). -/
def startRelease (n : Nat) (r : ReleaseInfo) (s : State) : State :=
  let s := updJob n (fun j => { j with phase := .releasing r }) s
  { s with store := { s.store with expiry := s.store.expiry.erase n } }

/-- Returns a job to HELD: clears its release fields and puts it into the expiry order at the place of its sequence
(R106). -/
def returnToHeld (j : Job) (s : State) : State :=
  let s := updJob j.number (fun j => { j with phase := .held }) s
  { s with store := { s.store with
      expiry := insertBefore (s.newerThan j.seq) j.number s.store.expiry } }

/-- Retires a job: it leaves its owner's list and the expiry order, and its record is freed (R107). -/
def retireJob (n : Nat) (s : State) : State :=
  { s with store := { s.store with
      records := s.store.records.filter fun j => j.number != n,
      expiry := s.store.expiry.erase n } }

/-- Removes a job from the dispatch order (R146). -/
def undispatch (n : Nat) (s : State) : State :=
  { s with release := { s.release with dispatch := s.release.dispatch.erase n } }

end Sys2Proof.Machine
end

