-- ==== Sys2Proof/Machine/ReleaseOps.lean ====
section
/-!
DEFINITION. Machine/ReleaseOps.lean: the release decision, the return of a RELEASING job without charge and the recall of
a printer (R138 to R144, R148, R149).
-/

namespace Sys2Proof.Machine

/-! ### Return without charge and recall -/

/-- What a take timeout and a recall do to a RELEASING job: it leaves the dispatch order, is settled without charge and
returned to HELD, and the recalls counter rises (R148, R149). -/
def returnUnreleased (n : Nat) (s : State) : State :=
  match s.jobAt n with
  | none => s
  | some j =>
    match j.phase with
    | .releasing r =>
      let s := returnToHeld j (settle j.owner r 0 (undispatch n s))
      { s with release := { s.release with recalls := s.release.recalls + 1 } }
    | _ => s

/-- Returns every job of a list without charge, and sets JOB_RECALLED when there is one (R148, R149). -/
def returnAll (ns : List Nat) (s : State) : State :=
  setCauseIf (!ns.isEmpty) .jobRecalled (ns.foldl (fun s n => returnUnreleased n s) s)

/-- The RELEASING jobs assigned to a printer, in dispatch order (R149). -/
def State.releasingOn (s : State) (q : Nat) : List Nat :=
  s.release.dispatch.filter fun n => (s.jobAt n).any fun j =>
    match j.phase with
    | .releasing r => r.printer == q
    | _ => false

/-- The recall of a printer (R149). -/
def recallPrinter (q : Nat) (s : State) : State := returnAll (s.releasingOn q) s

/-! ### The release decision -/

/-- A printer accepts releases when it is READY or IMPAIRED (section 1.2). -/
def Printer.accepts (p : Printer) : Bool := p.state == .ready || p.state == .impaired

/-- The printer with the lowest in-flight count, ties to the lowest number (R140). -/
def leastLoaded (count : Nat → Nat) (l : List Nat) : Option Nat :=
  l.foldl (fun best n => if best.any fun b => count b ≤ count n then best else some n) none

/-- The target of a decision at printer `p` (R140). -/
def State.releaseTarget (s : State) (p : Nat) (redirect : Bool) : Option Nat :=
  match s.printers.get? p with
  | none => none
  | some pr =>
    if pr.accepts then some p
    else if redirect then
      leastLoaded s.inflightCount (s.printersWhere fun _ q => q.floor == pr.floor && q.accepts)
    else none

/-- A target admits a printer (R114, R141). -/
def Target.suits (t : Target) (n : Nat) (p : Printer) : Bool :=
  match t with
  | .specific q => q == n
  | .floor f => f == p.floor
  | .any => true

/-- A job is a candidate at a printer (R141). -/
def Job.candidate (n : Nat) (p : Printer) (j : Job) : Bool :=
  j.isHeld && j.target.suits n p && (j.size == .a4 || p.caps.a3)

/-- The colour a job is granted at a printer (R142). -/
def grantColour (empty : Nat) (p : Printer) (j : Job) : Colour :=
  if j.colour = .colour ∧ p.caps.colour ∧ !p.colourUnavailable empty then .colour else .mono

/-- The duplex a job is granted at a printer (R142). -/
def grantDuplex (p : Printer) (j : Job) : Bool := j.duplex && p.caps.duplex

/-- How a release walk ends (R143). -/
inductive WalkEnd where
  | complete
  | busyStop
  | quotaStop
  deriving DecidableEq, Repr

/-- Step 5 of R143: the job is released to printer `t`. -/
def releaseJob (n : Nat) (owner : Nat) (r : ReleaseInfo) (s : State) : State :=
  let s := startRelease n r (addReservation owner r.accountPortion r.poolPortion s)
  { s with release := { s.release with
      dispatch := s.release.dispatch ++ [n], releases := s.release.releases + 1 } }

/-- What job `j` would carry on printer `t`, with its cost divided by the account; none: the reservation is refused
(R143, steps 3 and 4). -/
def State.offer (s : State) (t owner : Nat) (p : Printer) (j : Job) : Option ReleaseInfo :=
  match s.bank.accounts.get? owner with
  | none => none
  | some a =>
    let col := grantColour s.params.emptyLevel p j
    let dup := grantDuplex p j
    let c := s.cost p.costClass j.size col dup j.sides
    (s.portions a c).map fun uv => ⟨t, col, dup, c, uv.1, uv.2, s.now⟩

/-- The walk over the candidates (R143): the state, the number released and how the walk ended. -/
def releaseWalk (t owner : Nat) (p : Printer) : List Job → Nat → State → State × Nat × WalkEnd
  | [], r, s => (s, r, .complete)
  | j :: js, r, s =>
    if s.params.releaseBatch ≤ r then (s, r, .complete)
    else if s.params.printerInflight ≤ s.inflightCount t then (s, r, .busyStop)
    else
      match s.offer t owner p j with
      | none => (markExhausted owner s, r, .quotaStop)
      | some info => releaseWalk t owner p js (r + 1) (releaseJob j.number owner info s)

/-- The outcome of a walk (R144). -/
def walkOutcome (released : Nat) : WalkEnd → DisplayOutcome
  | .complete => .released
  | .busyStop => if released = 0 then .busy else .released
  | .quotaStop => if released = 0 then .quota else .released

/-- The ticket number of a printer, or 0 when it has none (R9, R140). -/
def State.ticketNumber (s : State) (p : Nat) : Nat := ((s.ticketOf p).map Prod.fst).getD 0

/-- The decision at a target, over the candidates given, oldest first (R141, R143, R144). -/
def releaseAt (t owner : Nat) (p : Printer) (cands : List Job) (s : State) : State × Message :=
  if cands.isEmpty then (s, ⟨.nothingHeld, 0, 0, t, 0⟩)
  else
    match releaseWalk t owner p cands 0 s with
    | (s', r, e) => (s', ⟨walkOutcome r e, r, cands.length - r, t, 0⟩)

/-- The release decision for an account at printer `p` (R139 to R144). `only` names the one job of a RELEASE_REQUEST
(R145). The message is what the display or the response carries. -/
def releaseDecision (owner p : Nat) (redirect : Bool) (only : Option Nat) (s : State) : State × Message :=
  if (s.bank.accounts.get? owner).any fun a => a.suspended then (s, ⟨.suspended, 0, 0, p, 0⟩)
  else
    match s.releaseTarget p redirect with
    | none => (s, ⟨.unavailable, 0, 0, p, s.ticketNumber p⟩)
    | some t =>
      match s.printers.get? t with
      | none => (s, ⟨.unavailable, 0, 0, p, s.ticketNumber p⟩)
      | some pr =>
        releaseAt t owner pr
          ((s.jobsOf owner).filter fun j => j.candidate t pr && only.all fun n => n == j.number) s

end Sys2Proof.Machine
end

