-- ==== Sys2Proof/Machine/LineOps.lean ====
section
/-!
DEFINITION. Machine/LineOps.lean: frames and their CRC, the judgment of an exchange, presentations, display slots, polls,
the installation of a calendar and the line settings (R118 to R132, R135, R40).
-/

namespace Sys2Proof.Machine

/-! ### Frames (R118, section 11.7) -/

/-- One shift of the CRC register, with the polynomial 0x1021 on a carry out of bit 15. -/
def crcShift (c : BitVec 16) : BitVec 16 := if c.msb then (c <<< 1) ^^^ 0x1021#16 else c <<< 1

/-- One byte into the CRC register, most significant bit first. -/
def crcByte (c : BitVec 16) (b : Byte) : BitVec 16 :=
  Nat.repeat crcShift 8 (c ^^^ (b.setWidth 16 <<< 8))

/-- The CRC of a byte string: initial value 0xFFFF, no final inversion. -/
def crc16 (bytes : List Byte) : BitVec 16 := bytes.foldl crcByte 0xFFFF#16

/-- The two CRC bytes, high byte first. -/
def crcBytes (bytes : List Byte) : List Byte := [((crc16 bytes) >>> 8).setWidth 8, (crc16 bytes).setWidth 8]

/-- A station-line frame: start, address, kind, length, payload, CRC over all but the start. -/
def lineFrame (address : Nat) (kind : Byte) (payload : List Byte) : List Byte :=
  let body := BitVec.ofNat 8 address :: kind :: BitVec.ofNat 8 payload.length :: payload
  0xC3 :: (body ++ crcBytes body)

/-- The POLL to a station, with the display message of its slot if there is one (R119). -/
def pollFrame (address : Nat) (m : Option Message) : List Byte :=
  lineFrame address 0x10 ((m.map Message.bytes).getD [])

/-- How an exchange is judged (R120, R121). -/
inductive Verdict where
  | idle
  | present (token : Word)
  | badFrame
  | miss
  deriving DecidableEq, Repr

/-- A good reply is a good IDLE or a good PRESENT (R121). -/
def Verdict.good : Verdict → Bool
  | .idle | .present _ => true
  | _ => false

/-- The badge token of a PRESENT payload, most significant byte first (R118). -/
def tokenOf : List Byte → Word
  | [a, b, c, d] => a ++ b ++ c ++ d
  | _ => 0

/-- The verdict of a whole frame by its kind and shape (R121). -/
def kindVerdict (kind : Byte) (payload : List Byte) : Verdict :=
  if kind = 0x01 ∧ payload.length = 0 then .idle
  else if kind = 0x02 ∧ payload.length = 4 then .present (tokenOf payload)
  else .badFrame

/-- Judges a reply that began in the window, from its characters up to the moment the line fell idle (R120, R121). Characters
beyond the frame its length byte announces arrive after the judgment and are not read. -/
def judgeReply (polled : Nat) : List Byte → Verdict
  | start :: address :: kind :: len :: rest =>
    if 8 < len.toNat then .badFrame
    else if rest.length < len.toNat + 2 then .badFrame
    else if start ≠ 0xC3 then .badFrame
    else if (rest.drop len.toNat).take 2 ≠ crcBytes (address :: kind :: len :: rest.take len.toNat) then .badFrame
    else if address.toNat ≠ polled then .badFrame
    else kindVerdict kind (rest.take len.toNat)
  | _ => .badFrame

/-! ### Display slots and presentations -/

/-- Posts a message to a station's display slot; a post to a LOST or UNLISTED station is discarded (R129). -/
def postMessage (a : Nat) (m : Message) (s : State) : State :=
  updStation a (fun st => if st.state = .alive ∨ st.state = .unknown then { st with slot := some m } else st) s

/-- What a service presentation does at printer `p`, and the message it posts (R40). -/
def servicePresentation (p : Nat) (s : State) : State × Message :=
  match s.ticketOf p with
  | none => (s, ⟨.noCallout, 0, 0, p, 0⟩)
  | some (n, t) =>
    match t.state with
    | .raised => (updTicket n (fun t => { t with state := .acked t.severity }) s, ⟨.serviceAck, 0, 0, p, n⟩)
    | .acked _ => (s, ⟨.serviceAck, 0, 0, p, n⟩)
    | .resolved => (handOver (retireTicket n s), ⟨.serviceClosed, 0, 0, p, n⟩)

/-- A USER presentation adds 1 to the presentations counter and makes the release decision (R139). -/
def userPresentation (owner p : Nat) (redirect : Bool) (s : State) : State × Message :=
  releaseDecision owner p redirect none
    { s with release := { s.release with presentations := s.release.presentations + 1 } }

/-- The acceptance mode of a station admits a role (R128). -/
def AcceptMode.accepts : AcceptMode → Role → Bool
  | .usersOnly, .service => false
  | .serviceOnly, .user => false
  | _, _ => true

/-- The decision of a presentation that has passed the repeat guard, and its message (R128). -/
def routePresentation (st : Station) (token : Word) (s : State) : State × Message :=
  match s.badge token with
  | none => (s, ⟨.unknownBadge, 0, 0, st.bound.getD 0, 0⟩)
  | some (n, acc) =>
    if !st.mode.accepts acc.role then (s, ⟨.notAccepted, 0, 0, st.bound.getD 0, 0⟩)
    else
      match st.bound with
      | none => (s, ⟨.notBound, 0, 0, 0, 0⟩)
      | some p =>
        match acc.role with
        | .user => userPresentation n p st.redirect s
        | .service => servicePresentation p s

/-- The repeat guard holds: the same token at the same station within REPEAT_GUARD (R126). -/
def State.guarded (s : State) (st : Station) (token : Word) : Bool :=
  st.last.any fun l => l.1 == token && elapsed s.now l.2 < s.params.repeatGuard

/-- Takes a good PRESENT (R126, R128, R130). -/
def takePresentation (a : Nat) (token : Word) (s : State) : State :=
  let st := s.stationAt a
  let marked := updStation a (fun st => { st with last := some (token, s.now) }) s
  if s.guarded st token then marked
  else
    let s := { marked with line := { marked.line with regime := .full, quietStamp := marked.now, gap := none } }
    let r := routePresentation st token s
    let s := postMessage a r.2 r.1
    { s with line := { s.line with answer := some a } }

/-! ### The judgment of an exchange (R125, R127) -/

/-- Step 1 of R125: the counters. -/
def Station.counted (v : Verdict) (st : Station) : Station :=
  { st with polls := st.polls + 1,
            good := if v.good then st.good + 1 else st.good,
            bad := if v = .badFrame then st.bad + 1 else st.bad }

/-- Step 2 of R125: liveness. -/
def Station.enlivened (missLimit : Nat) (v : Verdict) (st : Station) : Station :=
  if v.good then { st with misses := 0, state := .alive }
  else
    let m := min 15 (st.misses + 1)
    if missLimit ≤ m ∧ st.state ≠ .lost then { st with misses := m, state := .lost, slot := none }
    else { st with misses := m }

/-- Step 3 of R125: the noise window (R127). -/
def Station.noised (limit : Nat) (v : Verdict) (st : Station) : Station :=
  let b := if v = .badFrame then min 255 (st.badCount + 1) else st.badCount
  let noisy := st.noisy || (v == .badFrame && limit ≤ b)
  if st.pollCount = 255 then { st with pollCount := 0, badCount := 0, noisy := noisy && limit ≤ b }
  else { st with pollCount := st.pollCount + 1, badCount := b, noisy := noisy }

/-- Step 4 of R125: a good reply to a poll that carried the slot's message removes it (R129). -/
def Station.delivered (carried : Option Message) (v : Verdict) (st : Station) : Station :=
  if v.good && carried.isSome && st.slot == carried then { st with slot := none } else st

/-- Judges an exchange: its station's record, the causes, and a presentation (R125). -/
def judgeExchange (ex : Exchange) (v : Verdict) (s : State) : State :=
  let st := s.stationAt ex.station
  let live := (st.counted v).enlivened s.params.missLimit v
  let noised := live.noised s.params.noiseLimit v
  let s := updStation ex.station (fun _ => noised.delivered ex.carried v) s
  let s := setCauseIf (st.state ≠ .lost && live.state == .lost) .stationLost s
  let s := setCauseIf (!st.noisy && noised.noisy) .stationNoisy s
  match v with
  | .present token => takePresentation ex.station token s
  | _ => s

/-- The walk position after a calendar exchange (R122). -/
def Line.advanced (l : Line) : Line := { l with walk := if l.walk + 1 < l.calendar.length then l.walk + 1 else 0 }

/-- Ends the exchange in progress: it is judged unless it is abandoned; a calendar exchange moves the walk position unless a
calendar was installed meanwhile (R122, R132), and a SPARSE gap follows it (R123). -/
def endExchange (ex : Exchange) (v : Verdict) (s : State) : State :=
  let s := { s with line := { s.line with exchange := none } }
  let s := if ex.abandoned then s else judgeExchange ex v s
  if ex.answer then s
  else
    let l := if ex.walkFixed then s.line else s.line.advanced
    { s with line := if l.regime = .sparse then { l with gap := some s.params.sparseGap } else l }

/-! ### Polls, calendar and settings -/

/-- Begins an exchange with a station: the poll carries a copy of the slot's message, its first bit goes out with DE
asserted, and the exchange keeps the rate and window it begins with (R117, R119, R120, R135). -/
def beginPoll (a : Nat) (answer : Bool) (s : State) : State :=
  let m := (s.stationAt a).slot
  let ex : Exchange := ⟨a, answer, m, pollFrame a m, some 0, s.line.rate, s.line.window, false, false⟩
  { s with line := { s.line with
      exchange := some ex, gap := none, answer := if answer then none else s.line.answer } }

/-- The CLKIN periods of the transmission of an exchange's poll: 10 bit times for each character (R117). -/
def Exchange.pollPeriods (ex : Exchange) : Nat := (lineBits ex.frame).length * ex.rate.bitPeriods

/-- One CLKIN period of an exchange: a poll being transmitted advances, and ends with the stop bit of its last character, when
DE is released and the reply window opens (R117, R120). -/
def Exchange.period (ex : Exchange) : Exchange :=
  match ex.sending with
  | none => ex
  | some k =>
    { ex with sending := if ex.pollPeriods ≤ k + 1 then none else some (k + 1) }

/-- One CLKIN period of the station line, whose timing is taken from CLKIN and runs in HELD too (R117). -/
def linePeriod (s : State) : State := { s with line := { s.line with exchange := s.line.exchange.map Exchange.period } }

/-- A station's record when a calendar is replaced (R132, steps 1 to 3). -/
def Station.relisted (was is : Bool) (st : Station) : Station :=
  if was && !is then { st with state := .unlisted, slot := none, last := none, misses := 0 }
  else if is && !was then { st with state := .unknown, misses := 0, pollCount := 0, badCount := 0, noisy := false }
  else st

/-- An exchange in progress at the installation of a calendar (R132). -/
def Exchange.recalendared (cal : List Nat) (ex : Exchange) : Exchange :=
  { ex with walkFixed := true, abandoned := ex.abandoned || !cal.contains ex.station }

/-- The line goes from OFF to FULL (R123): the quiet stamp becomes the current run seconds, the walk starts at 0. -/
def Line.toFull (now : Word) (l : Line) : Line := { l with regime := .full, quietStamp := now, walk := 0, gap := none }

/-- The regime after a calendar is installed (R132, step 5). -/
def Line.reregimed (now : Word) (l : Line) : Line :=
  if l.calendar.isEmpty then { l with regime := .off, gap := none }
  else if l.enabled && l.regime == .off then l.toFull now
  else l

/-- Installs a calendar whole (R132). -/
def installCalendar (cal : List Nat) (s : State) : State :=
  let l := s.line
  { s with line := Line.reregimed s.now { l with
      calendar := cal, walk := 0, loading := none,
      answer := l.answer.filter fun a => cal.contains a,
      exchange := l.exchange.map (Exchange.recalendared cal),
      stations := l.stations.map fun e => (e.1, e.2.relisted (l.calendar.contains e.1) (cal.contains e.1)) } }

/-- A station's record when the line is disabled (R135). -/
def Station.disabled (st : Station) : Station :=
  if st.state = .unlisted then { st with slot := none } else { st with state := .unknown, misses := 0, slot := none }

/-- Disables an enabled line: OFF, the exchange in progress abandoned at once, gap and answer poll ended (R135). The walk
position is not moved by a calendar exchange abandoned so: R122 moves it when an exchange ends, and R135 does not say that
this one does (log entry 24). -/
def Line.disable (l : Line) : Line :=
  { l with regime := .off, exchange := none, gap := none, answer := none,
           stations := l.stations.map fun e => (e.1, e.2.disabled) }

/-- Applies the three line settings (R135). -/
def Line.apply (now : Word) (enable : Bool) (rate : LineRate) (window : Nat) (l : Line) : Line :=
  let l' := { l with enabled := enable, rate := rate, window := window }
  if l.enabled && !enable then l'.disable
  else if !l.enabled && enable && !l.calendar.isEmpty then l'.toFull now
  else l'

end Sys2Proof.Machine
end

