-- ==== Sys2Proof/Machine/CartridgeOps.lean ====
section
/-!
DEFINITION. Machine/CartridgeOps.lean: levels, swaps, the forecast, the WANTED test and the sweep of a cartridge
(R44 to R48, R50 to R59).
-/

namespace Sys2Proof.Machine

/-- What the cartridges of one event have done so far: the state, the types whose wanted count a test or a type change has
changed, whose reorder checks are still to run (R68), and the types whose shelf has changed, which the Callout Unit is
told of at the end of the event (R25, R72). -/
structure Ripple where
  state     : State
  marked    : List Nat
  announced : List Nat
  deriving DecidableEq, Repr

/-- The cartridge record of a printer's slot. -/
def State.slotAt (s : State) (pn i : Nat) : Option Cartridge := (s.printers.get? pn).bind fun p => p.slots[i]?

/-- Changes the cartridge record of a printer's slot. -/
def updSlot (pn i : Nat) (f : Cartridge → Cartridge) (s : State) : State :=
  updPrinter pn (fun p => { p with slots := p.slots.modify i f }) s

/-- The forecast of a level, a coverage estimate and a page rate (R51). -/
def forecastDays (l e q : Nat) : Nat := if e * q = 0 then 999 else min 999 (l * 10000 / (e * q))

/-- Recomputes F from L, E and Q (R51). -/
def Cartridge.refreshed (c : Cartridge) : Cartridge := { c with forecast := forecastDays c.level c.coverage c.pageRate }

/-- The condition of the WANTED test: the forecast condition or the floor condition (R58). -/
def State.wantedCondition (s : State) (c : Cartridge) : Bool :=
  ((s.stock.types.get? c.type).any fun t => c.forecast ≤ t.lead + t.margin) || c.level ≤ s.params.floorLevel

/-- The WANTED test: a cartridge already WANTED is not tested (R58). -/
def State.testWanted (s : State) (c : Cartridge) : Cartridge :=
  if c.wanted then c else { c with wanted := s.wantedCondition c }

/-- The types whose wanted count a test has raised: the cartridge's type if it was not WANTED before and is now. -/
def newMark (before after : Cartridge) : List Nat := if !before.wanted && after.wanted then [after.type] else []

/-- Recomputes a slot's forecast and applies the WANTED test (R50). -/
def retestSlot (pn i : Nat) (w : Ripple) : Ripple :=
  match w.state.slotAt pn i with
  | none => w
  | some c =>
    let c' := w.state.testWanted c.refreshed
    { w with state := updSlot pn i (fun _ => c') w.state, marked := newMark c c' ++ w.marked }

/-- A swap with level `n` (R48): the levels and flags, the withdrawal of the mark with the shelf change and its reorder
check, then the forecast and the test. -/
def swapSlot (pn i n : Nat) (w : Ripple) : Ripple :=
  match w.state.slotAt pn i with
  | none => w
  | some c =>
    let r := takeSwap c.type (updSlot pn i
      (fun c => { c with level := n, dayStart := n, stale := false, void := true, wanted := false }) w.state)
    retestSlot pn i { w with state := r.1, announced := if r.2 then c.type :: w.announced else w.announced }

/-- A known level that is no swap (R45, R47): a rise voids today's sample. -/
def acceptLevel (pn i n : Nat) (w : Ripple) : Ripple :=
  let s := updSlot pn i (fun c => { c with level := n, stale := false, void := c.void || c.level < n }) w.state
  retestSlot pn i { w with state := s }

/-- Applies one slot's interpreted level, none for unknown (R45, R46). -/
def applyLevel (pn i : Nat) (level : Option Nat) (w : Ripple) : Ripple :=
  match w.state.slotAt pn i, level with
  | none, _ => w
  | some _, none => { w with state := updSlot pn i (fun c => { c with stale := true }) w.state }
  | some c, some n =>
    if c.level + w.state.params.swapJump ≤ n then swapSlot pn i n w else acceptLevel pn i n w

/-- Applies the levels of a report slot by slot, from slot `i` on (R45). -/
def applyLevels (pn : Nat) : Nat → List (Option Nat) → Ripple → Ripple
  | _, [], w => w
  | i, l :: ls, w => applyLevels pn (i + 1) ls (applyLevel pn i l w)

/-- Changes the cartridge type of a slot (R44); a slot that keeps its type is not touched. -/
def changeType (pn i t : Nat) (w : Ripple) : Ripple :=
  match w.state.slotAt pn i with
  | none => w
  | some c =>
    if c.type = t then w
    else if c.wanted then
      { w with state := updSlot pn i (fun c => { c with type := t }) w.state, marked := c.type :: t :: w.marked }
    else
      let c' := w.state.testWanted { c with type := t }
      { w with state := updSlot pn i (fun _ => c') w.state, marked := newMark c c' ++ w.marked }

/-- Changes the types of the slots from slot `i` on (R44). -/
def changeTypes (pn : Nat) : Nat → List Nat → Ripple → Ripple
  | _, [], w => w
  | i, t :: ts, w => changeTypes pn (i + 1) ts (changeType pn i t w)

/-- The state after the event's count changes with the reorder checks they call for (R68, log entry 13). -/
def Ripple.checked (w : Ripple) : State := reorderChecks w.marked w.state

/-! ### The sweep of a cartridge -/

/-- A coverage sample is taken (R54). -/
def Cartridge.samples (minSample pages : Nat) (c : Cartridge) : Bool :=
  !c.void && !c.stale && c.level ≤ c.dayStart && minSample ≤ pages

/-- A smoothed average in sixteenths, rounded to the nearest integer, halves upward (R55, R56). -/
def smooth (k old sample : Nat) : Nat := (old * (16 - k) + sample * k + 8) / 16

/-- The coverage update (R54, R55). -/
def Cartridge.learnCoverage (minSample k pages : Nat) (c : Cartridge) : Cartridge :=
  if c.samples minSample pages then
    let sample := min 65535 ((c.dayStart - c.level) * 10000 / pages)
    { c with coverage := if c.eSeeded then smooth k c.coverage sample else sample, eSeeded := true }
  else c

/-- The page rate update (R56). -/
def Cartridge.learnRate (k days pages : Nat) (c : Cartridge) : Cartridge :=
  { c with pageRate := if c.qSeeded then smooth k c.pageRate (pages / days) else pages / days, qSeeded := true }

/-- The sweep of a cartridge charged with `pages` sides over `days` days (R53 to R58). -/
def State.sweepCartridge (s : State) (pages : Nat) (c : Cartridge) : Cartridge :=
  let c := (c.learnCoverage s.params.minSample s.params.smoothE pages).learnRate s.params.smoothQ s.time.span pages
  let c := c.refreshed
  s.testWanted { c with dayStart := c.level, void := false }

/-- The page count of a slot at its sweep (R53). -/
def Printer.pagesOf (p : Printer) (i : Nat) : Nat := if i = 0 then min 65535 (p.pMono + p.pColour) else p.pColour

/-- The cartridge records of a printer after its sweep (R52, step 1). -/
def State.sweptSlots (s : State) (p : Printer) : List Cartridge :=
  p.slots.mapIdx fun i c => s.sweepCartridge (p.pagesOf i) c

/-- Sweeps a printer: its cartridges, then its accumulators and its rebase flag (R52), then the reorder checks of the
types newly wanted (R59, R68). -/
def sweepPrinter (pn : Nat) (p : Printer) (s : State) : State :=
  let after := s.sweptSlots p
  let marks := (List.zipWith newMark p.slots after).flatten
  reorderChecks marks
    (updPrinter pn (fun p => { p with slots := after, pMono := 0, pColour := 0, rebase := false }) s)

end Sys2Proof.Machine
end

