-- ==== Sys2Proof/Machine/PrinterOps.lean ====
section
/-!
DEFINITION. Machine/PrinterOps.lean: the service state and its changes, the counters of a report, the condition events of a
printer (R3 to R5, R13 to R17).
-/

namespace Sys2Proof.Machine

/-- A reported kind is blocking (R3): a fixed property of the kind. -/
def FaultKind.blocking : FaultKind → Bool
  | .trayEmpty | .maintenanceDue | .tonerEmptyColour => false
  | _ => true

/-- The derived service state (R3). -/
def Printer.derived (empty : Nat) (p : Printer) : ServiceState :=
  if (p.reported.any fun k => k.blocking) || p.blackEmpty empty then .down
  else if !p.reported.isEmpty || p.colourUnavailable empty then .impaired
  else .ready

/-- Stores a service state, and calls the recall when it has changed to DOWN or SILENT (R5). -/
def setServiceState (pn : Nat) (st : ServiceState) (s : State) : State :=
  match s.printers.get? pn with
  | none => s
  | some p =>
    let s := updPrinter pn (fun p => { p with state := st }) s
    if p.state ≠ st ∧ (st = .down ∨ st = .silent) then recallPrinter pn s else s

/-- Derives a printer's service state (R3, R4, R5). -/
def deriveState (pn : Nat) (s : State) : State :=
  match s.printers.get? pn with
  | none => s
  | some p => setServiceState pn (p.derived s.params.emptyLevel) s

/-- Derives the service state of a printer that is READY, IMPAIRED or DOWN; an AWAITING or SILENT printer keeps its
state (R4). -/
def rederiveState (pn : Nat) (s : State) : State :=
  match s.printers.get? pn with
  | none => s
  | some p => if p.state = .awaiting ∨ p.state = .silent then s else deriveState pn s

/-- What one counter of a report gives (R15): the delta and the two indications. -/
structure CounterDelta where
  delta     : Nat
  discarded : Bool
  clamped   : Bool
  deriving DecidableEq, Repr

/-- The delta of a reported counter against its baseline (R15). -/
def counterDelta (limit : Nat) (base : Option Word) (v : Word) : CounterDelta :=
  match base with
  | none => ⟨0, false, false⟩
  | some b =>
    if v < b then ⟨0, true, false⟩
    else if v.toNat - b.toNat ≤ limit then ⟨v.toNat - b.toNat, false, false⟩
    else ⟨limit, false, true⟩

/-- A counter delta was discarded or clamped. -/
def CounterDelta.rebased (d : CounterDelta) : Bool := d.discarded || d.clamped

/-- Step 1 of R17: the baselines, the accumulators, the rebase flag and COUNTER_REBASE (R15, R16). -/
def applyCounters (pn : Nat) (mono colour : Word) (dm dc : CounterDelta) (s : State) : State :=
  let r := dm.rebased || dc.rebased
  setCauseIf r .counterRebase (updPrinter pn (fun p =>
    { p with monoBase := some mono, colourBase := some colour,
             pMono := min 65535 (p.pMono + dm.delta), pColour := min 65535 (p.pColour + dc.delta),
             rebase := p.rebase || r }) s)

/-- The meaning of a level field (R13): none is unknown. -/
def reportLevel (v : Nat) : Option Nat := if v = 65535 then none else some (min 1000 v)

/-- The set of distinct kinds a report names (R14), in kind order. -/
def reportSet (kinds : List Nat) : List FaultKind :=
  FaultKind.all.filter fun k => k.number < 9 ∧ k.number ∈ kinds

/-- The work of an accepted STATUS_REPORT, in the order of R17. -/
def applyReport (pn : Nat) (p : Printer) (kinds : List Nat) (levels : List Nat) (mono colour : Word) (s : State) : State :=
  let s := applyCounters pn mono colour (counterDelta s.params.deltaLimit p.monoBase mono)
    (counterDelta s.params.deltaLimit p.colourBase colour) s
  let w := applyLevels pn 0 (levels.map reportLevel) ⟨s, [], []⟩
  let s := updPrinter pn (fun p => { p with reported := reportSet kinds, lastReport := s.now }) w.checked
  calloutUpdate [pn] w.announced (deriveState pn s)

end Sys2Proof.Machine
end

