-- ==== Sys2Proof/Machine/SweepOps.lean ====
section
/-!
DEFINITION. Machine/SweepOps.lean: sweep requests and starts, the refill test, the steps of the groups, accounts and types, and
the end of a sweep (R77, R96, R97, R164 to R167).
-/

namespace Sys2Proof.Machine

/-- The modular difference of two day numbers (R77, R162, R165). -/
def dayDiff (a b : Day) : Nat := (a - b).toNat

/-- The span of a sweep that opens `opening` after the last swept day (R165, step 2). -/
def sweepSpan (opening lastSwept : Day) : Nat := max 1 (min 255 (dayDiff opening lastSwept))

/-- Starts a sweep (R165). A sweep starts only when the last swept day is present. -/
def startSweep (t : TimeBase) : TimeBase :=
  { t with opening := t.day, closing := t.day - 1, span := sweepSpan t.day (t.lastSwept.getD t.day),
           lastSwept := some t.day, sweep := some (.printers 0) }

/-- A sweep request (R164). -/
def requestSweep (t : TimeBase) : TimeBase :=
  match t.sweep with
  | none => startSweep t
  | some _ => { t with queued := true }

/-- A day number is a period day of a group (R96). -/
def BudgetGroup.periodDay (g : BudgetGroup) (x : Day) : Bool := x.toNat % g.period == g.phase

/-- A sweep over `d` days that ends with the closing day refills a group (R96). -/
def BudgetGroup.refilledBy (g : BudgetGroup) (closing : Day) (d : Nat) : Bool :=
  (List.range d).any fun i => g.periodDay (closing - BitVec.ofNat 16 i)

/-- The group step of a sweep (R97). -/
def groupStep (n : Nat) (s : State) : State :=
  updGroup n (fun g =>
    if g.refilledBy s.time.closing s.time.span ∧ g.pool < g.cap then { g with pool := min (g.pool + g.allowance) g.cap }
    else g) s

/-- The account step of a sweep (R97): the refill, and the exhausted flag cleared when the account available has risen and
is above 0 (R95). -/
def accountStep (n : Nat) (s : State) : State :=
  updAccount n (fun a =>
    if (s.groupAt a.group).refilledBy s.time.closing s.time.span ∧ a.balance < a.cap then
      let b := min (a.balance + a.allowance) (a.cap : Int)
      let avail := s.accountAvailable { a with balance := b }
      { a with balance := b, exhausted := a.exhausted && !(a.balance < b && 0 < avail) }
    else a) s

/-- A requisition is found overdue at a sweep (R77, step 3). -/
def Requisition.becomesOverdue (opening : Day) (limit : Nat) (r : Requisition) : Bool :=
  !r.overdue && r.confirmDay.any fun c => dayDiff opening c ≤ 32767 && limit < dayDiff opening c

/-- The overdue examination of a type's requisitions (R77, step 3). -/
def checkOverdue (t : Nat) (s : State) : State :=
  match s.stock.types.get? t with
  | none => s
  | some ty =>
    let due := fun r : Requisition => r.type == t && r.becomesOverdue s.time.opening (ty.lead + s.params.overdueGrace)
    setCauseIf (s.stock.reqs.any fun e => due e.2) .reqOverdue
      { s with stock := { s.stock with
          reqs := s.stock.reqs.map fun e => if due e.2 then (e.1, { e.2 with overdue := true }) else e } }

/-- The type step of a sweep (R77). -/
def typeStep (t : Nat) (s : State) : State :=
  checkOverdue t (reorderCheck t (updType t (fun r => { r with holdOff := false }) s))

/-- Sets the walk of the sweep. -/
def setWalk (w : Option SweepWalk) (s : State) : State := { s with time := { s.time with sweep := w } }

/-- Completes a sweep: SWEEP_DONE, and a queued sweep starts at once (R167). -/
def completeSweep (s : State) : State :=
  let s := setCause .sweepDone s
  { s with time :=
      if s.time.queued then startSweep { s.time with queued := false } else { s.time with sweep := none } }

/-- The walk over the accounts after the account of number `last`: at its end the walk over the types begins (R166). -/
def accountWalk (last : Nat) (s : State) : SweepWalk :=
  match s.bank.accounts.above last with
  | some _ => .accounts last
  | none => .types 0

/-- Where the sweep stands once the numbers that hold nothing more to reach are passed over (R166): a printer walk with
no printer left stands at group 0, an account walk with no account left at type 0. -/
def passedOver (s : State) : SweepWalk → SweepWalk
  | .printers n => if s.printers.any fun e => n ≤ e.1 then .printers n else .groups 0
  | .accounts n => accountWalk n s
  | w => w

/-- The printer step: passes over VACANT numbers and sweeps the first printer at or after the position (R52, R166). With no
printer left the numbers up to 255 are passed over and the walk goes on at group 0. -/
def sweepPrinterWalk (n : Nat) (s : State) : State :=
  match s.printers.find? fun e => n ≤ e.1 with
  | none => setWalk (some (.groups 0)) s
  | some (pn, p) => setWalk (some (if pn < 255 then .printers (pn + 1) else .groups 0)) (sweepPrinter pn p s)

/-- The group step and the walk's next position (R97, R166). -/
def sweepGroupWalk (n : Nat) (s : State) : State :=
  setWalk (some (if n < 63 then .groups (n + 1) else accountWalk 0 s)) (groupStep n s)

/-- The account step and the walk's next position (R97, R166). -/
def sweepAccountWalk (last : Nat) (s : State) : State :=
  match s.bank.accounts.above last with
  | none => setWalk (some (.types 0)) s
  | some (n, _) => setWalk (some (accountWalk n s)) (accountStep n s)

/-- The type step, and the completion of the sweep after the last type (R77, R167). -/
def sweepTypeWalk (n : Nat) (s : State) : State :=
  let s := typeStep n s
  if n < 63 then setWalk (some (.types (n + 1))) s else completeSweep s

end Sys2Proof.Machine
end

