-- ==== Sys2Proof/Machine/Timers.lean ====
section
/-!
DEFINITION. Machine/Timers.lean: the second event and the timers that run at it (R18, R28, R34, R112, R123, R148, R153, R157,
R158, R160). A second event is one event whose timers are rows of the table: SECOND_EVENT advances the clocks and
leaves the timers due, each timer row runs its timer, and any other event first finishes those still due (log entry 3).
-/

namespace Sys2Proof.Machine

/-! ### The timers -/

/-- Notes the jobs a timer of this second event has returned to HELD (R112). -/
def noteReturned (ns : List Nat) (s : State) : State :=
  { s with second := { s.second with returned := s.second.returned ++ ns } }

/-- A RELEASING job's take timeout is due (R148). -/
def State.takeDue (s : State) (n : Nat) : Bool :=
  (s.jobAt n).any fun j =>
    match j.phase with
    | .releasing r => s.params.takeLimit ≤ elapsed s.now r.releasedAt
    | _ => false

/-- The take timeouts of a second event: the leading run of the dispatch order that is due (R148). -/
def takeTimeouts (s : State) : State :=
  let ns := s.release.dispatch.takeWhile s.takeDue
  noteReturned ns (returnAll ns s)

/-- A printer becomes SILENT (R18): not SILENT yet, and unreported for SILENCE_LIMIT seconds. -/
def State.silenceDue (s : State) (p : Printer) : Bool :=
  p.state ≠ .silent && s.params.silenceLimit ≤ elapsed s.now p.lastReport

/-- Notes the printers whose causes a timer of this second event may have changed, for its reconciliation (R28, R30). -/
def noteUnreconciled (ps : List Nat) (s : State) : State :=
  { s with second := { s.second with unreconciled := s.second.unreconciled ++ ps } }

/-- One printer's entry into SILENT (R18): the state, PRINTER_SILENT and the recall. -/
def silencePrinter (s : State) (pn : Nat) : State :=
  let ns := s.releasingOn pn
  noteReturned ns (setServiceState pn .silent (setCause .printerSilent s))

/-- The silence examination of a second event, in ascending printer number, with the class-0 judgments of the printers that
became SILENT, which the event then reconciles (R18, R27). -/
def silenceExamination (s : State) : State :=
  let ps := s.printersWhere fun _ p => s.silenceDue p
  noteUnreconciled ps (ps.foldl judgePrinter (ps.foldl silencePrinter s))

/-- The period of a filter class (R28). -/
def classPeriod (n : Nat) : Nat := 15 * 2 ^ (n - 1)

/-- A class has a tick at the present run second (R28). -/
def State.tickDue (s : State) (n : Nat) : Bool := s.now.toNat % classPeriod n == 0

/-- A kind entered or left CONFIRMED between two filter tables (R28). -/
def confirmedMoved (before after : KindTable FilterState) : Bool :=
  FaultKind.all.any fun k => (before.at k == .confirmed) != (after.at k == .confirmed)

/-- The class-n tick: every kind of the class is judged on every printer. The event then reconciles the printers where a kind
entered or left CONFIRMED (R28). -/
def classTickEffect (n : Nat) (s : State) : State :=
  let moved := s.printersWhere fun _ p => confirmedMoved p.filters (judgeTick n s p)
  noteUnreconciled moved
    { s with printers := s.printers.map fun e => (e.1, { e.2 with filters := judgeTick n s e.2 }) }

/-- The reconciliation of a second event, made once, after its last judgment: the printers where the silence examination and
the ticks may have changed the causes, in ascending printer number, and then the hand-overs (R28, R30, R36). -/
def reconcileSecond (s : State) : State :=
  { reconcileAll (s.printersWhere fun n _ => n ∈ s.second.unreconciled) s with
    second := { s.second with unreconciled := [] } }

/-- The escalation interval of a severity, in minutes (R34). -/
def State.escInterval (s : State) (severity : Nat) : Nat :=
  match severity with
  | 1 => s.params.escInterval1
  | 2 => s.params.escInterval2
  | 3 => s.params.escInterval3
  | _ => s.params.escInterval4

/-- A ticket escalates at this second event (R34). -/
def State.escalates (s : State) (t : Ticket) : Bool :=
  t.state == .raised && t.level < 3 && 60 * s.escInterval t.severity ≤ elapsed s.now t.point

/-- The escalations of a second event (R34). -/
def escalations (s : State) : State :=
  setCauseIf (s.callout.tickets.any fun e => s.escalates e.2) .calloutEscalated
    { s with callout := { s.callout with tickets := s.callout.tickets.map fun e =>
        (e.1, if s.escalates e.2 then { e.2 with level := e.2.level + 1, point := s.now } else e.2) } }

/-- What an abandonment does to a job (R153). -/
def abandonJob (s : State) (j : Job) : State :=
  match j.phase with
  | .printing r _ =>
    retireJob j.number (updPrinter r.printer (fun p => { p with jobsAbandoned := p.jobsAbandoned + 1 })
      (settle j.owner r (if s.params.abandonCharge = 1 then r.cost else 0) s))
  | _ => s

/-- A PRINTING job is abandoned at this second event (R153). -/
def State.abandonDue (s : State) (j : Job) : Bool :=
  match j.phase with
  | .printing _ at_ => s.params.abandonLimit * 60 ≤ elapsed s.now at_
  | _ => false

/-- The abandonments of a second event (R153). -/
def abandonments (s : State) : State :=
  let js := s.store.records.filter s.abandonDue
  setCauseIf (!js.isEmpty) .jobAbandoned (js.foldl abandonJob s)

/-- A HELD job's hold time has run out (R112). -/
def State.holdDue (s : State) (n : Nat) : Bool :=
  (s.jobAt n).any fun j => s.params.holdTime * 3600 ≤ elapsed s.now j.submitRun

/-- The jobs that expire: the leading run of the expiry order that is due, passing over the jobs returned to HELD in this
second event (R112). -/
def expiring (skip due : Nat → Bool) : List Nat → List Nat
  | [] => []
  | n :: ns => if skip n then expiring skip due ns else if due n then n :: expiring skip due ns else []

/-- The hold expiry of a second event (R112). -/
def holdExpiries (s : State) : State :=
  let ns := expiring (fun n => s.second.returned.contains n) s.holdDue s.store.expiry
  setCauseIf (!ns.isEmpty) .jobExpired (ns.foldl (fun s n => retireJob n s) s)

/-- The quiet timer: FULL to SPARSE (R123). -/
def quietTimer (s : State) : State :=
  if s.line.regime = .full ∧ s.params.quietAfter ≠ 0 ∧ s.params.quietAfter * 60 ≤ elapsed s.now s.line.quietStamp then
    { s with line := { s.line with regime := .sparse } }
  else s

/-- The day boundary (R160): the day number rises, and a sweep is requested unless the last swept day is absent. -/
def dayBoundaryEffect (s : State) : State :=
  let t := { s.time with day := s.time.day + 1 }
  { s with time :=
      match t.lastSwept with
      | none => { t with lastSwept := some t.day }
      | some _ => requestSweep t }

/-- Runs one timer. -/
def runTimer : Timer → State → State
  | .dayBoundary, s => dayBoundaryEffect s
  | .takeTimeout, s => takeTimeouts s
  | .silence, s => silenceExamination s
  | .tick n, s => classTickEffect n s
  | .escalation, s => escalations s
  | .abandonment, s => abandonments s
  | .holdExpiry, s => holdExpiries s
  | .quiet, s => quietTimer s

/-! ### The second event -/

/-- A second event is a day boundary (R160). -/
def State.boundaryDue (s : State) : Bool := s.time.building.toNat % 86400 == s.params.dayStart

/-- The timers of the second event that has just advanced the clocks, in the order in which the model runs those that no
command has run (log entry 4). -/
def dueTimers (s : State) : List Timer :=
  (if s.boundaryDue then [.dayBoundary] else []) ++ [.takeTimeout, .silence]
    ++ ((List.range' 1 7).filter s.tickDue).map .tick ++ [.escalation, .abandonment, .holdExpiry, .quiet]

/-- The tick divider completes (R158): the count returns to 0, both clocks advance, and the timers fall due. -/
def beginSecond (s : State) : State :=
  let s := { s with time := { s.time with
    divider := 0, runSeconds := s.time.runSeconds + 1, building := s.time.building + 1 } }
  { s with second := ⟨dueTimers s, [], []⟩ }

/-- The timers that judge fault kinds: the silence examination and the class ticks (R27, R28). -/
def Timer.judges : Timer → Bool
  | .silence | .tick _ => true
  | _ => false

/-- Takes a timer off those due; with none left the second event is over. -/
def closeTimer (t : Timer) (s : State) : State :=
  let due := s.second.due.erase t
  { s with second := { s.second with due := due, returned := if due.isEmpty then [] else s.second.returned } }

/-- Runs a due timer and takes it off. After the last timer that judges fault kinds the event reconciles (R28, R30). -/
def passTimer (s : State) (t : Timer) : State :=
  let s := closeTimer t (runTimer t s)
  if t.judges && !s.second.due.any Timer.judges then reconcileSecond s else s

/-- Finishes the second event in progress: the timers still due, in order. -/
def finishSecond (s : State) : State :=
  { s.second.due.foldl passTimer s with second := ⟨[], [], []⟩ }

/-- The timers of one second event that must precede another: the silence examination the class ticks, for from this event on
NO_CONTACT is judged present for a printer that became SILENT (R18); and every timer that judges fault kinds the escalation,
which comes after the reconciliations of the same second event (R34). -/
def Timer.before : Timer → Timer → Bool
  | .silence, .tick _ => true
  | t, .escalation => t.judges
  | _, _ => false

/-- A timer row: the timer runs if it is due, after those due timers that must precede it. A timer that is not due does not
occur (log entry 7), nor does any while the part is held in reset (R179). -/
def timerRow (t : Timer) (s : State) : State :=
  if s.inReset then s
  else if t ∈ s.second.due then passTimer ((s.second.due.filter fun u => u.before t).foldl passTimer s) t
  else s

/-- Any other event: nothing while the part is held in reset (R179); otherwise it is taken wholly after the second event in
progress (R170). -/
def asEvent (f : State → State) (s : State) : State := if s.inReset then s else f (finishSecond s)

/-- The row SECOND_EVENT: in RUNNING the divider completes; in HELD no second event occurs (R158, R159). -/
def secondEventEffect (s : State) : State := if s.time.mode = .running then beginSecond s else s

/-- One CLKIN period of the Time Base: while RUNNING the divider counts, and completes when the count has reached
TICK_DIVISOR (R158). -/
def dividerPeriod (s : State) : State :=
  if s.time.mode = .running then
    if s.params.tickDivisor ≤ s.time.divider + 1 then beginSecond s
    else { s with time := { s.time with divider := s.time.divider + 1 } }
  else s

/-- One CLKIN period, the step on an empty queue (log entry 6): of the station line and of the Time Base. -/
def clockPeriod (s : State) : State := dividerPeriod (linePeriod s)

end Sys2Proof.Machine
end

