-- ==== Sys2Proof/Machine/PortOps.lean ====
section
/-!
DEFINITION. Machine/PortOps.lean: taking a request, storing its response, reading it, and reset (R169 to R173, R179, R180).
-/

namespace Sys2Proof.Machine

/-- The response a reply forms, with the request's code echoed (R170). -/
def responseOf (code : Byte) : Except Reject (State × Payload) → Response
  | .error r => ⟨r.status, code, r.payload⟩
  | .ok r => ⟨.ok, code, r.2⟩

/-- The state a reply leaves: a refusal changes none (R173). -/
def stateOf (s : State) : Except Reject (State × Payload) → State
  | .error _ => s
  | .ok r => r.1

/-- The response is being formed and READY is low (R170, step 1). -/
def setWorking (r : Response) (s : State) : State := { s with port := { s.port with phase := .working r } }

/-- Answers a taken frame: the state after it, with the response being formed. -/
def answer (code : Byte) (rep : Reply) (s : State) : State := setWorking (responseOf code rep) (stateOf s rep)

/-- A frame arrives at the port: while a request is being worked on it is discarded and PORT_OVERRUN is set (R172), while a
PORT_RESET is at work it is ignored without cause (R179); otherwise it is taken (R170). -/
def atPort (take : State → State) (s : State) : State :=
  match s.port.phase with
  | .working _ => setCause .portOverrun s
  | .resetting => s
  | .ready _ => take s

/-- Takes a request of a code with the work of the block that owns it (R170). A payload longer than 60 bytes is that of no
well-formed frame (R169), and is answered BAD_LENGTH. -/
def takeRequest (code : Byte) (body : Payload → State → Reply) (p : Payload) (s : State) : State :=
  asEvent (atPort fun s =>
    answer code (if Config.payloadMax < p.length then refuse .badLength else body p s) s) s

/-- The response of the request being worked on is stored and READY rises (R170, step 6). READY rises too at the end of a
PORT_RESET, with the reset response as the current response (R179, R180, log entry 26). -/
def storeResponse (s : State) : State :=
  match s.port.phase with
  | .working r => { s with port := { s.port with phase := .ready r } }
  | .resetting => { s with port := { s.port with phase := .ready resetResponse } }
  | .ready _ => s

/-- What a read transaction shifts out after its first byte, the trailing zeros left out (R171); none while transactions are
ignored (R179). -/
def State.readTransaction (s : State) : Option (List Byte) :=
  if s.inReset then none
  else
    match s.port.phase with
    | .ready r => some (r.status.code :: r.code :: BitVec.ofNat 8 r.payload.length :: r.payload)
    | .working r => some [Status.busy.code, r.code, 0]
    | .resetting => none

/-- The bytes on MISO during a transaction in which the host clocks the bytes given (R169, R171): 0x00 throughout a request
transaction; in a read transaction 0x00 during the first byte, then the response as far as it is clocked, and 0x00 beyond
its end. None while transactions are ignored (R179). -/
def State.miso (s : State) (clocked : List Byte) : Option (List Byte) :=
  s.readTransaction.map fun response =>
    match clocked with
    | [] => []
    | b :: rest =>
      if b = 0 then 0 :: (List.range rest.length).map fun i => response.getD i 0
      else List.replicate (rest.length + 1) 0

/-- Every block enters its reset state (R179, R180). The queue and the counter of the free values are no part of it. -/
def resetAll (s : State) : State := { State.reset with pending := s.pending, freeCount := s.freeCount }

/-- An accepted PORT_RESET (R179): READY low, every block reset, an exchange in progress abandoned with DE released. The port
ignores transactions until READY rises. -/
def beginPortReset (s : State) : State :=
  { resetAll s with port := { resetPort with phase := .resetting } }

/-- Work in progress is lost when a hold begins: the request being worked on, the exchange on the station line and the second
event (R179). -/
def abandonWork (s : State) : State :=
  { s with port := { s.port with phase := .ready resetResponse }, line := { s.line with exchange := none },
           second := ⟨[], [], []⟩ }

/-- Sets the reset sources (R179): a hold begins with the first source and ends, with every block reset, with the last. -/
def setPins (pins : Pins) (s : State) : State :=
  if s.inReset && !(pins.rstLow || pins.supplyLow) then resetAll s
  else if s.inReset then { s with pins := pins }
  else if pins.rstLow || pins.supplyLow then { abandonWork s with pins := pins }
  else s

end Sys2Proof.Machine
end

