-- ==== Sys2Proof/Machine/Accounts.lean ====
section
/-!
DEFINITION. Machine/Accounts.lean: the requests on accounts, groups and prices (R79 to R89, R95).
-/

namespace Sys2Proof.Machine

open Host (Outcome)

/-! ### Accounts -/

/-- The role of a code (section 11.5). -/
def Role.ofCode (n : Nat) : Role := if n = 1 then .service else .user

/-- A badge token field: 0 is none (R81). -/
def tokenField (w : Word) : Option Word := if w = 0 then none else some w

/-- The number of the account that holds a token, other than account `n` (R80). -/
def State.tokenHolder (s : State) (n : Nat) (token : Option Word) : Option Nat :=
  match token with
  | none => none
  | some b => ((s.badge b).filter fun e => e.1 ≠ n).map Prod.fst

/-- EXISTS with the number of the account that holds the number or the token (R81, R82). -/
def existsAt (n : Nat) : Reply := .error ⟨.exists, le 2 n⟩

/-- The account ACCOUNT_ADD creates (R81, section 11.6). -/
def newAccount (p : Payload) : Account where
  token := tokenField (word p 2)
  group := byteAt p 6
  role := Role.ofCode (byteAt p 7)
  suspended := byteAt p 8 == 1
  colour := bitAt p 9 0
  poolDraw := bitAt p 9 1
  balance := i32 p 10
  reserved := 0
  allowance := u32 p 14
  cap := u32 p 18
  exhausted := false

/-- ACCOUNT_ADD (R81). -/
def accountAdd (p : Payload) (s : State) : Reply :=
  if p.length ≠ 22 then refuse .badLength
  else if u16 p 0 = 0 then badField 0
  else if 63 < byteAt p 6 then badField 2
  else if 1 < byteAt p 7 then badField 3
  else if 1 < byteAt p 8 then badField 4
  else if i32 p 10 < Config.balanceMin ∨ Config.balanceMax < i32 p 10 then badField 6
  else if 2000000 < u32 p 14 then badField 7
  else if 2000000 < u32 p 18 then badField 8
  else if (s.bank.accounts.get? (u16 p 0)).isSome then existsAt (u16 p 0)
  else
    match s.tokenHolder (u16 p 0) (tokenField (word p 2)) with
    | some h => existsAt h
    | none =>
      if Config.accountEntries ≤ s.bank.accounts.length then refuse .full
      else okay { s with bank := { s.bank with accounts := s.bank.accounts.put (u16 p 0) (newAccount p) } } []

/-- The number of an account's jobs that are RELEASING or PRINTING (R83). -/
def State.inflightOf (s : State) (a : Nat) : Nat := (s.jobsOf a).countP Job.inFlight

/-- An account after ACCOUNT_SET (R82): every field of the request. -/
def Account.set (p : Payload) (a : Account) : Account :=
  { a with token := tokenField (word p 2), group := byteAt p 6, role := Role.ofCode (byteAt p 7),
           suspended := byteAt p 8 == 1, colour := bitAt p 9 0, poolDraw := bitAt p 9 1,
           allowance := u32 p 10, cap := u32 p 14 }

/-- ACCOUNT_SET (R82). -/
def accountSet (p : Payload) (s : State) : Reply :=
  if p.length ≠ 18 then refuse .badLength
  else
    match s.bank.accounts.get? (u16 p 0) with
    | none => refuse .notFound
    | some a =>
      if 63 < byteAt p 6 then badField 2
      else if 1 < byteAt p 7 then badField 3
      else if 1 < byteAt p 8 then badField 4
      else if 2000000 < u32 p 10 then badField 6
      else if 2000000 < u32 p 14 then badField 7
      else
        match s.tokenHolder (u16 p 0) (tokenField (word p 2)) with
        | some h => existsAt h
        | none =>
          if byteAt p 6 ≠ a.group ∧ s.inflightOf (u16 p 0) ≠ 0 then refuse .busy
          else if a.role = .user ∧ byteAt p 7 = 1 ∧ (s.jobsOf (u16 p 0)).length ≠ 0 then refuse .state
          else okay (updAccount (u16 p 0) (Account.set p) s) []

/-- The permissions byte of a response (section 11.6). -/
def permissions (a : Account) : Byte := (if a.colour then 1 else 0) + (if a.poolDraw then 2 else 0)

/-- The payload of ACCOUNT_READ (R83, R182). -/
def accountPayload (s : State) (n : Nat) (a : Account) : Payload :=
  le 2 n ++ le 4 ((a.token.map BitVec.toNat).getD 0) ++ le 1 a.group ++ [a.role.code] ++ flag a.suspended
    ++ [permissions a] ++ leInt 4 a.balance ++ le 4 a.reserved ++ le 4 a.allowance ++ le 4 a.cap ++ flag a.exhausted
    ++ le 1 (s.jobsOf n).length ++ le 1 (s.inflightOf n) ++ leInt 4 (s.accountAvailable a)

/-- ACCOUNT_READ (R83). -/
def accountRead (p : Payload) (s : State) : Reply :=
  if p.length ≠ 2 then refuse .badLength
  else
    match s.bank.accounts.get? (u16 p 0) with
    | none => refuse .notFound
    | some a => okay s (accountPayload s (u16 p 0) a)

/-- ACCOUNT_FIND_BADGE (R83). -/
def accountFindBadge (p : Payload) (s : State) : Reply :=
  if p.length ≠ 4 then refuse .badLength
  else if word p 0 = 0 then badField 0
  else
    match s.badge (word p 0) with
    | none => refuse .notFound
    | some (n, a) => okay s (accountPayload s n a)

/-- The exhausted flag after an event that may have raised the account available from `before` to `after` (R95). -/
def keepExhausted (before after : Int) (flag : Bool) : Bool := flag && !(before < after && 0 < after)

/-- An account whose balance becomes `b` by an adjustment (R84). -/
def State.rebalanced (s : State) (b : Int) (a : Account) : Account :=
  { a with balance := b,
           exhausted := keepExhausted (s.accountAvailable a) (s.accountAvailable { a with balance := b }) a.exhausted }

/-- ACCOUNT_ADJUST (R84). -/
def accountAdjust (p : Payload) (s : State) : Reply :=
  if p.length ≠ 6 then refuse .badLength
  else
    match s.bank.accounts.get? (u16 p 0) with
    | none => refuse .notFound
    | some a =>
      let b := clampBalance (a.balance + i32 p 2)
      okay (updAccount (u16 p 0) (s.rebalanced b) s) (leInt 4 b ++ leInt 4 (a.balance + i32 p 2 - b))

/-- Removes an account from the table, and with it its token from the badge index (R80, R85). -/
def removeAccount (n : Nat) (s : State) : State :=
  { s with bank := { s.bank with accounts := s.bank.accounts.del n } }

/-- Retires every job of a list (R107). -/
def retireJobs (ns : List Nat) (s : State) : State := ns.foldl (fun s n => retireJob n s) s

/-- The numbers of an account's HELD jobs, oldest first. -/
def State.heldOf (s : State) (a : Nat) : List Nat := ((s.jobsOf a).filter Job.isHeld).map Job.number

/-- ACCOUNT_RETIRE (R85). -/
def accountRetire (p : Payload) (s : State) : Reply :=
  if p.length ≠ 2 then refuse .badLength
  else
    match s.bank.accounts.get? (u16 p 0) with
    | none => refuse .notFound
    | some a =>
      if s.inflightOf (u16 p 0) ≠ 0 then refuse .busy
      else
        okay (removeAccount (u16 p 0) (retireJobs (s.heldOf (u16 p 0)) s))
          (le 1 (s.heldOf (u16 p 0)).length ++ leInt 4 a.balance)

/-! ### Groups and prices -/

/-- A pool balance after a pool mode is applied (R87): KEEP, SET, ADJUST; none when the value is out of its mode's range. -/
def poolAfter (mode : Nat) (value : Int) (pool : Nat) : Option Nat :=
  match mode with
  | 0 => some pool
  | 1 => if 0 ≤ value ∧ value ≤ Config.poolMax then some value.toNat else none
  | _ =>
    if -(Config.poolMax : Int) ≤ value ∧ value ≤ Config.poolMax then
      some (min Config.poolMax ((pool : Int) + value).toNat)
    else none

/-- A group after GROUP_SET (R87). -/
def BudgetGroup.set (p : Payload) (pool : Nat) (g : BudgetGroup) : BudgetGroup :=
  { g with pool := pool, allowance := u32 p 6, cap := u32 p 10, overdraft := u32 p 14, period := byteAt p 18,
           phase := byteAt p 19 }

/-- A member's exhausted flag after its group's overdraft has changed by `change` (R87, R95). `avail` is the account
available after the change. -/
def Account.afterOverdraft (change : Int) (avail : Int) (a : Account) : Account :=
  { a with exhausted := keepExhausted (avail - change) avail a.exhausted }

/-- Applies an overdraft change to the exhausted flags of a group's members (R87, R95). -/
def refreshMembers (g : Nat) (change : Int) (s : State) : State :=
  { s with bank := { s.bank with accounts := s.bank.accounts.map fun e =>
      if e.2.group = g then (e.1, e.2.afterOverdraft change (s.accountAvailable e.2)) else e } }

/-- GROUP_SET (R87). -/
def groupSet (p : Payload) (s : State) : Reply :=
  let n := byteAt p 0
  if p.length ≠ 20 then refuse .badLength
  else if 63 < n then badField 0
  else if 2 < byteAt p 1 then badField 1
  else
    match poolAfter (byteAt p 1) (i32 p 2) (s.groupAt n).pool with
    | none => badField 2
    | some pool =>
      if Config.poolMax < u32 p 6 then badField 3
      else if Config.poolMax < u32 p 10 then badField 4
      else if Config.overdraftMax < u32 p 14 then badField 5
      else if byteAt p 18 < 1 ∨ 31 < byteAt p 18 then badField 6
      else if byteAt p 18 ≤ byteAt p 19 then badField 7
      else
        let change := (u32 p 14 : Int) - (s.groupAt n).overdraft
        okay (refreshMembers n change (updGroup n (BudgetGroup.set p pool) s)) (le 4 pool)

/-- GROUP_READ (R88). -/
def groupRead (p : Payload) (s : State) : Reply :=
  if p.length ≠ 1 then refuse .badLength
  else if 63 < byteAt p 0 then badField 0
  else
    let g := s.groupAt (byteAt p 0)
    okay s (le 4 g.pool ++ le 4 g.reserved ++ le 4 g.allowance ++ le 4 g.cap ++ le 4 g.overdraft ++ le 1 g.period
      ++ le 1 g.phase ++ leInt 4 g.available ++ le 2 (s.bank.accounts.countP fun e => e.2.group == byteAt p 0))

/-- A price as stored: 0 becomes 1, a value above 1,000 becomes 1,000 (R89). -/
def clampPrice (v : Nat) : Nat := max 1 (min 1000 v)

/-- The prices a PRICE_SET stores (R89). -/
def pricesOf (p : Payload) : Prices :=
  ⟨clampPrice (u16 p 1), clampPrice (u16 p 3), clampPrice (u16 p 5), clampPrice (u16 p 7)⟩

/-- PRICE_SET (R89). -/
def priceSet (p : Payload) (s : State) : Reply :=
  if p.length ≠ 9 then refuse .badLength
  else if 7 < byteAt p 0 then badField 0
  else
    let q := pricesOf p
    okay { s with bank := { s.bank with prices := s.bank.prices.put (byteAt p 0) q } }
      (le 2 q.monoA4 ++ le 2 q.colourA4 ++ le 2 q.monoA3 ++ le 2 q.colourA3)

/-- ACCOUNT_ADD taken as a request. -/
def execAccountAdd (p : Payload) (s : State) : Outcome State Fault Refusal := .next (takeRequest 0x30 accountAdd p s)

/-- ACCOUNT_SET taken as a request. -/
def execAccountSet (p : Payload) (s : State) : Outcome State Fault Refusal := .next (takeRequest 0x31 accountSet p s)

/-- ACCOUNT_READ taken as a request. -/
def execAccountRead (p : Payload) (s : State) : Outcome State Fault Refusal := .next (takeRequest 0x32 accountRead p s)

/-- ACCOUNT_FIND_BADGE taken as a request. -/
def execAccountFindBadge (p : Payload) (s : State) : Outcome State Fault Refusal :=
  .next (takeRequest 0x33 accountFindBadge p s)

/-- ACCOUNT_ADJUST taken as a request. -/
def execAccountAdjust (p : Payload) (s : State) : Outcome State Fault Refusal :=
  .next (takeRequest 0x34 accountAdjust p s)

/-- ACCOUNT_RETIRE taken as a request. -/
def execAccountRetire (p : Payload) (s : State) : Outcome State Fault Refusal :=
  .next (takeRequest 0x35 accountRetire p s)

/-- GROUP_SET taken as a request. -/
def execGroupSet (p : Payload) (s : State) : Outcome State Fault Refusal := .next (takeRequest 0x36 groupSet p s)

/-- GROUP_READ taken as a request. -/
def execGroupRead (p : Payload) (s : State) : Outcome State Fault Refusal := .next (takeRequest 0x37 groupRead p s)

/-- PRICE_SET taken as a request. -/
def execPriceSet (p : Payload) (s : State) : Outcome State Fault Refusal := .next (takeRequest 0x38 priceSet p s)

end Sys2Proof.Machine
end

