-- ==== Sys2Proof/Machine/Cartridges.lean ====
section
/-!
DEFINITION. Machine/Cartridges.lean: the requests on cartridges (R49, R60, R61).
-/

namespace Sys2Proof.Machine

open Host (Outcome)

/-- The flags byte of CARTRIDGE_READ (R182). -/
def cartridgeFlags (c : Cartridge) : Byte :=
  (if c.stale then 1 else 0) + (if c.void then 2 else 0) + (if c.wanted then 4 else 0) + (if c.eSeeded then 8 else 0)
    + (if c.qSeeded then 16 else 0)

/-- One entry of CARTRIDGE_READ (R61, R182). -/
def cartridgePayload (slot : Nat) (c : Cartridge) : Payload :=
  le 1 slot ++ le 1 c.type ++ le 2 c.level ++ le 2 c.dayStart ++ [cartridgeFlags c] ++ le 2 c.coverage
    ++ le 2 c.pageRate ++ le 2 c.forecast

/-- CARTRIDGE_READ (R61). -/
def cartridgeRead (p : Payload) (s : State) : Reply :=
  if p.length ≠ 1 then refuse .badLength
  else
    match s.printers.get? (byteAt p 0) with
    | none => refuse .notFound
    | some pr => okay s (pr.slots.mapIdx cartridgePayload).flatten

/-- An accepted CARTRIDGE_SWAPPED (R49): a swap with level 1000, then the service state and the condition event. -/
def applySwapped (pn i : Nat) (s : State) : State :=
  let w := swapSlot pn i 1000 ⟨s, [], []⟩
  calloutUpdate [pn] w.announced (rederiveState pn w.checked)

/-- CARTRIDGE_SWAPPED (R49). -/
def cartridgeSwapped (p : Payload) (s : State) : Reply :=
  if p.length ≠ 2 then refuse .badLength
  else
    match s.printers.get? (byteAt p 0) with
    | none => refuse .notFound
    | some pr =>
      match pr.slots[byteAt p 1]? with
      | none => badField 1
      | some c =>
        let after := applySwapped (byteAt p 0) (byteAt p 1) s
        let c' := (after.slotAt (byteAt p 0) (byteAt p 1)).getD c
        okay after (le 2 c'.level ++ le 2 c'.forecast ++ flag c.wanted)

/-- An accepted CARTRIDGE_SEED (R60): E and Q with their flags, then F and the WANTED test. -/
def applySeed (pn i e q : Nat) (s : State) : State :=
  (retestSlot pn i
    ⟨updSlot pn i (fun c => { c with coverage := e, eSeeded := true, pageRate := q, qSeeded := true }) s, [], []⟩).checked

/-- CARTRIDGE_SEED (R60). -/
def cartridgeSeed (p : Payload) (s : State) : Reply :=
  if p.length ≠ 6 then refuse .badLength
  else
    match s.printers.get? (byteAt p 0) with
    | none => refuse .notFound
    | some pr =>
      match pr.slots[byteAt p 1]? with
      | none => badField 1
      | some c =>
        let after := applySeed (byteAt p 0) (byteAt p 1) (u16 p 2) (u16 p 4) s
        let c' := (after.slotAt (byteAt p 0) (byteAt p 1)).getD c
        okay after (le 2 c'.forecast ++ flag c'.wanted)

/-- CARTRIDGE_READ taken as a request. -/
def execCartridgeRead (p : Payload) (s : State) : Outcome State Fault Refusal :=
  .next (takeRequest 0x20 cartridgeRead p s)

/-- CARTRIDGE_SWAPPED taken as a request. -/
def execCartridgeSwapped (p : Payload) (s : State) : Outcome State Fault Refusal :=
  .next (takeRequest 0x21 cartridgeSwapped p s)

/-- CARTRIDGE_SEED taken as a request. -/
def execCartridgeSeed (p : Payload) (s : State) : Outcome State Fault Refusal :=
  .next (takeRequest 0x22 cartridgeSeed p s)

end Sys2Proof.Machine
end

