-- ==== Sys2Proof/Machine/Jobs.lean ====
section
/-!
DEFINITION. Machine/Jobs.lean: the requests on held jobs (R100, R103, R104, R108 to R111).
-/

namespace Sys2Proof.Machine

open Host (Outcome)

/-- The target a JOB_SUBMIT names (section 11.5): the value of an ANY target is ignored. -/
def targetOf (kind value : Nat) : Target :=
  match kind with
  | 0 => .specific value
  | 1 => .floor value
  | _ => .any

/-- The colour of a code. -/
def Colour.ofCode (n : Nat) : Colour := if n = 1 then .colour else .mono

/-- The size of a code. -/
def Size.ofCode (n : Nat) : Size := if n = 1 then .a3 else .a4

/-- The job number and the record that an accepted JOB_SUBMIT of an account with the colour permission `permitted` creates
(R100, R104). -/
def newJob (p : Payload) (permitted : Bool) (s : State) : Job where
  number := issueNumber (s.store.records.map Job.number) s.store.lastNumber
  seq := s.store.nextSeq
  owner := u16 p 0
  spool := word p 2
  pages := u16 p 6
  copies := u16 p 8
  requested := Colour.ofCode (byteAt p 10)
  colour := if permitted then Colour.ofCode (byteAt p 10) else .mono
  forcedMono := byteAt p 10 == 1 && !permitted
  size := Size.ofCode (byteAt p 11)
  duplex := flagAt p 12
  target := targetOf (byteAt p 13) (byteAt p 14)
  submitRun := s.now
  submitBuilding := s.time.building
  phase := .held

/-- Stores a new job at the end of the records, of its owner's list and of the expiry order (R104). -/
def storeJob (j : Job) (s : State) : State :=
  { s with store := ⟨s.store.records ++ [j], j.number, s.store.nextSeq + 1, s.store.expiry ++ [j.number]⟩ }

/-- JOB_SUBMIT (R103, R104). -/
def jobSubmit (p : Payload) (s : State) : Reply :=
  if p.length ≠ 15 then refuse .badLength
  else if u16 p 6 < 1 ∨ 9999 < u16 p 6 then badField 2
  else if u16 p 8 < 1 ∨ 999 < u16 p 8 then badField 3
  else if 1 < byteAt p 10 then badField 4
  else if 1 < byteAt p 11 then badField 5
  else if 2 < byteAt p 13 then badField 7
  else if byteAt p 13 = 1 ∧ 63 < byteAt p 14 then badField 8
  else
    match s.bank.accounts.get? (u16 p 0) with
    | none => refuse .notFound
    | some a =>
      if a.role = .service then refuse .notPermitted
      else if a.suspended then refuse .state
      else if s.params.jobLimit ≤ (s.jobsOf (u16 p 0)).length then refuse .limit
      else if Config.jobEntries ≤ s.store.records.length then refuse .full
      else if byteAt p 13 = 0 ∧ (s.printers.get? (byteAt p 14)).isNone then refuse .notFound
      else
        let j := newJob p a.colour s
        okay (storeJob j s) (le 2 j.number ++ le 4 j.seq.toNat ++ [j.colour.code] ++ flag j.forcedMono)

/-- What JOB_CANCEL does to a job in HELD or RELEASING (R108, R109). -/
def cancelJob (j : Job) (s : State) : State :=
  match j.phase with
  | .releasing r => retireJob j.number (settle j.owner r 0 (undispatch j.number s))
  | _ => retireJob j.number s

/-- JOB_CANCEL (R108, R109). -/
def jobCancel (p : Payload) (s : State) : Reply :=
  if p.length ≠ 2 then refuse .badLength
  else
    match s.jobAt (u16 p 0) with
    | none => refuse .notFound
    | some j =>
      match j.phase with
      | .printing _ _ => refuse .state
      | _ => okay (cancelJob j s) (j.phase.code :: le 4 j.spool.toNat)

/-- The target value of a response. For ANY the manual gives none: a free value (log entry 1). -/
def targetValue (s : State) : Target → Byte
  | .specific n => BitVec.ofNat 8 n
  | .floor f => BitVec.ofNat 8 f
  | .any => Config.anyTargetValue s.freeCount

/-- The run second at which a job was taken, 0 when absent (R182). -/
def JobPhase.takenAt : JobPhase → Word
  | .printing _ t => t
  | _ => 0

/-- The fields of a job that are present in RELEASING and PRINTING, 0 when absent (R110, R182): assigned printer, grants,
cost, portions, release run second. -/
def releaseFields : Option ReleaseInfo → Payload
  | none => le 1 0 ++ le 1 0 ++ le 1 0 ++ le 4 0 ++ le 4 0 ++ le 4 0 ++ le 4 0
  | some r =>
    le 1 r.printer ++ [r.colour.code] ++ flag r.duplex ++ le 4 r.cost ++ le 4 r.accountPortion ++ le 4 r.poolPortion
      ++ le 4 r.releasedAt.toNat

/-- The payload of JOB_READ (R110, R182). -/
def jobPayload (s : State) (j : Job) : Payload :=
  le 2 j.number ++ le 4 j.seq.toNat ++ le 2 j.owner ++ le 4 j.spool.toNat ++ le 2 j.pages ++ le 2 j.copies
    ++ [j.requested.code, j.colour.code] ++ flag j.forcedMono ++ [j.size.code] ++ flag j.duplex
    ++ [j.target.code, targetValue s j.target] ++ le 4 j.submitRun.toNat ++ le 4 j.submitBuilding.toNat
    ++ [j.phase.code] ++ releaseFields j.phase.info? ++ le 4 j.phase.takenAt.toNat

/-- Answers with a job. A response whose target value is free advances the counter the free values are applied to (log
entry 1). -/
def okayJob (s : State) (j : Job) : Reply :=
  okay (if j.target = .any then { s with freeCount := s.freeCount + 1 } else s) (jobPayload s j)

/-- JOB_READ (R110). -/
def jobRead (p : Payload) (s : State) : Reply :=
  if p.length ≠ 2 then refuse .badLength
  else
    match s.jobAt (u16 p 0) with
    | none => refuse .notFound
    | some j => okayJob s j

/-- The rest of a job list after the job of number `n`; none when no job of the list has the number. -/
def afterJob (n : Nat) : List Job → Option (List Job)
  | [] => none
  | j :: js => if j.number = n then some js else afterJob n js

/-- Where a walk of JOB_NEXT_OF goes on: the whole list for 0, the rest after job `n` otherwise (R111). -/
def walkFrom (n : Nat) (l : List Job) : Option (List Job) := if n = 0 then some l else afterJob n l

/-- JOB_NEXT_OF (R111). -/
def jobNextOf (p : Payload) (s : State) : Reply :=
  if p.length ≠ 4 then refuse .badLength
  else if (s.bank.accounts.get? (u16 p 0)).isNone then notFound 1
  else
    match walkFrom (u16 p 2) (s.jobsOf (u16 p 0)) with
    | none => notFound 2
    | some [] => refuse .empty
    | some (j :: _) => okayJob s j

/-- JOB_SUBMIT taken as a request. -/
def execJobSubmit (p : Payload) (s : State) : Outcome State Fault Refusal := .next (takeRequest 0x40 jobSubmit p s)

/-- JOB_CANCEL taken as a request. -/
def execJobCancel (p : Payload) (s : State) : Outcome State Fault Refusal := .next (takeRequest 0x41 jobCancel p s)

/-- JOB_READ taken as a request. -/
def execJobRead (p : Payload) (s : State) : Outcome State Fault Refusal := .next (takeRequest 0x42 jobRead p s)

/-- JOB_NEXT_OF taken as a request. -/
def execJobNextOf (p : Payload) (s : State) : Outcome State Fault Refusal := .next (takeRequest 0x43 jobNextOf p s)

end Sys2Proof.Machine
end

