-- ==== Sys2Proof/Machine/PrinterTable.lean ====
section
/-!
DEFINITION. Machine/PrinterTable.lean: the requests on printers and status reports (R6 to R17).
-/

namespace Sys2Proof.Machine

open Host (Outcome)

/-- A cartridge record on creation (R43). -/
def newCartridge (type : Nat) : Cartridge := ⟨type, 1000, 1000, false, false, 0, false, 0, false, 999, false⟩

/-- A printer record as PRINTER_ADD fills it (R1, R7). -/
def newPrinter (now : Word) (floor cls : Nat) (caps : Capabilities) (types : List Nat) : Printer where
  floor := floor
  costClass := cls
  caps := caps
  slots := types.map newCartridge
  state := .awaiting
  reported := []
  monoBase := none
  colourBase := none
  pMono := 0
  pColour := 0
  lastReport := now
  rebase := false
  deferred := false
  jobsCompleted := 0
  sidesCompleted := 0
  jobsAbandoned := 0
  filters := KindTable.of fun _ => .clear

/-- PRINTER_ADD (R6, R7). -/
def printerAdd (p : Payload) (s : State) : Reply :=
  let slots := byteAt p 4
  let types := listAt p 5 slots
  if p.length < 5 then refuse .badLength
  else if p.length ≠ 5 + slots then refuse .badLength
  else if 63 < byteAt p 1 then badField 1
  else if 7 < byteAt p 2 then badField 2
  else if slots ≠ 1 ∧ slots ≠ 4 then badField 4
  else if (capsAt p 3).colour ∧ slots = 1 then badField 3
  else
    match firstBad (· ≤ 63) types with
    | some j => badEntry 5 j
    | none =>
      if (s.printers.get? (byteAt p 0)).isSome then refuse .exists
      else
        okay { s with printers :=
          s.printers.put (byteAt p 0) (newPrinter s.now (byteAt p 1) (byteAt p 2) (capsAt p 3) types) } []

/-- The work of an accepted PRINTER_SET, within one event (R8, R42, R44). -/
def applyPrinterSet (pn floor cls : Nat) (caps : Capabilities) (types : List Nat) (clear : Bool) (s : State) : State :=
  let s := updPrinter pn (fun p => { p with floor := floor, costClass := cls, caps := caps }) s
  let s := (changeTypes pn 0 types ⟨s, [], []⟩).checked
  let s := updPrinter pn (fun p =>
    if clear then { p with jobsCompleted := 0, sidesCompleted := 0, jobsAbandoned := 0 } else p) s
  calloutUpdate [pn] [] (rederiveState pn s)

/-- PRINTER_SET (R8). -/
def printerSet (p : Payload) (s : State) : Reply :=
  if p.length < 5 then refuse .badLength
  else
    match s.printers.get? (byteAt p 0) with
    | none => refuse .notFound
    | some pr =>
      let types := listAt p 5 (p.length - 5)
      if p.length ≠ 5 + pr.slots.length then refuse .badLength
      else if 63 < byteAt p 1 then badField 1
      else if 7 < byteAt p 2 then badField 2
      else if (capsAt p 3).colour ∧ pr.slots.length = 1 then badField 3
      else
        match firstBad (· ≤ 63) types with
        | some j => badEntry 5 j
        | none =>
          okay (applyPrinterSet (byteAt p 0) (byteAt p 1) (byteAt p 2) (capsAt p 3) types (flagAt p 4) s) []

/-- The capability byte of a response (section 11.6). -/
def capsByte (c : Capabilities) : Byte :=
  (if c.colour then 1 else 0) + (if c.duplex then 2 else 0) + (if c.a3 then 4 else 0)

/-- The latest reported set as two bytes, bit k set for kind k (R182). -/
def reportedBits (l : List FaultKind) : Nat := (l.map fun k => 2 ^ k.number).sum

/-- The payload of PRINTER_READ (R9, R182). -/
def printerPayload (s : State) (pn : Nat) (p : Printer) : Payload :=
  le 1 p.floor ++ le 1 p.costClass ++ [capsByte p.caps] ++ le 1 p.slots.length
    ++ (p.slots.map fun c => le 1 c.type).flatten ++ [p.state.code] ++ le 2 (reportedBits p.reported)
    ++ optional 4 (p.monoBase.map BitVec.toNat) ++ optional 4 (p.colourBase.map BitVec.toNat)
    ++ le 2 p.pMono ++ le 2 p.pColour ++ le 4 p.lastReport.toNat ++ flag p.rebase ++ flag p.deferred
    ++ le 2 (s.ticketNumber pn) ++ le 4 p.jobsCompleted.toNat ++ le 4 p.sidesCompleted.toNat
    ++ le 4 p.jobsAbandoned.toNat ++ le 1 (s.inflightCount pn)

/-- PRINTER_READ (R9). -/
def printerRead (p : Payload) (s : State) : Reply :=
  if p.length ≠ 1 then refuse .badLength
  else
    match s.printers.get? (byteAt p 0) with
    | none => refuse .notFound
    | some pr => okay s (printerPayload s (byteAt p 0) pr)

/-- A HELD job whose target is SPECIFIC(p) (R11, step 1). -/
def Job.holdsFor (pn : Nat) (j : Job) : Bool := j.isHeld && j.target == .specific pn

/-- The stations bound to a printer (R11, step 4). -/
def State.boundTo (s : State) (pn : Nat) : List Nat :=
  Table.keys (s.line.stations.filter fun e => e.2.bound == some pn)

/-- A job once printer `pn` of floor `floor` is retired (R11, step 1). -/
def Job.retargeted (pn floor : Nat) (j : Job) : Job := if j.holdsFor pn then { j with target := .floor floor } else j

/-- A station once printer `pn` is retired (R11, step 4). -/
def Station.unbound (pn : Nat) (st : Station) : Station := if st.bound = some pn then { st with bound := none } else st

/-- Retargets the HELD jobs of a retired printer to its floor (R11, step 1). -/
def retargetJobs (pn floor : Nat) (s : State) : State :=
  { s with store := { s.store with records := s.store.records.map (Job.retargeted pn floor) } }

/-- Unbinds the stations of a retired printer (R11, step 4). -/
def unbindStations (pn : Nat) (s : State) : State :=
  { s with line := { s.line with stations := s.line.stations.map fun e => (e.1, e.2.unbound pn) } }

/-- An accepted PRINTER_RETIRE (R11). The record goes before the reorder checks, so that its WANTED marks are withdrawn
together; the hand-over of a freed ticket comes last (log entry 15). -/
def applyRetire (pn : Nat) (pr : Printer) (s : State) : State :=
  let s := retargetJobs pn pr.floor s
  let ticket := s.ticketOf pn
  let s := (ticket.map fun e => retireTicket e.1 s).getD s
  let s := { s with printers := s.printers.del pn }
  let s := reorderChecks ((pr.slots.filter fun c => c.wanted).map fun c => c.type) s
  let s := unbindStations pn s
  if ticket.isSome then handOver s else s

/-- PRINTER_RETIRE (R10, R11). -/
def printerRetire (p : Payload) (s : State) : Reply :=
  if p.length ≠ 1 then refuse .badLength
  else
    match s.printers.get? (byteAt p 0) with
    | none => refuse .notFound
    | some pr =>
      if s.inflightCount (byteAt p 0) ≠ 0 then refuse .busy
      else
        okay (applyRetire (byteAt p 0) pr s)
          (le 2 (s.store.records.countP fun j => j.holdsFor (byteAt p 0)) ++ le 1 (s.boundTo (byteAt p 0)).length
            ++ le 2 (s.ticketNumber (byteAt p 0)))

/-- The indications byte of a status report's response (section 11.6). -/
def indications (dm dc : CounterDelta) : Byte :=
  (if dm.discarded then 1 else 0) + (if dm.clamped then 2 else 0) + (if dc.discarded then 4 else 0)
    + (if dc.clamped then 8 else 0)

/-- STATUS_REPORT (R12, R17). -/
def statusReport (p : Payload) (s : State) : Reply :=
  let pn := byteAt p 0
  let k := byteAt p 1
  let l := byteAt p 2
  if p.length < 3 then refuse .badLength
  else if 16 < k then badField 1
  else if 4 < l then badField 2
  else if p.length ≠ 11 + k + 2 * l then refuse .badLength
  else
    match s.printers.get? pn with
    | none => refuse .notFound
    | some pr =>
      if l ≠ pr.slots.length then refuse .badLength
      else
        match firstBad (· ≤ 8) (listAt p 3 k) with
        | some j => badEntry 3 j
        | none =>
          let mono := word p (3 + k + 2 * l)
          let colour := word p (7 + k + 2 * l)
          let after := applyReport pn pr (listAt p 3 k) ((List.range l).map fun i => u16 p (3 + k + 2 * i)) mono colour s
          okay after
            [pr.state.code, ((after.printers.get? pn).map fun q => q.state.code).getD 0,
             indications (counterDelta s.params.deltaLimit pr.monoBase mono)
               (counterDelta s.params.deltaLimit pr.colourBase colour)]

/-- PRINTER_ADD taken as a request. -/
def execPrinterAdd (p : Payload) (s : State) : Outcome State Fault Refusal := .next (takeRequest 0x10 printerAdd p s)

/-- PRINTER_SET taken as a request. -/
def execPrinterSet (p : Payload) (s : State) : Outcome State Fault Refusal := .next (takeRequest 0x11 printerSet p s)

/-- PRINTER_READ taken as a request. -/
def execPrinterRead (p : Payload) (s : State) : Outcome State Fault Refusal := .next (takeRequest 0x12 printerRead p s)

/-- PRINTER_RETIRE taken as a request. -/
def execPrinterRetire (p : Payload) (s : State) : Outcome State Fault Refusal := .next (takeRequest 0x13 printerRetire p s)

/-- STATUS_REPORT taken as a request. -/
def execStatusReport (p : Payload) (s : State) : Outcome State Fault Refusal := .next (takeRequest 0x14 statusReport p s)

end Sys2Proof.Machine
end

