-- ==== Sys2Proof/Machine/ReleaseUnit.lean ====
section
/-!
DEFINITION. Machine/ReleaseUnit.lean: the requests on the Release Unit (R145, R147, R150 to R152).
-/

namespace Sys2Proof.Machine

open Host (Outcome)

/-- The payload of RELEASE_REQUEST: what the display message would carry (R145, R182). -/
def decisionPayload (m : Message) : Payload :=
  [m.outcome.code] ++ le 1 m.released ++ le 1 m.remaining ++ le 1 m.printer ++ le 2 m.ticket

/-- RELEASE_REQUEST (R145). -/
def releaseRequest (p : Payload) (s : State) : Reply :=
  let n := u16 p 3
  if p.length ≠ 5 then refuse .badLength
  else
    match s.bank.accounts.get? (u16 p 0) with
    | none => notFound 1
    | some a =>
      if a.role = .service then refuse .notPermitted
      else if (s.printers.get? (byteAt p 2)).isNone then notFound 2
      else if n ≠ 0 ∧ !(s.jobAt n).any fun j => j.owner == u16 p 0 then notFound 3
      else
        let r := releaseDecision (u16 p 0) (byteAt p 2) false (if n = 0 then none else some n) s
        okay r.1 (decisionPayload r.2)

/-- Moves a RELEASING job to PRINTING: its release fields are kept (R105). -/
def startPrinting (now : Word) (j : Job) : Job :=
  match j.phase with
  | .releasing r => { j with phase := .printing r now }
  | _ => j

/-- The payload of DISPATCH_TAKE (section 11.6). -/
def takePayload (j : Job) (r : ReleaseInfo) : Payload :=
  le 2 j.number ++ le 4 j.spool.toNat ++ le 1 r.printer ++ le 2 j.copies ++ [r.colour.code] ++ flag r.duplex

/-- DISPATCH_TAKE (R147). A number of the order that names no RELEASING job is not reached: the order holds the RELEASING jobs
(R137). -/
def dispatchTake (p : Payload) (s : State) : Reply :=
  if p.length ≠ 0 then refuse .badLength
  else
    match s.release.dispatch with
    | [] => refuse .empty
    | n :: _ =>
      match s.jobAt n with
      | none => refuse .empty
      | some j =>
        match j.phase with
        | .releasing r => okay (updJob n (startPrinting s.now) (undispatch n s)) (takePayload j r)
        | _ => refuse .empty

/-- The histogram bucket of a number of sides counted (R152). -/
def bucketOf (n : Nat) : Fin 6 :=
  if n ≤ 1 then 0
  else if n ≤ 10 then 1
  else if n ≤ 50 then 2
  else if n ≤ 200 then 3
  else if n ≤ 1000 then 4
  else 5

/-- Counts a completion in the histogram (R151, R152). -/
def countCompletion (n : Nat) (s : State) : State :=
  let h := s.release.histogram
  { s with release := { s.release with
      histogram := h.set (bucketOf n).val (h.get (bucketOf n) + 1) (bucketOf n).isLt } }

/-- The actual cost of `n` sides of a PRINTING job (R91): by the printer's present class, the present prices and factor and the
grants of the release, limited to the job's cost. -/
def State.actualCost (s : State) (j : Job) (r : ReleaseInfo) (n : Nat) : Nat :=
  min r.cost (s.cost (((s.printers.get? r.printer).map fun q => q.costClass).getD 0) j.size r.colour r.duplex n)

/-- An accepted JOB_DONE of `n` sides at actual cost `c` (R151). -/
def completeJob (j : Job) (r : ReleaseInfo) (n c : Nat) (requeue : Bool) (s : State) : State :=
  let s := settle j.owner r c s
  let s := updPrinter r.printer (fun q => { q with
    jobsCompleted := q.jobsCompleted + 1, sidesCompleted := q.sidesCompleted + BitVec.ofNat 32 n }) s
  let s := countCompletion n s
  if requeue then returnToHeld j s else retireJob j.number s

/-- JOB_DONE (R150, R151). -/
def jobDone (p : Payload) (s : State) : Reply :=
  if p.length ≠ 8 then refuse .badLength
  else if 1 < byteAt p 6 then badField 2
  else
    match s.jobAt (u16 p 0) with
    | none => refuse .notFound
    | some j =>
      match j.phase with
      | .printing r _ =>
        let n := min (u32 p 2) j.sides
        let c := s.actualCost j r n
        let requeue := byteAt p 6 == 1 && flagAt p 7
        okay (completeJob j r n c requeue s)
          (le 4 n ++ le 4 c ++ le 4 (accountCharge r c) ++ le 4 (poolCharge r c) ++ flag requeue)
      | _ => refuse .state

/-- RELEASE_REQUEST taken as a request. -/
def execReleaseRequest (p : Payload) (s : State) : Outcome State Fault Refusal :=
  .next (takeRequest 0x50 releaseRequest p s)

/-- DISPATCH_TAKE taken as a request. -/
def execDispatchTake (p : Payload) (s : State) : Outcome State Fault Refusal := .next (takeRequest 0x51 dispatchTake p s)

/-- JOB_DONE taken as a request. -/
def execJobDone (p : Payload) (s : State) : Outcome State Fault Refusal := .next (takeRequest 0x52 jobDone p s)

end Sys2Proof.Machine
end

