-- ==== Sys2Proof/Decode.lean ====
section
/-!
DEFINITION. Decode.lean: the request frames of the port (R169, R170, section 11.2) and the host's decodeTableWord. The opcode
table gives no row any bits, so decodeTableWord answers none; the frames below are how the host spells a request.
-/

namespace Sys2Proof

/-- The request of a request code with a payload (section 11.2); none for a code that is not listed there. -/
def requestOf (code : Nat) (p : Payload) : Option Instr :=
  match code with
  | 0x01 => some (.portReset p)
  | 0x02 => some (.statusRead p)
  | 0x03 => some (.statusClear p)
  | 0x04 => some (.maskSet p)
  | 0x05 => some (.paramSet p)
  | 0x06 => some (.paramRead p)
  | 0x07 => some (.countersRead p)
  | 0x08 => some (.countersClear p)
  | 0x09 => some (.timeSet p)
  | 0x0A => some (.timeRead p)
  | 0x10 => some (.printerAdd p)
  | 0x11 => some (.printerSet p)
  | 0x12 => some (.printerRead p)
  | 0x13 => some (.printerRetire p)
  | 0x14 => some (.statusReport p)
  | 0x18 => some (.ticketAck p)
  | 0x19 => some (.ticketClose p)
  | 0x1A => some (.ticketRead p)
  | 0x1B => some (.ticketNext p)
  | 0x20 => some (.cartridgeRead p)
  | 0x21 => some (.cartridgeSwapped p)
  | 0x22 => some (.cartridgeSeed p)
  | 0x28 => some (.typeSet p)
  | 0x29 => some (.typeRead p)
  | 0x2A => some (.reqConfirm p)
  | 0x2B => some (.reqReceive p)
  | 0x2C => some (.reqCancel p)
  | 0x2D => some (.reqRead p)
  | 0x2E => some (.reqNext p)
  | 0x30 => some (.accountAdd p)
  | 0x31 => some (.accountSet p)
  | 0x32 => some (.accountRead p)
  | 0x33 => some (.accountFindBadge p)
  | 0x34 => some (.accountAdjust p)
  | 0x35 => some (.accountRetire p)
  | 0x36 => some (.groupSet p)
  | 0x37 => some (.groupRead p)
  | 0x38 => some (.priceSet p)
  | 0x40 => some (.jobSubmit p)
  | 0x41 => some (.jobCancel p)
  | 0x42 => some (.jobRead p)
  | 0x43 => some (.jobNextOf p)
  | 0x48 => some (.stationSet p)
  | 0x49 => some (.stationRead p)
  | 0x4A => some (.calendarSet p)
  | 0x4B => some (.lineSet p)
  | 0x50 => some (.releaseRequest p)
  | 0x51 => some (.dispatchTake p)
  | 0x52 => some (.jobDone p)
  | _ => none

/-- The code of a request and its payload (section 11.2); none for what is no request the part knows. -/
def Instr.request? : Instr → Option (Byte × Payload)
  | .portReset p => some (0x01, p)
  | .statusRead p => some (0x02, p)
  | .statusClear p => some (0x03, p)
  | .maskSet p => some (0x04, p)
  | .paramSet p => some (0x05, p)
  | .paramRead p => some (0x06, p)
  | .countersRead p => some (0x07, p)
  | .countersClear p => some (0x08, p)
  | .timeSet p => some (0x09, p)
  | .timeRead p => some (0x0A, p)
  | .printerAdd p => some (0x10, p)
  | .printerSet p => some (0x11, p)
  | .printerRead p => some (0x12, p)
  | .printerRetire p => some (0x13, p)
  | .statusReport p => some (0x14, p)
  | .ticketAck p => some (0x18, p)
  | .ticketClose p => some (0x19, p)
  | .ticketRead p => some (0x1A, p)
  | .ticketNext p => some (0x1B, p)
  | .cartridgeRead p => some (0x20, p)
  | .cartridgeSwapped p => some (0x21, p)
  | .cartridgeSeed p => some (0x22, p)
  | .typeSet p => some (0x28, p)
  | .typeRead p => some (0x29, p)
  | .reqConfirm p => some (0x2A, p)
  | .reqReceive p => some (0x2B, p)
  | .reqCancel p => some (0x2C, p)
  | .reqRead p => some (0x2D, p)
  | .reqNext p => some (0x2E, p)
  | .accountAdd p => some (0x30, p)
  | .accountSet p => some (0x31, p)
  | .accountRead p => some (0x32, p)
  | .accountFindBadge p => some (0x33, p)
  | .accountAdjust p => some (0x34, p)
  | .accountRetire p => some (0x35, p)
  | .groupSet p => some (0x36, p)
  | .groupRead p => some (0x37, p)
  | .priceSet p => some (0x38, p)
  | .jobSubmit p => some (0x40, p)
  | .jobCancel p => some (0x41, p)
  | .jobRead p => some (0x42, p)
  | .jobNextOf p => some (0x43, p)
  | .stationSet p => some (0x48, p)
  | .stationRead p => some (0x49, p)
  | .calendarSet p => some (0x4A, p)
  | .lineSet p => some (0x4B, p)
  | .releaseRequest p => some (0x50, p)
  | .dispatchTake p => some (0x51, p)
  | .jobDone p => some (0x52, p)
  | .unknownRequest _ _ => none
  | .malformedRequestFrame _ => none
  | .earlyRequest _ => none
  | .rstAssert => none
  | .rstRelease => none
  | .supplyLow => none
  | .supplyRestored => none
  | .secondEvent => none
  | .dayBoundary => none
  | .silenceExpiry => none
  | .classTick _ => none
  | .escalation => none
  | .holdExpiry => none
  | .takeTimeout => none
  | .abandonment => none
  | .quietTimeout => none
  | .sweepPrinterStep => none
  | .sweepGroupStep => none
  | .sweepAccountStep => none
  | .sweepTypeStep => none
  | .calendarPoll => none
  | .answerPoll => none
  | .stationReply _ => none
  | .miss => none
  | .lateReply _ => none
  | .responseStored => none

/-- A code the part knows as a request code (R170). -/
def isRequestCode (code : Byte) : Bool := (requestOf code.toNat []).isSome

/-- The bytes of a transaction are a request frame and not a read: there is a byte, and the first is not 0x00 (R169). -/
def isRequestFrame : List Byte → Bool
  | [] => false
  | b :: _ => b != 0

/-- A request frame is well formed: at least two bytes, a length byte of 60 or less, and exactly that many bytes after it
(R169). -/
def wellFormedFrame : List Byte → Bool
  | _ :: n :: p => n.toNat ≤ Config.payloadMax && p.length == n.toNat
  | _ => false

/-- What the port makes of the bytes of a transaction while READY is high (R169, R170): none when nothing is taken (no
complete byte, or a read transaction). -/
def decodeFrame (frame : List Byte) : Option Instr :=
  if !isRequestFrame frame then none
  else if !wellFormedFrame frame then some (.malformedRequestFrame frame)
  else
    match frame with
    | code :: _ :: p => some ((requestOf code.toNat p).getD (.unknownRequest code p))
    | _ => none

/-- The frame of a code and a payload (R169). -/
def frameOf (code : Byte) (p : Payload) : List Byte := code :: BitVec.ofNat 8 p.length :: p

/-- The frame the host sends for a command of the request port; none for the other rows. -/
def encodeFrame : Instr → Option (List Byte)
  | .unknownRequest code p => some (frameOf code p)
  | .malformedRequestFrame frame => some frame
  | .earlyRequest frame => some frame
  | i => i.request?.map fun r => frameOf r.1 r.2

/-- The command a word spells by the opcode table's bits. The table gives no row any bits: none. -/
def decodeTableWord (_nbits _w : Nat) : Option Instr := none

end Sys2Proof
end

