-- ==== Sys2Proof/Machine/Params.lean ====
section
/-!
DEFINITION. Machine/Params.lean: the parameters by number, their ranges, and reading and storing them (R177, R183).
-/

namespace Sys2Proof.Machine

/-- The parameter of a number; none for a number outside the table, the unassigned numbers of the kind blocks included
(R183). -/
def ParamId.ofNumber? (n : Nat) : Option ParamId :=
  match n with
  | 0x0001 => some .tickDivisor
  | 0x0002 => some .dayStart
  | 0x0010 => some .silenceLimit
  | 0x0011 => some .deltaLimit
  | 0x0012 => some .emptyLevel
  | 0x0020 => some .escInterval1
  | 0x0021 => some .escInterval2
  | 0x0022 => some .escInterval3
  | 0x0023 => some .escInterval4
  | 0x0030 => some .swapJump
  | 0x0031 => some .minSample
  | 0x0032 => some .smoothE
  | 0x0033 => some .smoothQ
  | 0x0034 => some .floorLevel
  | 0x0040 => some .overdueGrace
  | 0x0050 => some .duplexFactor
  | 0x0060 => some .jobLimit
  | 0x0061 => some .holdTime
  | 0x0070 => some .quietAfter
  | 0x0071 => some .sparseGap
  | 0x0072 => some .missLimit
  | 0x0073 => some .noiseLimit
  | 0x0074 => some .repeatGuard
  | 0x0080 => some .releaseBatch
  | 0x0081 => some .printerInflight
  | 0x0082 => some .takeLimit
  | 0x0083 => some .abandonLimit
  | 0x0084 => some .abandonCharge
  | _ =>
    if n / 16 = 0x10 then (FaultKind.ofNumber? (n % 16)).map .faultSeverity
    else if n / 16 = 0x11 then (FaultKind.ofNumber? (n % 16)).map .faultClass
    else if n / 16 = 0x12 then (FaultKind.ofNumber? (n % 16)).map .faultAutoclose
    else none

/-- The range of a parameter, both ends included (R183). -/
def ParamId.range : ParamId → Nat × Nat
  | .tickDivisor => (1000, 67108863)
  | .dayStart => (0, 86399)
  | .silenceLimit => (30, 3600)
  | .deltaLimit => (1000, 65535)
  | .emptyLevel => (0, 200)
  | .escInterval1 | .escInterval2 | .escInterval3 | .escInterval4 => (1, 1440)
  | .swapJump => (100, 900)
  | .minSample => (1, 1000)
  | .smoothE | .smoothQ => (1, 16)
  | .floorLevel => (0, 500)
  | .overdueGrace => (0, 30)
  | .duplexFactor => (8, 16)
  | .jobLimit => (1, 32)
  | .holdTime => (1, 168)
  | .quietAfter => (0, 240)
  | .sparseGap => (100, 5000)
  | .missLimit => (1, 15)
  | .noiseLimit => (1, 255)
  | .repeatGuard => (1, 10)
  | .releaseBatch => (1, 32)
  | .printerInflight => (1, 16)
  | .takeLimit => (5, 600)
  | .abandonLimit => (5, 240)
  | .abandonCharge => (0, 1)
  | .faultSeverity _ => (0, 4)
  | .faultClass _ => (0, 7)
  | .faultAutoclose _ => (0, 1)

/-- A value lies in a parameter's range (R177). -/
def ParamId.admits (i : ParamId) (v : Nat) : Bool := i.range.1 ≤ v && v ≤ i.range.2

/-- The current value of a parameter (R177). -/
def Params.read (p : Params) : ParamId → Nat
  | .tickDivisor => p.tickDivisor
  | .dayStart => p.dayStart
  | .silenceLimit => p.silenceLimit
  | .deltaLimit => p.deltaLimit
  | .emptyLevel => p.emptyLevel
  | .escInterval1 => p.escInterval1
  | .escInterval2 => p.escInterval2
  | .escInterval3 => p.escInterval3
  | .escInterval4 => p.escInterval4
  | .swapJump => p.swapJump
  | .minSample => p.minSample
  | .smoothE => p.smoothE
  | .smoothQ => p.smoothQ
  | .floorLevel => p.floorLevel
  | .overdueGrace => p.overdueGrace
  | .duplexFactor => p.duplexFactor
  | .jobLimit => p.jobLimit
  | .holdTime => p.holdTime
  | .quietAfter => p.quietAfter
  | .sparseGap => p.sparseGap
  | .missLimit => p.missLimit
  | .noiseLimit => p.noiseLimit
  | .repeatGuard => p.repeatGuard
  | .releaseBatch => p.releaseBatch
  | .printerInflight => p.printerInflight
  | .takeLimit => p.takeLimit
  | .abandonLimit => p.abandonLimit
  | .abandonCharge => p.abandonCharge
  | .faultSeverity k => (p.kinds.at k).severity
  | .faultClass k => (p.kinds.at k).cls
  | .faultAutoclose k => if (p.kinds.at k).autoclose then 1 else 0

/-- Changes the settings of one kind (R23). -/
def Params.setKind (p : Params) (k : FaultKind) (f : KindSetting → KindSetting) : Params :=
  { p with kinds := p.kinds.upd k (f (p.kinds.at k)) }

/-- Stores a value in a parameter (R177). -/
def Params.write (p : Params) (v : Nat) : ParamId → Params
  | .tickDivisor => { p with tickDivisor := v }
  | .dayStart => { p with dayStart := v }
  | .silenceLimit => { p with silenceLimit := v }
  | .deltaLimit => { p with deltaLimit := v }
  | .emptyLevel => { p with emptyLevel := v }
  | .escInterval1 => { p with escInterval1 := v }
  | .escInterval2 => { p with escInterval2 := v }
  | .escInterval3 => { p with escInterval3 := v }
  | .escInterval4 => { p with escInterval4 := v }
  | .swapJump => { p with swapJump := v }
  | .minSample => { p with minSample := v }
  | .smoothE => { p with smoothE := v }
  | .smoothQ => { p with smoothQ := v }
  | .floorLevel => { p with floorLevel := v }
  | .overdueGrace => { p with overdueGrace := v }
  | .duplexFactor => { p with duplexFactor := v }
  | .jobLimit => { p with jobLimit := v }
  | .holdTime => { p with holdTime := v }
  | .quietAfter => { p with quietAfter := v }
  | .sparseGap => { p with sparseGap := v }
  | .missLimit => { p with missLimit := v }
  | .noiseLimit => { p with noiseLimit := v }
  | .repeatGuard => { p with repeatGuard := v }
  | .releaseBatch => { p with releaseBatch := v }
  | .printerInflight => { p with printerInflight := v }
  | .takeLimit => { p with takeLimit := v }
  | .abandonLimit => { p with abandonLimit := v }
  | .abandonCharge => { p with abandonCharge := v }
  | .faultSeverity k => p.setKind k fun x => { x with severity := v }
  | .faultClass k => p.setKind k fun x => { x with cls := v }
  | .faultAutoclose k => p.setKind k fun x => { x with autoclose := v == 1 }

/-- Stores a parameter. FAULT_SEVERITY acts within the event: every printer where the kind is CONFIRMED is reconciled
(R23, R177). -/
def storeParam (i : ParamId) (v : Nat) (s : State) : State :=
  let s := { s with params := s.params.write v i }
  match i with
  | .faultSeverity k => reconcileAll (s.printersWhere fun _ p => p.filters.at k == .confirmed) s
  | _ => s

end Sys2Proof.Machine
end

