-- ==== Sys2Proof/Machine/RequestPort.lean ====
section
/-!
DEFINITION. Machine/RequestPort.lean: the commands of the request port: cause and mask words, parameters, counters, frames that
are not taken as requests, the stored response and the reset sources (R169 to R180, R183, R184).
-/

namespace Sys2Proof.Machine

open Host (Outcome)

/-- PORT_RESET (R179, R180): with an empty payload every block is reset, and READY stays low until RESPONSE_STORED. -/
def execPortReset (p : Payload) (s : State) : Outcome State Fault Refusal :=
  .next (asEvent (atPort fun s =>
    if p.length = 0 then beginPortReset s else answer 0x01 (refuse .badLength) s) s)

/-- The cause word and the mask word, as STATUS_READ returns them (R176). -/
def statusPayload (s : State) : Payload := le 4 s.causeWord.toNat ++ le 4 s.port.mask.toNat

/-- STATUS_READ (R176). -/
def statusRead (p : Payload) (s : State) : Reply :=
  if p.length ≠ 0 then refuse .badLength else okay s (statusPayload s)

/-- STATUS_CLEAR (R176): clears the sticky causes named. -/
def statusClear (p : Payload) (s : State) : Reply :=
  if p.length ≠ 4 then refuse .badLength
  else
    let s := { s with port := { s.port with sticky := s.port.sticky &&& ~~~(word p 0) } }
    okay s (statusPayload s)

/-- MASK_SET (R175): replaces the mask word, its unassigned bits as 0. -/
def maskSet (p : Payload) (s : State) : Reply :=
  if p.length ≠ 4 then refuse .badLength
  else
    let s := { s with port := { s.port with mask := word p 0 &&& assignedBits } }
    okay s (le 4 s.port.mask.toNat ++ le 4 s.causeWord.toNat)

/-- PARAM_SET (R177, R184). -/
def paramSet (p : Payload) (s : State) : Reply :=
  if p.length ≠ 6 then refuse .badLength
  else
    match ParamId.ofNumber? (u16 p 0) with
    | none => badField 0
    | some i =>
      if !i.admits (u32 p 2) then badField 1
      else okay (storeParam i (u32 p 2) s) (le 2 (u16 p 0) ++ le 4 (u32 p 2))

/-- PARAM_READ (R177, R184). -/
def paramRead (p : Payload) (s : State) : Reply :=
  if p.length ≠ 2 then refuse .badLength
  else
    match ParamId.ofNumber? (u16 p 0) with
    | none => badField 0
    | some i => okay s (le 2 (u16 p 0) ++ le 4 (s.params.read i))

/-- The nine device-wide counters, in the order of R178. -/
def countersPayload (s : State) : Payload :=
  (s.release.histogram.toList.map fun w => le 4 w.toNat).flatten
    ++ le 4 s.release.presentations.toNat ++ le 4 s.release.releases.toNat ++ le 4 s.release.recalls.toNat

/-- COUNTERS_READ (R178). -/
def countersRead (p : Payload) (s : State) : Reply :=
  if p.length ≠ 0 then refuse .badLength else okay s (countersPayload s)

/-- COUNTERS_CLEAR (R178): returns the nine counters and then sets them to 0. -/
def countersClear (p : Payload) (s : State) : Reply :=
  if p.length ≠ 0 then refuse .badLength
  else
    okay { s with release := { s.release with
      histogram := #v[0, 0, 0, 0, 0, 0], presentations := 0, releases := 0, recalls := 0 } } (countersPayload s)

/-- STATUS_READ taken as a request (R170). -/
def execStatusRead (p : Payload) (s : State) : Outcome State Fault Refusal := .next (takeRequest 0x02 statusRead p s)

/-- STATUS_CLEAR taken as a request. -/
def execStatusClear (p : Payload) (s : State) : Outcome State Fault Refusal := .next (takeRequest 0x03 statusClear p s)

/-- MASK_SET taken as a request. -/
def execMaskSet (p : Payload) (s : State) : Outcome State Fault Refusal := .next (takeRequest 0x04 maskSet p s)

/-- PARAM_SET taken as a request. -/
def execParamSet (p : Payload) (s : State) : Outcome State Fault Refusal := .next (takeRequest 0x05 paramSet p s)

/-- PARAM_READ taken as a request. -/
def execParamRead (p : Payload) (s : State) : Outcome State Fault Refusal := .next (takeRequest 0x06 paramRead p s)

/-- COUNTERS_READ taken as a request. -/
def execCountersRead (p : Payload) (s : State) : Outcome State Fault Refusal := .next (takeRequest 0x07 countersRead p s)

/-- COUNTERS_CLEAR taken as a request. -/
def execCountersClear (p : Payload) (s : State) : Outcome State Fault Refusal := .next (takeRequest 0x08 countersClear p s)

/-! ### Frames that are not taken as requests -/

/-- UNKNOWN_REQUEST (R170, step 4): a well-formed frame with a code the part does not know. A known code, or 0x00, which
begins a read transaction, is not this event (log entry 7). -/
def execUnknownRequest (code : Byte) (p : Payload) (s : State) : Outcome State Fault Refusal :=
  .next (if code = 0 ∨ isRequestCode code then s else takeRequest code (fun _ _ => refuse .unknownRequest) p s)

/-- MALFORMED_REQUEST_FRAME (R170, step 3): answered BAD_LENGTH with the frame's code echoed. -/
def execMalformedRequestFrame (frame : List Byte) (s : State) : Outcome State Fault Refusal :=
  .next (if isRequestFrame frame && !wellFormedFrame frame then
    asEvent (atPort fun s => answer (frame.headD 0) (refuse .badLength) s) s else s)

/-- EARLY_REQUEST (R172): a request frame while READY is low is discarded and PORT_OVERRUN is set. While READY is high there is
no early frame (log entry 7). -/
def execEarlyRequest (frame : List Byte) (s : State) : Outcome State Fault Refusal :=
  .next (if isRequestFrame frame then asEvent (atPort id) s else s)

/-- RESPONSE_STORED (R170, step 6): the response being formed becomes the current response and READY rises. It is also the
READY rise that ends a PORT_RESET (R179). -/
def execResponseStored (s : State) : Outcome State Fault Refusal := .next (asEvent storeResponse s)

/-! ### Reset sources (R179) -/

/-- RST_ASSERT: RST is held low. -/
def execRstAssert (s : State) : Outcome State Fault Refusal := .next (setPins { s.pins with rstLow := true } s)

/-- RST_RELEASE: RST is high again. -/
def execRstRelease (s : State) : Outcome State Fault Refusal := .next (setPins { s.pins with rstLow := false } s)

/-- SUPPLY_LOW: VDD is below its threshold. -/
def execSupplyLow (s : State) : Outcome State Fault Refusal := .next (setPins { s.pins with supplyLow := true } s)

/-- SUPPLY_RESTORED: VDD has recovered. -/
def execSupplyRestored (s : State) : Outcome State Fault Refusal := .next (setPins { s.pins with supplyLow := false } s)

end Sys2Proof.Machine
end

