-- ==== Sys2Proof/Machine/Stations.lean ====
section
/-!
DEFINITION. Machine/Stations.lean: the requests on stations and the line, and the exchanges of the station line (R117 to R135).
-/

namespace Sys2Proof.Machine

open Host (Outcome)

/-- A station address 1-126 (R124). -/
def isStation (a : Nat) : Bool := 1 ≤ a && a ≤ 126

/-- A station after an accepted STATION_SET (R133). -/
def Station.set (bound : Option Nat) (mode : AcceptMode) (redirect clear : Bool) (st : Station) : Station :=
  let st := { st with bound := bound, mode := mode, redirect := redirect }
  if clear then { st with polls := 0, good := 0, bad := 0 } else st

/-- STATION_SET (R133). -/
def stationSet (p : Payload) (s : State) : Reply :=
  if p.length ≠ 6 then refuse .badLength
  else if !isStation (byteAt p 0) then badField 0
  else
    match AcceptMode.ofCode? (byteAt p 3) with
    | none => badField 3
    | some mode =>
      if flagAt p 1 ∧ (s.printers.get? (byteAt p 2)).isNone then refuse .notFound
      else
        let bound := if flagAt p 1 then some (byteAt p 2) else none
        okay (updStation (byteAt p 0) (Station.set bound mode (flagAt p 4) (flagAt p 5)) s) []

/-- An optional display message of a response: a presence byte and the six bytes of R119 (R182, log entry 20). -/
def messageField : Option Message → Payload
  | none => [0, 0, 0, 0, 0, 0, 0]
  | some m => 1 :: m.bytes

/-- The payload of STATION_READ (R134, R182). -/
def stationPayload (s : State) (a : Nat) : Payload :=
  let st := s.stationAt a
  [st.state.code] ++ le 2 (s.line.calendar.count a) ++ optional 1 st.bound ++ [st.mode.code] ++ flag st.redirect
    ++ le 1 st.misses ++ le 1 st.pollCount ++ le 1 st.badCount ++ flag st.noisy ++ le 4 st.polls.toNat
    ++ le 4 st.good.toNat ++ le 4 st.bad.toNat ++ messageField st.slot
    ++ le 4 ((st.last.map fun l => l.1.toNat).getD 0) ++ optional 4 (st.last.map fun l => l.2.toNat)

/-- STATION_READ (R134). -/
def stationRead (p : Payload) (s : State) : Reply :=
  if p.length ≠ 1 then refuse .badLength
  else if !isStation (byteAt p 0) then badField 0
  else okay s (stationPayload s (byteAt p 0))

/-- The pending calendar that a piece continues: none when the piece has first index 0, or when the STATE check of R131 fails
it. -/
def Line.continued (l : Line) (first total : Nat) : Option (List Nat) :=
  match l.loading with
  | none => none
  | some (t, got) => if t = total ∧ got.length = first then some got else none

/-- Loads an accepted piece: the addresses held so far are `got` (R131). -/
def loadPiece (total : Nat) (got : List Nat) (s : State) : Reply :=
  let full := got.length = total
  okay (if full then installCalendar got s else { s with line := { s.line with loading := some (total, got) } })
    (le 2 got.length ++ flag full)

/-- CALENDAR_SET (R131). -/
def calendarSet (p : Payload) (s : State) : Reply :=
  let first := byteAt p 0
  let total := u16 p 1
  let piece := listAt p 3 (p.length - 3)
  if p.length < 3 then refuse .badLength
  else if 256 < total then badField 1
  else
    match firstBad isStation piece with
    | some j => badEntry 2 j
    | none =>
      if total < first + piece.length then refuse .badLength
      else if first = 0 then loadPiece total piece s
      else
        match s.line.continued first total with
        | none => refuse .state
        | some got => loadPiece total (got ++ piece) s

/-- The report of LINE_SET (R135, R182). -/
def linePayload (l : Line) : Payload :=
  flag l.enabled ++ le 4 l.rate.baud ++ le 1 l.window ++ [l.regime.code] ++ le 2 l.calendar.length ++ le 1 l.walk
    ++ flag l.answer.isSome ++ le 2 ((l.loading.map fun x => x.2.length).getD 0)

/-- LINE_SET (R135). -/
def lineSet (p : Payload) (s : State) : Reply :=
  if p.length ≠ 7 then refuse .badLength
  else if !flagAt p 0 then okay s (linePayload s.line)
  else
    match LineRate.ofBaud? (u32 p 2) with
    | none => badField 2
    | some rate =>
      if byteAt p 6 < 2 ∨ 50 < byteAt p 6 then badField 3
      else
        let l := s.line.apply s.now (flagAt p 1) rate (byteAt p 6)
        okay { s with line := l } (linePayload l)

/-- STATION_SET taken as a request. -/
def execStationSet (p : Payload) (s : State) : Outcome State Fault Refusal := .next (takeRequest 0x48 stationSet p s)

/-- STATION_READ taken as a request. -/
def execStationRead (p : Payload) (s : State) : Outcome State Fault Refusal := .next (takeRequest 0x49 stationRead p s)

/-- CALENDAR_SET taken as a request. -/
def execCalendarSet (p : Payload) (s : State) : Outcome State Fault Refusal := .next (takeRequest 0x4A calendarSet p s)

/-- LINE_SET taken as a request. -/
def execLineSet (p : Payload) (s : State) : Outcome State Fault Refusal := .next (takeRequest 0x4B lineSet p s)

/-! ### Exchanges -/

/-- CALENDAR_POLL (R122, R123): while the line is not OFF, no exchange is in progress and no answer poll is pending, the part
polls the address at the walk position. Otherwise the event does not occur (log entry 7). -/
def calendarPollEffect (s : State) : State :=
  if s.line.regime ≠ .off ∧ s.line.exchange = none ∧ s.line.answer = none then
    match s.line.calendar[s.line.walk]? with
    | none => s
    | some a => beginPoll a false s
  else s

/-- ANSWER_POLL (R130): with no exchange in progress, the pending answer poll begins. Otherwise the event does not occur
(log entry 7). -/
def answerPollEffect (s : State) : State :=
  match s.line.exchange, s.line.answer with
  | none, some a => beginPoll a true s
  | _, _ => s

/-- Ends the exchange in progress with the verdict that `judge` gives for the station polled. The event says by itself that the
poll has ended and DE is released: the reply window opens there, and RXD is not read before (R117, R120, log entry 10).
With no exchange in progress the event does not occur (log entry 7). -/
def endWith (judge : Nat → Verdict) (s : State) : State :=
  match s.line.exchange with
  | none => s
  | some ex => endExchange ex (judge ex.station) s

/-- CALENDAR_POLL. -/
def execCalendarPoll (s : State) : Outcome State Fault Refusal := .next (asEvent calendarPollEffect s)

/-- ANSWER_POLL. -/
def execAnswerPoll (s : State) : Outcome State Fault Refusal := .next (asEvent answerPollEffect s)

/-- STATION_REPLY (R120, R121, R125): a reply that began in the window is judged. Without a character there is no reply (log
entry 7). -/
def execStationReply (chars : List Byte) (s : State) : Outcome State Fault Refusal :=
  .next (if chars.isEmpty then s else asEvent (endWith fun a => judgeReply a chars) s)

/-- MISS (R120): the window has closed on an idle line. -/
def execMiss (s : State) : Outcome State Fault Refusal := .next (asEvent (endWith fun _ => .miss) s)

/-- LATE_REPLY (R120): a reply that begins after the window is a bad frame, whatever its characters. Without a character there
is no reply (log entry 7). -/
def execLateReply (chars : List Byte) (s : State) : Outcome State Fault Refusal :=
  .next (if chars.isEmpty then s else asEvent (endWith fun _ => .badFrame) s)

end Sys2Proof.Machine
end

