-- ==== Sys2Proof/Machine/StockUnit.lean ====
section
/-!
DEFINITION. Machine/StockUnit.lean: the requests on cartridge types and requisitions (R64 to R66, R73 to R76).
-/

namespace Sys2Proof.Machine

open Host (Outcome)

/-- A shelf after the shelf mode is applied (R64): KEEP, SET, ADJUST; none when the value is out of its mode's range. -/
def shelfAfter (mode : Nat) (value : Int) (shelf : Nat) : Option Nat :=
  match mode with
  | 0 => some shelf
  | 1 => if 0 ≤ value ∧ value ≤ 255 then some value.toNat else none
  | _ => if -255 ≤ value ∧ value ≤ 255 then some (min 255 (max 0 ((shelf : Int) + value)).toNat) else none

/-- The number a reorder check issued or grew, or 0 (R64). -/
def ReorderResult.number : ReorderResult → Nat
  | .issued n | .grew n => n
  | _ => 0

/-- The number a reorder check issued, or 0 (R73). -/
def ReorderResult.issuedNumber : ReorderResult → Nat
  | .issued n => n
  | _ => 0

/-- The type record an accepted TYPE_SET stores (R64, steps 1 and 2). -/
def setType (old : Option CartridgeType) (shelf reserve pack lead margin : Nat) : CartridgeType :=
  ⟨shelf, reserve, pack, lead, margin, old.any fun t => t.holdOff, old.any fun t => t.pending⟩

/-- An accepted TYPE_SET that defines or changes a type: the record, the reorder check, and the announcement when the type
was undefined or its shelf has changed (R64). -/
def defineType (t : Nat) (ty : CartridgeType) (s : State) : State × ReorderResult :=
  let old := s.stock.types.get? t
  let r := reorder t { s with stock := { s.stock with types := s.stock.types.put t ty } }
  let changed := old.all fun o => o.shelf ≠ ty.shelf
  (if changed then calloutUpdate [] [t] r.1 else r.1, r.2)

/-- TYPE_SET with the defined flag clear (R65). -/
def undefineType (t : Nat) (s : State) : Reply :=
  if s.stock.reqs.any fun e => e.2.type == t then refuse .state
  else if (s.stock.types.get? t).isNone then okay s (le 1 0 ++ le 2 0)
  else
    okay (calloutUpdate [] [t] { s with stock := { s.stock with types := s.stock.types.del t } }) (le 1 0 ++ le 2 0)

/-- TYPE_SET (R64, R65). -/
def typeSet (p : Payload) (s : State) : Reply :=
  let t := byteAt p 0
  if p.length ≠ 9 then refuse .badLength
  else if 63 < t then badField 0
  else if !flagAt p 1 then undefineType t s
  else if 15 < byteAt p 2 then badField 2
  else if byteAt p 3 < 1 ∨ 16 < byteAt p 3 then badField 3
  else if byteAt p 4 < 1 ∨ 60 < byteAt p 4 then badField 4
  else if 30 < byteAt p 5 then badField 5
  else if 2 < byteAt p 6 then badField 6
  else
    let old := s.stock.types.get? t
    match shelfAfter (byteAt p 6) (i16 p 7) ((old.map fun o => o.shelf).getD 0) with
    | none => badField 7
    | some shelf =>
      let r := defineType t (setType old shelf (byteAt p 2) (byteAt p 3) (byteAt p 4) (byteAt p 5)) s
      okay r.1 (le 1 shelf ++ le 2 r.2.number)

/-- The payload of TYPE_READ (R66, R182): for an undefined type every field but the first two is 0. -/
def typePayload (s : State) (t : Nat) : Payload :=
  let ty := (s.stock.types.get? t).getD ⟨0, 0, 0, 0, 0, false, false⟩
  flag (s.stock.types.get? t).isSome ++ le 2 (s.wantedCount t) ++ le 1 ty.shelf ++ le 1 ty.reserve ++ le 1 ty.pack
    ++ le 1 ty.lead ++ le 1 ty.margin ++ flag ty.holdOff ++ flag ty.pending ++ le 2 (s.onOrder t)
    ++ le 2 (((s.openReq t).map Prod.fst).getD 0)
    ++ le 1 (s.stock.reqs.countP fun e => e.2.type == t && e.2.confirmDay.isNone)
    ++ le 1 (s.stock.reqs.countP fun e => e.2.type == t && e.2.confirmDay.isSome)

/-- TYPE_READ (R66). -/
def typeRead (p : Payload) (s : State) : Reply :=
  if p.length ≠ 1 then refuse .badLength
  else if 63 < byteAt p 0 then badField 0
  else okay s (typePayload s (byteAt p 0))

/-- REQ_CONFIRM (R73). -/
def reqConfirm (p : Payload) (s : State) : Reply :=
  if p.length ≠ 2 then refuse .badLength
  else
    match s.stock.reqs.get? (u16 p 0) with
    | none => refuse .notFound
    | some r =>
      if r.confirmDay.isSome then refuse .state
      else
        let c := reorder r.type (updReq (u16 p 0) (fun r => { r with confirmDay := some s.time.day }) s)
        okay c.1 (le 1 r.quantity ++ le 2 s.time.day.toNat ++ le 2 c.2.issuedNumber)

/-- Retires a requisition (R67). -/
def retireReq (n : Nat) (s : State) : State :=
  { s with stock := { s.stock with reqs := s.stock.reqs.del n } }

/-- An accepted REQ_RECEIVE of `q` cartridges against requisition `n` (R74). The announcement's reconciliations are made
at the end of the event. -/
def applyReceive (n q : Nat) (r : Requisition) (shelf : Nat) (s : State) : State :=
  let s := setCauseIf (255 < shelf + q) .stockMismatch
    (updType r.type (fun t => { t with shelf := min 255 (shelf + q) }) s)
  let s :=
    if r.quantity ≤ q then servePending (reorderCheck r.type (retireReq n s))
    else reorderCheck r.type (updReq n (fun r => { r with quantity := r.quantity - q }) s)
  if min 255 (shelf + q) = shelf then s else calloutUpdate [] [r.type] s

/-- REQ_RECEIVE (R74). The quantity still to come is answered as the receipt leaves it, before the reorder check of step 5 may
grow an OPEN requisition again: R74 does not say which (log entry 23). -/
def reqReceive (p : Payload) (s : State) : Reply :=
  if p.length ≠ 3 then refuse .badLength
  else if byteAt p 2 = 0 then badField 1
  else
    match s.stock.reqs.get? (u16 p 0) with
    | none => refuse .notFound
    | some r =>
      let shelf := ((s.stock.types.get? r.type).map fun t => t.shelf).getD 0
      let q := byteAt p 2
      okay (applyReceive (u16 p 0) q r shelf s)
        (le 1 (min 255 (shelf + q)) ++ le 1 (r.quantity - q) ++ le 1 (shelf + q - 255))

/-- REQ_CANCEL (R75). -/
def reqCancel (p : Payload) (s : State) : Reply :=
  if p.length ≠ 2 then refuse .badLength
  else
    match s.stock.reqs.get? (u16 p 0) with
    | none => refuse .notFound
    | some r =>
      okay (servePending (reorderCheck r.type (updType r.type (fun t => { t with holdOff := true })
        (retireReq (u16 p 0) s)))) (le 1 r.quantity)

/-- The payload of REQ_READ (R76, R182). -/
def reqPayload (n : Nat) (r : Requisition) : Payload :=
  le 2 n ++ le 1 r.type ++ le 1 r.quantity ++ flag r.confirmDay.isSome ++ le 2 r.raiseDay.toNat
    ++ optional 2 (r.confirmDay.map BitVec.toNat) ++ flag r.overdue

/-- REQ_READ (R76). -/
def reqRead (p : Payload) (s : State) : Reply :=
  if p.length ≠ 2 then refuse .badLength
  else
    match s.stock.reqs.get? (u16 p 0) with
    | none => refuse .notFound
    | some r => okay s (reqPayload (u16 p 0) r)

/-- REQ_NEXT (R76). -/
def reqNext (p : Payload) (s : State) : Reply :=
  if p.length ≠ 2 then refuse .badLength
  else
    match s.stock.reqs.above (u16 p 0) with
    | none => refuse .empty
    | some (n, r) => okay s (reqPayload n r)

/-- TYPE_SET taken as a request. -/
def execTypeSet (p : Payload) (s : State) : Outcome State Fault Refusal := .next (takeRequest 0x28 typeSet p s)

/-- TYPE_READ taken as a request. -/
def execTypeRead (p : Payload) (s : State) : Outcome State Fault Refusal := .next (takeRequest 0x29 typeRead p s)

/-- REQ_CONFIRM taken as a request. -/
def execReqConfirm (p : Payload) (s : State) : Outcome State Fault Refusal := .next (takeRequest 0x2A reqConfirm p s)

/-- REQ_RECEIVE taken as a request. -/
def execReqReceive (p : Payload) (s : State) : Outcome State Fault Refusal := .next (takeRequest 0x2B reqReceive p s)

/-- REQ_CANCEL taken as a request. -/
def execReqCancel (p : Payload) (s : State) : Outcome State Fault Refusal := .next (takeRequest 0x2C reqCancel p s)

/-- REQ_READ taken as a request. -/
def execReqRead (p : Payload) (s : State) : Outcome State Fault Refusal := .next (takeRequest 0x2D reqRead p s)

/-- REQ_NEXT taken as a request. -/
def execReqNext (p : Payload) (s : State) : Outcome State Fault Refusal := .next (takeRequest 0x2E reqNext p s)

end Sys2Proof.Machine
end

