-- ==== Sys2Proof/Machine/Tickets.lean ====
section
/-!
DEFINITION. Machine/Tickets.lean: the requests on tickets (R37 to R39).
-/

namespace Sys2Proof.Machine

open Host (Outcome)

/-- The ticket after TICKET_ACK (R37): RAISED becomes ACKED at its current severity. -/
def Ticket.acknowledge (t : Ticket) : Ticket :=
  match t.state with
  | .raised => { t with state := .acked t.severity }
  | _ => t

/-- TICKET_ACK (R37). -/
def ticketAck (p : Payload) (s : State) : Reply :=
  if p.length ≠ 2 then refuse .badLength
  else
    match s.callout.tickets.get? (u16 p 0) with
    | none => refuse .notFound
    | some t =>
      if t.state = .resolved then refuse .state
      else
        okay (updTicket (u16 p 0) (fun _ => t.acknowledge) s)
          (t.acknowledge.state.code :: le 1 (t.acknowledge.acknowledged.getD 0))

/-- TICKET_CLOSE (R38): a RESOLVED ticket is retired and its entry handed over. -/
def ticketClose (p : Payload) (s : State) : Reply :=
  if p.length ≠ 2 then refuse .badLength
  else
    match s.callout.tickets.get? (u16 p 0) with
    | none => refuse .notFound
    | some t =>
      if t.state ≠ .resolved then refuse .state
      else okay (handOver (retireTicket (u16 p 0) s)) []

/-- The payload of TICKET_READ (section 11.6). -/
def ticketPayload (n : Nat) (t : Ticket) : Payload :=
  le 2 n ++ le 1 t.printer ++ [t.state.code] ++ le 1 t.severity ++ le 1 t.level ++ flag t.nonAuto
    ++ le 4 t.raised.toNat ++ le 4 t.point.toNat ++ le 1 (t.acknowledged.getD 0) ++ le 1 t.causes.length
    ++ (t.causes.map fun c => le 1 c.1.number ++ le 1 c.2).flatten

/-- TICKET_READ (R39). -/
def ticketRead (p : Payload) (s : State) : Reply :=
  if p.length ≠ 2 then refuse .badLength
  else
    match s.callout.tickets.get? (u16 p 0) with
    | none => refuse .notFound
    | some t => okay s (ticketPayload (u16 p 0) t)

/-- TICKET_NEXT (R39): the live ticket with the lowest number above the one given. -/
def ticketNext (p : Payload) (s : State) : Reply :=
  if p.length ≠ 2 then refuse .badLength
  else
    match s.callout.tickets.above (u16 p 0) with
    | none => refuse .empty
    | some (n, t) => okay s (ticketPayload n t)

/-- TICKET_ACK taken as a request. -/
def execTicketAck (p : Payload) (s : State) : Outcome State Fault Refusal := .next (takeRequest 0x18 ticketAck p s)

/-- TICKET_CLOSE taken as a request. -/
def execTicketClose (p : Payload) (s : State) : Outcome State Fault Refusal := .next (takeRequest 0x19 ticketClose p s)

/-- TICKET_READ taken as a request. -/
def execTicketRead (p : Payload) (s : State) : Outcome State Fault Refusal := .next (takeRequest 0x1A ticketRead p s)

/-- TICKET_NEXT taken as a request. -/
def execTicketNext (p : Payload) (s : State) : Outcome State Fault Refusal := .next (takeRequest 0x1B ticketNext p s)

end Sys2Proof.Machine
end

