-- ==== Sys2Proof/Machine/Time.lean ====
section
/-!
DEFINITION. Machine/Time.lean: the commands of the Time Base: TIME_SET and TIME_READ, the second event, its timers and the
steps of the sweep (09; R18, R28, R34, R52, R77, R97, R112, R123, R148, R153).
-/

namespace Sys2Proof.Machine

open Host (Outcome)

/-- What a TIME_SET does with its day number, and whether it requests a sweep (R162). -/
def setDay (n : Day) (t : TimeBase) : TimeBase × Bool :=
  match t.lastSwept with
  | none => ({ t with day := n, lastSwept := some n }, false)
  | some l =>
    if n = t.day then (t, false)
    else if 1 ≤ dayDiff n l ∧ dayDiff n l ≤ 32767 then (requestSweep { t with day := n }, true)
    else ({ t with day := n, lastSwept := some n, queued := false }, false)

/-- The optional last swept day of a response. -/
def lastSweptField (t : TimeBase) : Payload := optional 2 (t.lastSwept.map BitVec.toNat)

/-- The sweep state of a response (section 11.5). -/
def sweepStateField (t : TimeBase) : Payload := flag t.sweep.isSome

/-- The mode of a TIME_SET code: 0 HOLD, 1 RUN (section 11.5). -/
def timeModeOf (code : Nat) : TimeMode := if code = 1 then .running else .held

/-- TIME_SET (R161): the time and the day number, then the divider, then the mode. -/
def timeSet (p : Payload) (s : State) : Reply :=
  if p.length ≠ 8 then refuse .badLength
  else if 1 < byteAt p 0 then badField 0
  else
    let r := if flagAt p 1 then setDay (BitVec.ofNat 16 (u16 p 6)) { s.time with building := word p 2 } else (s.time, false)
    let t := { r.1 with divider := 0, mode := timeModeOf (byteAt p 0) }
    okay { s with time := t }
      (le 2 t.day.toNat ++ lastSweptField t ++ sweepStateField t ++ flag r.2 ++ flag t.queued)

/-- The phase, the walk and the position that TIME_READ reports (R163): zeros while IDLE. -/
def sweepReport (s : State) : Nat × Nat × Nat :=
  match s.time.sweep with
  | none => (0, 0, 0)
  | some (.printers n) => (1, 1, n)
  | some (.groups n) => (2, 2, n)
  | some (.accounts last) =>
    match s.bank.accounts.above last with
    | some (n, _) => (2, 3, n)
    | none => (3, 4, 0)
  | some (.types n) => (3, 4, n)

/-- TIME_READ (R163). -/
def timeRead (p : Payload) (s : State) : Reply :=
  if p.length ≠ 0 then refuse .badLength
  else
    let t := s.time
    let r := sweepReport s
    okay s (le 4 t.building.toNat ++ le 4 t.runSeconds.toNat ++ le 2 t.day.toNat ++ lastSweptField t
      ++ [t.mode.code] ++ sweepStateField t ++ flag t.queued ++ le 1 r.1 ++ le 1 r.2.1 ++ le 2 r.2.2
      ++ le 1 t.span ++ le 2 t.opening.toNat ++ le 2 t.closing.toNat)

/-- TIME_SET taken as a request. -/
def execTimeSet (p : Payload) (s : State) : Outcome State Fault Refusal := .next (takeRequest 0x09 timeSet p s)

/-- TIME_READ taken as a request. -/
def execTimeRead (p : Payload) (s : State) : Outcome State Fault Refusal := .next (takeRequest 0x0A timeRead p s)

/-! ### The second event and its timers (log entry 3) -/

/-- SECOND_EVENT (R158). -/
def execSecondEvent (s : State) : Outcome State Fault Refusal := .next (asEvent secondEventEffect s)

/-- DAY_BOUNDARY (R160). -/
def execDayBoundary (s : State) : Outcome State Fault Refusal := .next (timerRow .dayBoundary s)

/-- SILENCE_EXPIRY (R18). -/
def execSilenceExpiry (s : State) : Outcome State Fault Refusal := .next (timerRow .silence s)

/-- CLASS_TICK of class `n` (R28). -/
def execClassTick (n : Nat) (s : State) : Outcome State Fault Refusal := .next (timerRow (.tick n) s)

/-- ESCALATION (R34). -/
def execEscalation (s : State) : Outcome State Fault Refusal := .next (timerRow .escalation s)

/-- HOLD_EXPIRY (R112). -/
def execHoldExpiry (s : State) : Outcome State Fault Refusal := .next (timerRow .holdExpiry s)

/-- TAKE_TIMEOUT (R148). -/
def execTakeTimeout (s : State) : Outcome State Fault Refusal := .next (timerRow .takeTimeout s)

/-- ABANDONMENT (R153). -/
def execAbandonment (s : State) : Outcome State Fault Refusal := .next (timerRow .abandonment s)

/-- QUIET_TIMEOUT (R123). -/
def execQuietTimeout (s : State) : Outcome State Fault Refusal := .next (timerRow .quiet s)

/-! ### The steps of a sweep (R166) -/

/-- SWEEP_PRINTER_STEP (R52, R166): a step of the printer walk. In another walk there is no printer step (log entry 7). -/
def printerStepEffect (s : State) : State :=
  match s.time.sweep with
  | some (.printers n) => sweepPrinterWalk n s
  | _ => s

/-- SWEEP_GROUP_STEP (R97, R166): a step of the group walk, which begins once no printer is left to reach. -/
def groupStepEffect (s : State) : State :=
  match s.time.sweep.map (passedOver s) with
  | some (.groups n) => sweepGroupWalk n s
  | _ => s

/-- SWEEP_ACCOUNT_STEP (R97, R166): a step of the account walk. -/
def accountStepEffect (s : State) : State :=
  match s.time.sweep with
  | some (.accounts last) => sweepAccountWalk last s
  | _ => s

/-- SWEEP_TYPE_STEP (R77, R166, R167): a step of the type walk, which begins once no account is left to reach. -/
def typeStepEffect (s : State) : State :=
  match s.time.sweep.map (passedOver s) with
  | some (.types n) => sweepTypeWalk n s
  | _ => s

/-- SWEEP_PRINTER_STEP. -/
def execSweepPrinterStep (s : State) : Outcome State Fault Refusal := .next (asEvent printerStepEffect s)

/-- SWEEP_GROUP_STEP. -/
def execSweepGroupStep (s : State) : Outcome State Fault Refusal := .next (asEvent groupStepEffect s)

/-- SWEEP_ACCOUNT_STEP. -/
def execSweepAccountStep (s : State) : Outcome State Fault Refusal := .next (asEvent accountStepEffect s)

/-- SWEEP_TYPE_STEP. -/
def execSweepTypeStep (s : State) : Outcome State Fault Refusal := .next (asEvent typeStepEffect s)

end Sys2Proof.Machine
end

