-- ==== Sys2Proof/Machine/Dispatch.lean ====
section
/-!
DEFINITION. Machine/Dispatch.lean: one arm per command, each one call of its meaning.
-/

namespace Sys2Proof.Machine

/-- The effect of a command on everything but the queue. -/
def exec (i : Instr) (s : State) : Host.Outcome State Fault Refusal :=
  match i with
  | .portReset p => Sys2Proof.Machine.execPortReset p s
  | .statusRead p => Sys2Proof.Machine.execStatusRead p s
  | .statusClear p => Sys2Proof.Machine.execStatusClear p s
  | .maskSet p => Sys2Proof.Machine.execMaskSet p s
  | .paramSet p => Sys2Proof.Machine.execParamSet p s
  | .paramRead p => Sys2Proof.Machine.execParamRead p s
  | .countersRead p => Sys2Proof.Machine.execCountersRead p s
  | .countersClear p => Sys2Proof.Machine.execCountersClear p s
  | .timeSet p => Sys2Proof.Machine.execTimeSet p s
  | .timeRead p => Sys2Proof.Machine.execTimeRead p s
  | .printerAdd p => Sys2Proof.Machine.execPrinterAdd p s
  | .printerSet p => Sys2Proof.Machine.execPrinterSet p s
  | .printerRead p => Sys2Proof.Machine.execPrinterRead p s
  | .printerRetire p => Sys2Proof.Machine.execPrinterRetire p s
  | .statusReport p => Sys2Proof.Machine.execStatusReport p s
  | .ticketAck p => Sys2Proof.Machine.execTicketAck p s
  | .ticketClose p => Sys2Proof.Machine.execTicketClose p s
  | .ticketRead p => Sys2Proof.Machine.execTicketRead p s
  | .ticketNext p => Sys2Proof.Machine.execTicketNext p s
  | .cartridgeRead p => Sys2Proof.Machine.execCartridgeRead p s
  | .cartridgeSwapped p => Sys2Proof.Machine.execCartridgeSwapped p s
  | .cartridgeSeed p => Sys2Proof.Machine.execCartridgeSeed p s
  | .typeSet p => Sys2Proof.Machine.execTypeSet p s
  | .typeRead p => Sys2Proof.Machine.execTypeRead p s
  | .reqConfirm p => Sys2Proof.Machine.execReqConfirm p s
  | .reqReceive p => Sys2Proof.Machine.execReqReceive p s
  | .reqCancel p => Sys2Proof.Machine.execReqCancel p s
  | .reqRead p => Sys2Proof.Machine.execReqRead p s
  | .reqNext p => Sys2Proof.Machine.execReqNext p s
  | .accountAdd p => Sys2Proof.Machine.execAccountAdd p s
  | .accountSet p => Sys2Proof.Machine.execAccountSet p s
  | .accountRead p => Sys2Proof.Machine.execAccountRead p s
  | .accountFindBadge p => Sys2Proof.Machine.execAccountFindBadge p s
  | .accountAdjust p => Sys2Proof.Machine.execAccountAdjust p s
  | .accountRetire p => Sys2Proof.Machine.execAccountRetire p s
  | .groupSet p => Sys2Proof.Machine.execGroupSet p s
  | .groupRead p => Sys2Proof.Machine.execGroupRead p s
  | .priceSet p => Sys2Proof.Machine.execPriceSet p s
  | .jobSubmit p => Sys2Proof.Machine.execJobSubmit p s
  | .jobCancel p => Sys2Proof.Machine.execJobCancel p s
  | .jobRead p => Sys2Proof.Machine.execJobRead p s
  | .jobNextOf p => Sys2Proof.Machine.execJobNextOf p s
  | .stationSet p => Sys2Proof.Machine.execStationSet p s
  | .stationRead p => Sys2Proof.Machine.execStationRead p s
  | .calendarSet p => Sys2Proof.Machine.execCalendarSet p s
  | .lineSet p => Sys2Proof.Machine.execLineSet p s
  | .releaseRequest p => Sys2Proof.Machine.execReleaseRequest p s
  | .dispatchTake p => Sys2Proof.Machine.execDispatchTake p s
  | .jobDone p => Sys2Proof.Machine.execJobDone p s
  | .unknownRequest code p => Sys2Proof.Machine.execUnknownRequest code p s
  | .malformedRequestFrame frame => Sys2Proof.Machine.execMalformedRequestFrame frame s
  | .earlyRequest frame => Sys2Proof.Machine.execEarlyRequest frame s
  | .rstAssert => Sys2Proof.Machine.execRstAssert s
  | .rstRelease => Sys2Proof.Machine.execRstRelease s
  | .supplyLow => Sys2Proof.Machine.execSupplyLow s
  | .supplyRestored => Sys2Proof.Machine.execSupplyRestored s
  | .secondEvent => Sys2Proof.Machine.execSecondEvent s
  | .dayBoundary => Sys2Proof.Machine.execDayBoundary s
  | .silenceExpiry => Sys2Proof.Machine.execSilenceExpiry s
  | .classTick n => Sys2Proof.Machine.execClassTick n s
  | .escalation => Sys2Proof.Machine.execEscalation s
  | .holdExpiry => Sys2Proof.Machine.execHoldExpiry s
  | .takeTimeout => Sys2Proof.Machine.execTakeTimeout s
  | .abandonment => Sys2Proof.Machine.execAbandonment s
  | .quietTimeout => Sys2Proof.Machine.execQuietTimeout s
  | .sweepPrinterStep => Sys2Proof.Machine.execSweepPrinterStep s
  | .sweepGroupStep => Sys2Proof.Machine.execSweepGroupStep s
  | .sweepAccountStep => Sys2Proof.Machine.execSweepAccountStep s
  | .sweepTypeStep => Sys2Proof.Machine.execSweepTypeStep s
  | .calendarPoll => Sys2Proof.Machine.execCalendarPoll s
  | .answerPoll => Sys2Proof.Machine.execAnswerPoll s
  | .stationReply chars => Sys2Proof.Machine.execStationReply chars s
  | .miss => Sys2Proof.Machine.execMiss s
  | .lateReply chars => Sys2Proof.Machine.execLateReply chars s
  | .responseStored => Sys2Proof.Machine.execResponseStored s

end Sys2Proof.Machine
end

