-- ==== Sys2Proof/Machine/Step.lean ====
section
/-!
DEFINITION. Machine/Step.lean: the step, which takes the command at the front of the queue, and what stands in for a fetch (log
entries 6 and 8).
-/

namespace Sys2Proof.Machine

/-- One period of CLKIN, the part's only clock: what happens while no command waits (R158, log entry 6). -/
def idle (s : State) : State := asEvent clockPeriod s

/-- The command at the front of the queue is taken, with the queue's rest left waiting. On an empty queue one CLKIN period
passes. -/
def step (s : State) : Host.Outcome State Fault Refusal :=
  match s.pending with
  | [] => .next (idle s)
  | c :: rest => exec c { s with pending := rest }

/-- The state with the command a word spells put at the front of the queue; unchanged where the word spells none. -/
def State.withFetchWord (s : State) (nbits w : Nat) : State :=
  match decodeTableWord nbits w with
  | none => s
  | some c => { s with pending := c :: s.pending }

end Sys2Proof.Machine
end

