-- ==== Sys2Proof/Safety.lean ====
section
/-!
DEFINITION. Safety.lean: the terms the claims use: when the part can take a request, what a response is, and the invariants the
manual states of every record (R31, R43, R65, R67, R79 to R94, R99 to R102, R114, R122 to R124, R129, R137, R138, R149, R157,
R174, R175, R183).
-/

namespace Sys2Proof.Machine

/-! ### When an event is taken, and how a request is answered -/

/-- No reset hold, and no second event in progress: the next command is taken as it stands. -/
abbrev State.Settled (s : State) : Prop := s.inReset = false ∧ s.second = ⟨[], [], []⟩

/-- The state is settled and READY is high: the next request frame is taken (R170). -/
abbrev State.Receptive (s : State) : Prop := s.ready = true ∧ s.second = ⟨[], [], []⟩

/-- The state in which a taken request of a code has had its effect, which left `t`, and is answered OK with a payload. -/
def answeredOk (code : Byte) (payload : Payload) (t : State) : State := setWorking ⟨.ok, code, payload⟩ t

/-- The state in which a taken request of a code is refused with a status and a payload: nothing else has changed (R173). -/
def answeredNo (code : Byte) (st : Status) (payload : Payload) (s : State) : State := setWorking ⟨st, code, payload⟩ s

/-- The index of the first field that a request's checks find bad, in the order given (R173): each entry is a field's index and
whether it is bad. -/
def firstBadField (checks : List (Nat × Bool)) : Option Nat := (checks.find? fun c => c.2).map Prod.fst

end Sys2Proof.Machine

namespace Sys2Proof

open Machine

/-- The command is an event of a reset source (R179). -/
def Instr.isPinEvent : Instr → Bool
  | .rstAssert | .rstRelease | .supplyLow | .supplyRestored => true
  | _ => false

/-- The timer a timer row runs (R158). -/
def Instr.timer? : Instr → Option Timer
  | .dayBoundary => some .dayBoundary
  | .takeTimeout => some .takeTimeout
  | .silenceExpiry => some .silence
  | .classTick n => some (.tick n)
  | .escalation => some .escalation
  | .abandonment => some .abandonment
  | .holdExpiry => some .holdExpiry
  | .quietTimeout => some .quiet
  | _ => none

/-- The command brings a request frame to the port (R169, R170). -/
def Instr.isFrame : Instr → Bool
  | .unknownRequest _ _ | .malformedRequestFrame _ | .earlyRequest _ => true
  | i => i.request?.isSome

/-- The payload length of a request whose layout has one length (section 11.2). -/
def Instr.fixedLength : Instr → Option Nat
  | .portReset _ | .statusRead _ | .countersRead _ | .countersClear _ | .timeRead _ | .dispatchTake _ => some 0
  | .printerRead _ | .printerRetire _ | .cartridgeRead _ | .typeRead _ | .groupRead _ | .stationRead _ => some 1
  | .paramRead _ | .ticketAck _ | .ticketClose _ | .ticketRead _ | .ticketNext _ | .cartridgeSwapped _ | .reqConfirm _
  | .reqCancel _ | .reqRead _ | .reqNext _ | .accountRead _ | .accountRetire _ | .jobCancel _ | .jobRead _ => some 2
  | .reqReceive _ => some 3
  | .statusClear _ | .maskSet _ | .accountFindBadge _ | .jobNextOf _ => some 4
  | .releaseRequest _ => some 5
  | .paramSet _ | .cartridgeSeed _ | .accountAdjust _ | .stationSet _ => some 6
  | .lineSet _ => some 7
  | .timeSet _ | .jobDone _ => some 8
  | .typeSet _ | .priceSet _ => some 9
  | .jobSubmit _ => some 15
  | .accountSet _ => some 18
  | .groupSet _ => some 20
  | .accountAdd _ => some 22
  | _ => none

end Sys2Proof

namespace Sys2Proof.Machine

/-- A sticky cause is present in a state's cause word. -/
def State.hasCause (s : State) (c : Cause) : Bool := s.port.sticky.getLsbD c.bit

/-- A timer is due in the second event in progress. -/
abbrev State.TimerDue (s : State) (t : Timer) : Prop := s.inReset = false ∧ t ∈ s.second.due

/-! ### Invariants -/

/-- The unassigned bits of the cause word and of the mask word are 0 (R174, R175). -/
abbrev CauseWordClean (s : State) : Prop := s.port.sticky &&& ~~~stickyBits = 0 ∧ s.port.mask &&& ~~~assignedBits = 0

/-- Every parameter lies in its range (R177, R183). -/
def ParamsInRange (s : State) : Prop := ∀ i : ParamId, i.admits (s.params.read i) = true

/-- The numbers a block issues or takes lie in 1-65535 (section 4.4, R79). -/
abbrev Numbered (l : List Nat) : Prop := ∀ n ∈ l, 1 ≤ n ∧ n ≤ 65535

/-- Every table is in order of its numbers, and its numbers are those the manual gives its records (R1, R31, R63, R67, R79,
R86, R89, R124). -/
abbrev TablesOrdered (s : State) : Prop :=
  Table.Sorted s.printers ∧ (∀ n ∈ Table.keys s.printers, n ≤ 255)
  ∧ Table.Sorted s.callout.tickets ∧ Numbered (Table.keys s.callout.tickets)
  ∧ Table.Sorted s.stock.types ∧ (∀ n ∈ Table.keys s.stock.types, n ≤ 63)
  ∧ Table.Sorted s.stock.reqs ∧ Numbered (Table.keys s.stock.reqs)
  ∧ Table.Sorted s.bank.accounts ∧ Numbered (Table.keys s.bank.accounts)
  ∧ Table.keys s.bank.groups = List.range 64 ∧ Table.keys s.bank.prices = List.range 8
  ∧ Table.keys s.line.stations = List.range' 1 126

/-- An account's fields lie in their ranges (R79, R84). -/
abbrev Account.InRange (a : Account) : Prop :=
  a.token ≠ some 0 ∧ a.group ≤ 63 ∧ Config.balanceMin ≤ a.balance ∧ a.balance ≤ Config.balanceMax
  ∧ a.allowance ≤ 2000000 ∧ a.cap ≤ 2000000

/-- A group's fields lie in their ranges (R86). -/
abbrev BudgetGroup.InRange (g : BudgetGroup) : Prop :=
  g.pool ≤ Config.poolMax ∧ g.allowance ≤ Config.poolMax ∧ g.cap ≤ Config.poolMax ∧ g.overdraft ≤ Config.overdraftMax
  ∧ 1 ≤ g.period ∧ g.period ≤ 31 ∧ g.phase < g.period

/-- The four prices of a class lie in 1-1,000 (R89). -/
abbrev Prices.InRange (p : Prices) : Prop :=
  (1 ≤ p.monoA4 ∧ p.monoA4 ≤ 1000) ∧ (1 ≤ p.colourA4 ∧ p.colourA4 ≤ 1000)
  ∧ (1 ≤ p.monoA3 ∧ p.monoA3 ≤ 1000) ∧ (1 ≤ p.colourA3 ∧ p.colourA3 ≤ 1000)

/-- Accounts, groups and prices lie in their ranges (R79, R86, R89). -/
abbrev BudgetsInRange (s : State) : Prop :=
  (∀ e ∈ s.bank.accounts, e.2.InRange) ∧ (∀ e ∈ s.bank.groups, e.2.InRange) ∧ (∀ e ∈ s.bank.prices, e.2.InRange)
  ∧ s.bank.accounts.length ≤ Config.accountEntries

/-- No two accounts carry the same badge token (R80). -/
abbrev BadgesUnique (s : State) : Prop := (s.bank.accounts.filterMap fun e => e.2.token).Nodup

/-- A cartridge record's fields lie in their ranges (R43). -/
abbrev Cartridge.InRange (c : Cartridge) : Prop :=
  c.type ≤ 63 ∧ c.level ≤ 1000 ∧ c.dayStart ≤ 1000 ∧ c.coverage ≤ 65535 ∧ c.pageRate ≤ 65535 ∧ c.forecast ≤ 999

/-- A printer record's fields lie in their ranges (R1, R42, R43). -/
abbrev Printer.InRange (p : Printer) : Prop :=
  p.floor ≤ 63 ∧ p.costClass ≤ 7 ∧ (p.slots.length = 1 ∨ p.slots.length = 4) ∧ (p.caps.colour = true → p.slots.length = 4)
  ∧ (∀ c ∈ p.slots, c.InRange) ∧ p.pMono ≤ 65535 ∧ p.pColour ≤ 65535

/-- Every printer record lies in its ranges (R1, R43). -/
abbrev PrintersInRange (s : State) : Prop := ∀ e ∈ s.printers, e.2.InRange

/-- The ticket table holds at most 64 tickets, at most one for a printer, each of a printer that is not VACANT. A deferred
printer has no ticket. A ticket is RESOLVED exactly while it has no causes, and its level is at most 3 (R31 to R36). -/
abbrev TicketsSound (s : State) : Prop :=
  s.callout.tickets.length ≤ Config.ticketEntries
  ∧ (s.callout.tickets.map fun e => e.2.printer).Nodup
  ∧ (∀ e ∈ s.callout.tickets, (s.printers.get? e.2.printer).isSome ∧ (e.2.state = .resolved ↔ e.2.causes = []) ∧ e.2.level ≤ 3)
  ∧ (∀ e ∈ s.printers, e.2.deferred = true → s.ticketOf e.1 = none)

/-- A printer's callout is in line with its causes as they stand: its ticket lists them with their severities, or without a
ticket it is deferred exactly while it has causes (R30 to R35). -/
abbrev State.CalloutInLine (s : State) (n : Nat) : Prop :=
  ∀ p ∈ s.printers.get? n, (∀ e ∈ s.ticketOf n, e.2.causes = currentCauses s p)
    ∧ (s.ticketOf n = none → (p.deferred = true ↔ currentCauses s p ≠ []))

/-- Every printer with a cause has a ticket that lists every one of its causes, or carries the deferred-callout flag, and no other
printer lists a cause or carries the flag (R35), but for the printers whose reconciliation the second event in progress still
owes; it owes none once its last judgment is made. Nothing is said of a reset hold: one that begins in the middle of a
second event abandons the reconciliations owed, while the records stand until the hold ends (R179, log entry 16). -/
abbrev CalloutsComplete (s : State) : Prop :=
  s.inReset = false →
    (∀ e ∈ s.printers, e.1 ∉ s.second.unreconciled →
      (∀ k ∈ s.ticketOf e.1, k.2.causes.map Prod.fst = (currentCauses s e.2).map Prod.fst)
      ∧ (s.ticketOf e.1 = none → (e.2.deferred = true ↔ currentCauses s e.2 ≠ [])))
    ∧ (s.second.unreconciled ≠ [] → ∃ u ∈ s.second.due, u.judges = true)

/-- `t` has the tickets and the printers of `s` with one freed ticket entry handed over (R36): it goes to the deferred printer whose
causes have the highest severity, ties to the lowest number, which gets a new RAISED ticket with all its causes; with no
such printer nothing changes. -/
abbrev State.EntryHandedOver (s t : State) : Prop :=
  let owed := fun q : Nat => ((s.printers.get? q).filter fun p => p.deferred).map fun p => severityOf (currentCauses s p)
  ((∀ q ∈ Table.keys s.printers, ∀ v ∈ owed q, v = 0) → t.callout = s.callout ∧ t.printers = s.printers)
  ∧ ∀ q ∈ Table.keys s.printers, ∀ v ∈ owed q, 0 < v →
      (∀ x ∈ Table.keys s.printers, ∀ w ∈ owed x, w < v ∨ (w = v ∧ q ≤ x)) →
      t.hasCause .calloutRaised = true ∧ t.callout.lastTicket ∉ Table.keys s.callout.tickets
      ∧ (∀ x : Nat, x ≠ q → t.printers.get? x = s.printers.get? x)
      ∧ (∀ n : Nat, n ≠ t.callout.lastTicket → t.callout.tickets.get? n = s.callout.tickets.get? n)
      ∧ ∃ p ∈ s.printers.get? q, t.printers.get? q = some { p with deferred := false }
          ∧ ∃ k ∈ t.callout.tickets.get? t.callout.lastTicket,
              k = ⟨q, currentCauses s p, k.nonAuto, .raised, 0, s.time.runSeconds, s.time.runSeconds⟩
              ∧ (k.nonAuto = true ↔ ∃ c ∈ k.causes, (s.params.kinds.at c.1).autoclose = false)

/-- The stock of `t`, and the causes that the Stock Unit sets but for an overdue requisition, are those of `u`. -/
abbrev State.StockAsIn (t u : State) : Prop :=
  t.stock = u.stock ∧ ∀ x ∈ [Cause.reqOpened, .reqTableFull, .stockMismatch], t.hasCause x = u.hasCause x

/-- A swap of a cartridge of type `t` as the Stock Unit takes it (R71): one leaves the shelf, or STOCK_MISMATCH is set when the shelf
has none or the type is undefined, and the reorder check of the type runs. -/
def State.swapTaken (t : Nat) (s : State) : State :=
  reorderCheck t (if ∃ ty ∈ s.stock.types.get? t, 1 ≤ ty.shelf then updType t (fun ty => { ty with shelf := ty.shelf - 1 }) s
    else setCause .stockMismatch s)

/-- A defined type's fields lie in their ranges (R63, R64). -/
abbrev CartridgeType.InRange (t : CartridgeType) : Prop :=
  t.shelf ≤ 255 ∧ t.reserve ≤ 15 ∧ 1 ≤ t.pack ∧ t.pack ≤ 16 ∧ 1 ≤ t.lead ∧ t.lead ≤ 60 ∧ t.margin ≤ 30

/-- The requisition table holds at most 32 requisitions, each of a defined type with a quantity 1-255, and at most one OPEN
requisition for a type. Only a CONFIRMED one is overdue (R63, R65, R67, R69, R77). -/
abbrev StockSound (s : State) : Prop :=
  (∀ e ∈ s.stock.types, e.2.InRange)
  ∧ s.stock.reqs.length ≤ Config.requisitionEntries
  ∧ (∀ e ∈ s.stock.reqs, (s.stock.types.get? e.2.type).isSome ∧ 1 ≤ e.2.quantity ∧ e.2.quantity ≤ 255
      ∧ (e.2.overdue = true → e.2.confirmDay.isSome))
  ∧ ((s.stock.reqs.filter fun e => e.2.confirmDay.isNone).map fun e => e.2.type).Nodup

/-- A job is RELEASING. -/
def Job.isReleasing (j : Job) : Bool :=
  match j.phase with
  | .releasing _ => true
  | _ => false

/-- The Job Store holds at most 2,048 jobs, each under its own number. The dispatch order holds exactly the RELEASING jobs and
the expiry order exactly the HELD jobs, each once (R99 to R102, R137). -/
abbrev JobOrdersSound (s : State) : Prop :=
  s.store.records.length ≤ Config.jobEntries
  ∧ (s.store.records.map Job.number).Nodup ∧ Numbered (s.store.records.map Job.number)
  ∧ s.release.dispatch.Nodup ∧ s.store.expiry.Nodup
  ∧ (∀ n ∈ s.release.dispatch, ∃ j ∈ s.store.records, j.number = n ∧ j.isReleasing = true)
  ∧ (∀ n ∈ s.store.expiry, ∃ j ∈ s.store.records, j.number = n ∧ j.isHeld = true)
  ∧ (∀ j ∈ s.store.records, (j.isReleasing = true → j.number ∈ s.release.dispatch)
      ∧ (j.isHeld = true → j.number ∈ s.store.expiry))

/-- The live jobs were submitted near enough to each other for their sequences to be compared (R100). -/
abbrev SequencesNear (s : State) : Prop :=
  ∀ j ∈ s.store.records, 1 ≤ (s.store.nextSeq - j.seq).toNat ∧ (s.store.nextSeq - j.seq).toNat ≤ 2147483647

/-- The records, and so every job list, and the expiry order stand in submission order, oldest first (R101, R102). -/
abbrev SubmissionOrderKept (s : State) : Prop :=
  s.store.records.Pairwise (fun i j => olderSeq j.seq i.seq = false)
  ∧ s.store.expiry.Pairwise (fun a b => ∀ i ∈ s.jobAt a, ∀ j ∈ s.jobAt b, olderSeq j.seq i.seq = false)

/-- The jobs RELEASING on a printer, in dispatch order (R149). -/
def State.releasingThere (s : State) (q : Nat) : List Nat :=
  s.release.dispatch.filter fun n => (s.jobAt n).any fun j => j.phase.info?.any fun r => r.printer == q

/-- The event that led from `s` to `t` has returned the RELEASING jobs `ns` to HELD without charge, one after another, and no other
job: each leaves the dispatch order, is settled at cost 0, goes into the expiry order immediately before the first job that
is newer than it, and is counted in the recalls counter; JOB_RECALLED is set when there is one (R94, R106, R148, R149). -/
abbrev State.ReturnedUncharged (s t : State) (ns : List Nat) : Prop :=
  t.store = { s.store with
    records := s.store.records.map fun j => if j.number ∈ ns then { j with phase := .held } else j,
    expiry := ns.foldl (fun l n => insertBefore (fun m => (s.jobAt m).any fun i => (s.jobAt n).any fun j => olderSeq j.seq i.seq) n l)
      s.store.expiry }
  ∧ t.release = { s.release with
      dispatch := s.release.dispatch.filter fun n => n ∉ ns, recalls := s.release.recalls + BitVec.ofNat 32 ns.length }
  ∧ t.bank = (ns.foldl (fun u n => ((s.jobAt n).bind fun j => j.phase.info?.map fun r => settle j.owner r 0 u).getD u) s).bank
  ∧ (t.hasCause .jobRecalled = true ↔ s.hasCause .jobRecalled = true ∨ ns ≠ [])

/-- Every job's owner is a live account of role USER that owns at most 32 jobs (R101, R103, R115). -/
abbrev OwnersSound (s : State) : Prop :=
  (∀ j ∈ s.store.records, (s.bank.accounts.get? j.owner).any fun a => a.role == .user)
  ∧ ∀ e ∈ s.bank.accounts, (s.jobsOf e.1).length ≤ 32

/-- The account portions of the reservations of an account's jobs in flight. -/
def State.portionsOwned (s : State) (a : Nat) : Nat :=
  ((s.jobsOf a).map fun j => ((j.phase.info?).map fun r => r.accountPortion).getD 0).sum

/-- The pool portions of the reservations of the jobs in flight of a group's members. -/
def State.poolPortionsOf (s : State) (g : Nat) : Nat :=
  (s.store.records.map fun j =>
    if (s.bank.accounts.get? j.owner).any fun a => a.group == g then ((j.phase.info?).map fun r => r.poolPortion).getD 0
    else 0).sum

/-- Reserved is the sum of the portions of the jobs in flight, for every account and every group, and a job's cost is the sum of
its two portions and at most COST_MAX (R93, R94). -/
abbrev ReservationsBalance (s : State) : Prop :=
  (∀ e ∈ s.bank.accounts, e.2.reserved = s.portionsOwned e.1)
  ∧ (∀ e ∈ s.bank.groups, e.2.reserved = s.poolPortionsOf e.1)
  ∧ (∀ j ∈ s.store.records, ∀ r ∈ j.phase.info?,
      r.cost = r.accountPortion + r.poolPortion ∧ r.cost ≤ Config.costMax)

/-- The printer that a SPECIFIC target names (R99). -/
def Target.printer? : Target → Option Nat
  | .specific q => some q
  | _ => none

/-- Every job in flight is on a printer that is not VACANT, a RELEASING one on a printer that is READY or IMPAIRED. A job with a
SPECIFIC target names a printer that is not VACANT and is in flight on no other. No printer has more than 16 jobs in
flight (R114, R138, R149). -/
abbrev FlightsSound (s : State) : Prop :=
  (∀ j ∈ s.store.records, ∀ r ∈ j.phase.info?, (s.printers.get? r.printer).any fun p => !j.isReleasing || p.accepts)
  ∧ (∀ j ∈ s.store.records, ∀ q ∈ j.target.printer?,
      (s.printers.get? q).isSome = true ∧ ∀ r ∈ j.phase.info?, r.printer = q)
  ∧ ∀ q ∈ Table.keys s.printers, s.inflightCount q ≤ 16

/-- A station's record agrees with the calendar, its counts lie in their ranges, and a LOST or UNLISTED station holds no message
(R124, R129). -/
abbrev Station.Sound (listed : Bool) (st : Station) : Prop :=
  (st.state = .unlisted ↔ listed = false) ∧ (st.slot.isSome = true → st.state = .alive ∨ st.state = .unknown)
  ∧ st.misses ≤ 15 ∧ st.pollCount ≤ 255 ∧ st.badCount ≤ 255

/-- The line is OFF exactly while it is disabled or its calendar is empty. The walk position is a slot of the calendar, 0 when it
is empty. An exchange in progress and a pending answer poll belong to an enabled line and a listed station, but for an
abandoned exchange. The stations agree with the calendar (R117, R122 to R124, R129 to R132). -/
abbrev LineSound (s : State) : Prop :=
  (s.line.regime = .off ↔ s.line.enabled = false ∨ s.line.calendar = [])
  ∧ s.line.walk < max 1 s.line.calendar.length ∧ s.line.calendar.length ≤ 256
  ∧ (∀ a ∈ s.line.calendar, isStation a = true) ∧ 2 ≤ s.line.window ∧ s.line.window ≤ 50
  ∧ (∀ ex ∈ s.line.exchange, s.line.enabled = true ∧ s.line.gap = none
      ∧ (ex.abandoned = false → ex.station ∈ s.line.calendar))
  ∧ (∀ a ∈ s.line.answer, s.line.enabled = true ∧ a ∈ s.line.calendar)
  ∧ (∀ l ∈ s.line.loading, l.2.length < l.1 ∧ l.1 ≤ 256 ∧ ∀ a ∈ l.2, isStation a = true)
  ∧ (s.line.gap.isSome = true → s.line.regime = .sparse)
  ∧ (∀ e ∈ s.line.stations, e.2.Sound (s.line.calendar.contains e.1))

/-- Every bound station is bound to a printer that is not VACANT (R11, R133). -/
abbrev BindingsSound (s : State) : Prop :=
  ∀ e ∈ s.line.stations, ∀ p ∈ e.2.bound, (s.printers.get? p).isSome = true

/-- The walk of a sweep stands at a number of its table. -/
def SweepWalk.inRange : SweepWalk → Bool
  | .printers n => n ≤ 255
  | .groups n => n ≤ 63
  | .accounts _ => true
  | .types n => n ≤ 63

/-- A sweep in progress has a last swept day, a span of 1-255 days that ends before its opening day, and a position in its walk.
A sweep is queued only while one is in progress (R157, R164 to R167). -/
abbrev SweepSound (s : State) : Prop :=
  (s.time.queued = true → s.time.sweep.isSome = true) ∧ s.time.span ≤ 255
  ∧ ∀ w ∈ s.time.sweep, s.time.lastSwept.isSome = true ∧ 1 ≤ s.time.span ∧ s.time.closing = s.time.opening - 1
      ∧ w.inRange = true

end Sys2Proof.Machine
end

