-- ==== Sys2Proof/WellFormed.lean ====
section
/-!
DEFINITION. WellFormed.lean: the commands that stand for an event the part can meet (R28, R120, R169, R170, R172).
-/

namespace Sys2Proof

/-- Well-formed commands: a request's payload fits its frame, an unknown request has an unknown code, a malformed frame is a
request frame that is not well formed, an early frame is a request frame, a tick has a class 1-7, a reply has a
character. -/
def Instr.wellFormed : Instr → Bool
  | .unknownRequest code p => code != 0 && !isRequestCode code && p.length ≤ Config.payloadMax
  | .malformedRequestFrame frame => isRequestFrame frame && !wellFormedFrame frame
  | .earlyRequest frame => isRequestFrame frame
  | .classTick n => 1 ≤ n && n ≤ 7
  | .stationReply chars => !chars.isEmpty
  | .lateReply chars => !chars.isEmpty
  | i =>
    match i.request? with
    | some r => r.2.length ≤ Config.payloadMax
    | none => true

end Sys2Proof
end

