-- ==== Sys2Proof/Certificates/Slice0/Obligations.lean ====
section
/-!
DEFINITION. Certificates/Slice0/Obligations.lean: the statements about the model, for the provers. `Receptive` and `Settled` are
the states in which a command is taken as it stands (Safety.lean); `answeredOk` and `answeredNo` are the states in which a
taken request has its response formed. A frame is said as `t = { s with ... := t. ... }`: no other field has changed.
-/

open Sys2Proof Sys2Proof.Machine

/-! ### The queue, the port and reset -/

/-- The step takes the command at the front of the queue and is that command's effect on the state with the queue's rest. -/
def Obligations.StepRunsTheFrontCommand : Prop :=
  ∀ (s : State) (c : Instr) (rest : List Instr), s.pending = c :: rest → step s = exec c { s with pending := rest }

/-- Every command ends in a next state, whatever the state and its operands, and no command touches the queue. -/
def Obligations.EveryCommandCompletesAndKeepsTheQueue : Prop :=
  ∀ (s : State) (c : Instr), ∃ t, exec c s = .next t ∧ t.pending = s.pending

/-- Every event is whole (R170, section 4.7): any command but a timer of the second event in progress and a reset source acts
only after every timer of that second event has run, as its row runs it: to finish a second event is to run the row of the
first timer due that no other due timer must precede and then to finish what is left, and with no timer due the second event
is over. That a second event is several rows is the model's, log entry 3; the order of the timers is log entry 4. -/
def Obligations.CommandActsAfterTheSecondEvent : Prop :=
  (∀ (s : State) (c : Instr), s.inReset = false → c.wellFormed = true → c.timer? = none → c.isPinEvent = false →
    exec c s = exec c (finishSecond s) ∧ (finishSecond s).second = ⟨[], [], []⟩)
  ∧ (∀ s : State, s.second.due = [] → finishSecond s = { s with second := ⟨[], [], []⟩ })
  ∧ ∀ (s : State) (c : Instr) (t : Timer) (rest : List Timer), s.inReset = false → s.second.due = t :: rest → c.timer? = some t →
    (∀ x ∈ rest, x.before t = false) → ∃ u, exec c s = .next u ∧ u.second.due = rest ∧ finishSecond s = finishSecond u

/-- The three reset sources (R179, R180). A pin source puts the part in reset hold, a second source joins the first, and the
hold ends with the last source, when every block enters its reset state. While held, READY is low, ATTN and DE are released,
no read is answered and no other command has an effect. PORT_RESET with an empty payload takes READY low and resets every
block; until READY rises every transaction is ignored without cause; then ATTN is released and the response read is OK, code
0, length 0. That a release without a hold and a repeated assertion change nothing is the model's, log entry 7; that records
stand until a hold ends, log entry 16; that PORT_RESET resets the blocks at its acceptance and READY rises with
RESPONSE_STORED, log entry 26. -/
def Obligations.ResetSourcesHoldAndRestore : Prop :=
  (∀ s : State,
     let held := { s with port := { s.port with phase := .ready resetResponse }, line := { s.line with exchange := none }, second := ⟨[], [], []⟩ }
     let restored := { State.reset with pending := s.pending, freeCount := s.freeCount }
     (s.pins = ⟨false, false⟩ → exec .rstAssert s = .next { held with pins := ⟨true, false⟩ }
       ∧ exec .supplyLow s = .next { held with pins := ⟨false, true⟩ }
       ∧ exec .rstRelease s = .next s ∧ exec .supplyRestored s = .next s)
     ∧ (s.pins = ⟨true, false⟩ → exec .rstRelease s = .next restored
       ∧ exec .supplyLow s = .next { s with pins := ⟨true, true⟩ } ∧ exec .rstAssert s = .next s)
     ∧ (s.pins = ⟨false, true⟩ → exec .supplyRestored s = .next restored
       ∧ exec .rstAssert s = .next { s with pins := ⟨true, true⟩ } ∧ exec .supplyLow s = .next s)
     ∧ (s.pins = ⟨true, true⟩ → exec .rstRelease s = .next { s with pins := ⟨false, true⟩ }
       ∧ exec .supplyRestored s = .next { s with pins := ⟨true, false⟩ }))
  ∧ (∀ s : State, s.inReset = true →
       s.ready = false ∧ s.attn = false ∧ s.de = false ∧ s.readTransaction = none ∧ (∀ bytes : List Byte, s.miso bytes = none)
       ∧ ∀ c : Instr, c.isPinEvent = false → exec c s = .next s)
  ∧ (∀ (s : State) (p : Payload), s.Receptive →
       let u := { State.reset with port := { State.reset.port with phase := .resetting }, pending := s.pending, freeCount := s.freeCount }
       let t := { State.reset with pending := s.pending, freeCount := s.freeCount }
       (p = [] → exec (.portReset p) s = .next u ∧ u.ready = false ∧ u.attn = false ∧ u.de = false
         ∧ (∀ bytes : List Byte, u.miso bytes = none) ∧ (∀ c : Instr, c.isFrame = true → exec c u = .next u)
         ∧ exec .responseStored u = .next t ∧ t.ready = true ∧ t.attn = false ∧ t.readTransaction = some [0, 0, 0])
       ∧ (p ≠ [] → exec (.portReset p) s = .next (answeredNo 0x01 .badLength [] s)))

/-- What the state after reset holds (R1, R22, R31, R63, R67, R79, R86, R89, R99, R100, R117, R122 to R124, R137, R157, R180,
R183): every table empty, groups zero with period 1, default prices, every parameter at its default. And every invariant
stated below holds there. -/
def Obligations.ResetHoldsTheStatedValues : Prop :=
  (let s := State.reset
   s.port = ⟨.ready ⟨.ok, 0, []⟩, 0, 0⟩ ∧ s.ready = true ∧ s.attn = false ∧ s.de = false
   ∧ s.time = ⟨.held, 0, 0, 0, 0, none, none, false, 0, 0, 0⟩
   ∧ s.printers = [] ∧ s.callout = ⟨[], 0⟩ ∧ s.stock = ⟨[], [], 0⟩ ∧ s.bank.accounts = [] ∧ s.store = ⟨[], 0, 0, []⟩
   ∧ (∀ g < 64, s.bank.groups.get? g = some ⟨0, 0, 0, 0, 0, 1, 0⟩)
   ∧ (∀ c < 8, s.bank.prices.get? c = some ⟨1, 5, 2, 10⟩)
   ∧ s.line.enabled = false ∧ s.line.regime = .off ∧ s.line.rate = .b115200 ∧ s.line.window = 10 ∧ s.line.calendar = []
   ∧ s.line.loading = none ∧ s.line.answer = none
   ∧ (∀ e ∈ s.line.stations, e.2 = ⟨.unlisted, none, .all, false, 0, 0, 0, false, 0, 0, 0, none, none⟩)
   ∧ s.release = ⟨[], #v[0, 0, 0, 0, 0, 0], 0, 0, 0⟩ ∧ s.pending = []
   ∧ (∀ e ∈ [(0x0001, 25000000), (0x0002, 0), (0x0010, 300), (0x0011, 20000), (0x0012, 20), (0x0020, 120), (0x0021, 60),
       (0x0022, 30), (0x0023, 15), (0x0030, 300), (0x0031, 50), (0x0032, 4), (0x0033, 4), (0x0034, 50), (0x0040, 3),
       (0x0050, 12), (0x0060, 16), (0x0061, 24), (0x0070, 30), (0x0071, 1000), (0x0072, 3), (0x0073, 16), (0x0074, 3),
       (0x0080, 8), (0x0081, 8), (0x0082, 60), (0x0083, 30), (0x0084, 1)],
       (ParamId.ofNumber? e.1).map s.params.read = some e.2)
   ∧ (FaultKind.all.map fun k => s.params.read (.faultSeverity k)) = [1, 2, 1, 0, 1, 2, 3, 4, 1, 2, 2, 2]
   ∧ (FaultKind.all.map fun k => s.params.read (.faultClass k)) = [2, 1, 2, 2, 3, 1, 1, 0, 4, 2, 2, 2]
   ∧ (FaultKind.all.map fun k => s.params.read (.faultAutoclose k)) = [1, 1, 1, 1, 1, 0, 0, 0, 0, 1, 1, 1])
  ∧ (let s := State.reset
     CauseWordClean s ∧ ParamsInRange s ∧ PrintersInRange s ∧ TablesOrdered s ∧ BudgetsInRange s ∧ BadgesUnique s ∧ TicketsSound s
     ∧ CalloutsComplete s ∧ StockSound s ∧ JobOrdersSound s ∧ SequencesNear s ∧ SubmissionOrderKept s ∧ OwnersSound s
     ∧ ReservationsBalance s ∧ FlightsSound s ∧ LineSound s ∧ BindingsSound s ∧ SweepSound s)

/-- STATUS_READ, STATUS_CLEAR, MASK_SET and ATTN (R175, R176). A clear removes exactly the sticky causes named:
DISPATCH_PENDING and the unassigned bits are left as they are. The mask is stored without its unassigned bits. ATTN is
asserted while a cause is present whose mask bit is set. DISPATCH_PENDING is present while the dispatch order holds a job. -/
def Obligations.StatusAndMaskFollowTheCauses : Prop :=
  (∀ (s : State) (p : Payload), s.Receptive →
     (p.length = 0 → exec (.statusRead p) s = .next (answeredOk 0x02 (le 4 s.causeWord.toNat ++ le 4 s.port.mask.toNat) s))
     ∧ (p.length = 4 →
         let t := { s with port := { s.port with sticky := s.port.sticky &&& ~~~(word p 0) } }
         exec (.statusClear p) s = .next (answeredOk 0x03 (le 4 t.causeWord.toNat ++ le 4 s.port.mask.toNat) t)
         ∧ (∀ c : Cause, t.causeWord.getLsbD c.bit = (s.causeWord.getLsbD c.bit && !(word p 0).getLsbD c.bit))
         ∧ (CauseWordClean s → t.causeWord.getLsbD 17 = s.causeWord.getLsbD 17
             ∧ ∀ b < 32, 17 < b → t.causeWord.getLsbD b = false)
         ∧ t.attn = (t.causeWord &&& s.port.mask != 0)))
  ∧ (∀ s : State, CauseWordClean s →
       (∀ p : Payload, s.Receptive → p.length = 4 →
         let t := { s with port := { s.port with mask := word p 0 &&& 0x0003FFFF } }
         exec (.maskSet p) s = .next (answeredOk 0x04 (le 4 (word p 0 &&& 0x0003FFFF).toNat ++ le 4 s.causeWord.toNat) t))
       ∧ (s.inReset = false →
           (s.attn = true ↔ ∃ b ∈ List.range 18, s.causeWord.getLsbD b = true ∧ s.port.mask.getLsbD b = true))
       ∧ (∀ c : Cause, s.causeWord.getLsbD c.bit = s.hasCause c)
       ∧ (s.causeWord.getLsbD 17 = true ↔ s.release.dispatch ≠ []))

/-- PARAM_SET and PARAM_READ (R23, R177, R183, R184): an admitted value is stored and read back, and no other parameter
changes. A change of a FAULT_SEVERITY reconciles the printers on which the kind is CONFIRMED, whose callouts are then in line
with their causes; a change of any other parameter acts on nothing else. A number outside the table of R183, the unassigned
numbers inside the kind blocks among them, is refused. -/
def Obligations.ParamSetAndReadKeepTheValue : Prop :=
  (∀ (s : State) (p : Payload), s.Receptive → p.length = 6 →
     (ParamId.ofNumber? (u16 p 0) = none → exec (.paramSet p) s = .next (answeredNo 0x05 .badField [0] s))
     ∧ ∀ i ∈ ParamId.ofNumber? (u16 p 0),
         (i.admits (u32 p 2) = false → exec (.paramSet p) s = .next (answeredNo 0x05 .badField [1] s))
         ∧ (i.admits (u32 p 2) = true →
             ∃ t, exec (.paramSet p) s = .next (answeredOk 0x05 (le 2 (u16 p 0) ++ le 4 (u32 p 2)) t)
               ∧ t.params.read i = u32 p 2 ∧ (∀ j : ParamId, j ≠ i → t.params.read j = s.params.read j)
               ∧ t = { s with params := t.params, port := t.port, printers := t.printers, callout := t.callout }
               ∧ ((∀ k : FaultKind, i ≠ .faultSeverity k) → t = { s with params := t.params })
               ∧ ∀ k : FaultKind, i = .faultSeverity k →
                   let concerned := s.printers.filter fun e => e.2.filters.at k == .confirmed
                   t = reconcileAll (Table.keys concerned) { s with params := t.params }
                   ∧ (TablesOrdered s → TicketsSound s → ∀ e ∈ concerned, t.CalloutInLine e.1)))
  ∧ (∀ (s : State) (p : Payload), s.Receptive → p.length = 2 →
       (∀ i ∈ ParamId.ofNumber? (u16 p 0),
         exec (.paramRead p) s = .next (answeredOk 0x06 (le 2 (u16 p 0) ++ le 4 (s.params.read i)) s))
       ∧ (ParamId.ofNumber? (u16 p 0) = none → exec (.paramRead p) s = .next (answeredNo 0x06 .badField [0] s))
       ∧ (∀ n ∈ [0x0000, 0x010C, 0x010D, 0x010E, 0x010F, 0x011C, 0x011F, 0x012C, 0x012F, 0x0130], ParamId.ofNumber? n = none))

/-- COUNTERS_READ and COUNTERS_CLEAR (R178): both return the nine device-wide counters as they stand; the read changes
nothing, the clear then sets the nine to 0 and changes nothing else. -/
def Obligations.CountersAreReadAndCleared : Prop :=
  ∀ s : State, s.Receptive →
    let nine := (s.release.histogram.toList.map fun w => le 4 w.toNat).flatten
      ++ le 4 s.release.presentations.toNat ++ le 4 s.release.releases.toNat ++ le 4 s.release.recalls.toNat
    exec (.countersRead []) s = .next (answeredOk 0x07 nine s)
    ∧ exec (.countersClear []) s = .next (answeredOk 0x08 nine { s with release := ⟨s.release.dispatch, #v[0, 0, 0, 0, 0, 0], 0, 0, 0⟩ })

/-- A request frame that arrives while READY is low (R172): whatever frame it is, it changes nothing but PORT_OVERRUN, and
the response of the request being worked on is the one stored and read afterwards. RESPONSE_STORED (R170, R171): the response
being formed becomes the current response and READY rises. Before, a read returns BUSY, the code and length 0; after, the
status, the code, the length and the payload. MISO (R169, R171): 0x00 during a request transaction and during the first byte
of a read, then the response as far as the controller clocks, and 0x00 beyond its end. -/
def Obligations.FrameWhileBusySetsPortOverrun : Prop :=
  (∀ (s : State) (c : Instr) (r : Response), s.Settled → s.port.phase = .working r → c.isFrame = true → c.wellFormed = true →
     let t := { s with port := { s.port with sticky := s.port.sticky ||| 0x00010000 } }
     exec c s = .next t
     ∧ t.readTransaction = some [0x06, r.code, 0]
     ∧ exec .responseStored t = .next { t with port := { t.port with phase := .ready r } })
  ∧ (∀ (s : State) (r : Response), s.Settled → s.port.phase = .working r →
       let t := { s with port := { s.port with phase := .ready r } }
       exec .responseStored s = .next t ∧ s.ready = false ∧ t.ready = true
       ∧ s.readTransaction = some [0x06, r.code, 0]
       ∧ t.readTransaction = some (r.status.code :: r.code :: BitVec.ofNat 8 r.payload.length :: r.payload)
       ∧ ∀ (b : Byte) (rest : List Byte),
           let zeros := List.replicate rest.length (0 : Byte)
           let shown := fun l : List Byte => (l ++ zeros).take rest.length
           (b = 0 → s.miso (b :: rest) = some (0 :: shown [0x06, r.code, 0])
             ∧ t.miso (b :: rest) = some (0 :: shown (r.status.code :: r.code :: BitVec.ofNat 8 r.payload.length :: r.payload)))
           ∧ (b ≠ 0 → s.miso (b :: rest) = some (0 :: zeros) ∧ t.miso (b :: rest) = some (0 :: zeros)))

/-- Answers of the port (R169 to R171, R173). A frame that is not well formed is answered BAD_LENGTH, a well-formed frame of
an unknown code UNKNOWN_REQUEST, a request whose payload length is not that of its layout BAD_LENGTH, each with the code
echoed. A request that is refused changes no state. A payload formed is at most 60 bytes, once every printer has at most four
slots and every ticket at most twelve causes. -/
def Obligations.RefusalsChangeNoStateAndFitTheFrame : Prop :=
  (∀ (s : State) (c : Instr), s.Receptive →
     (∀ (code : Byte) (p : Payload), c = .unknownRequest code p → c.wellFormed = true →
       exec c s = .next (answeredNo code .unknownRequest [] s))
     ∧ (∀ frame : List Byte, c = .malformedRequestFrame frame → c.wellFormed = true →
       exec c s = .next (answeredNo (frame.headD 0) .badLength [] s))
     ∧ (∀ r ∈ c.request?, ∀ n ∈ c.fixedLength, r.2.length ≠ n → exec c s = .next (answeredNo r.1 .badLength [] s)))
  ∧ (∀ (s : State) (c : Instr) (code : Byte) (p : Payload), s.Receptive → c.request? = some (code, p) → c ≠ .portReset [] →
       ∃ (t : State) (r : Response), exec c s = .next t ∧ t.port.phase = .working r ∧ r.code = code
         ∧ (r.status ≠ .ok → t = { s with port := { s.port with phase := .working r } }))
  ∧ (∀ (s t : State) (c : Instr) (r : Response), s.Receptive → c.request?.isSome = true →
       (∀ e ∈ s.printers, e.2.slots.length ≤ 4) → (∀ e ∈ s.callout.tickets, e.2.causes.length ≤ 12) →
       exec c s = .next t → t.port.phase = .working r → r.payload.length ≤ 60)

/-- Frames of the port (R169, R170): the command the port reads from the bytes of a transaction is the one well-formed
command whose frame they are. An early frame apart, reading the frame of any well-formed command gives that command. -/
def Obligations.FrameReadingInvertsFrameWriting : Prop :=
  ∀ (f : List Byte) (i : Instr),
    decodeFrame f = some i ↔ i.wellFormed = true ∧ encodeFrame i = some f ∧ ∀ e : List Byte, i ≠ .earlyRequest e

/-! ### The Time Base, the second event and its timers -/

/-- TIME_SET (R161, R162, R164, R165): the mode, the divider and the table of cases for the day number. A day number ahead of
the last swept day requests a sweep, which starts when none is in progress and is queued otherwise. -/
def Obligations.TimeSetFollowsTheDayTable : Prop :=
  ∀ (s : State) (p : Payload), s.Receptive → p.length = 8 →
    (1 < byteAt p 0 → exec (.timeSet p) s = .next (answeredNo 0x09 .badField [0] s))
    ∧ (byteAt p 0 ≤ 1 →
        let n := BitVec.ofNat 16 (u16 p 6)
        let asked := flagAt p 1 && s.time.lastSwept.any fun l => n != s.time.day && 1 ≤ (n - l).toNat && (n - l).toNat ≤ 32767
        ∃ t, exec (.timeSet p) s = .next t ∧ t = { s with time := t.time, port := t.port }
          ∧ t.port = { s.port with phase := .working ⟨.ok, 0x09, le 2 t.time.day.toNat
              ++ optional 2 (t.time.lastSwept.map BitVec.toNat) ++ flag t.time.sweep.isSome ++ flag asked ++ flag t.time.queued⟩ }
          ∧ t.time.mode = (if byteAt p 0 = 1 then .running else .held) ∧ t.time.divider = 0
          ∧ t.time.runSeconds = s.time.runSeconds
          ∧ (flagAt p 1 = false → t.time = { s.time with mode := t.time.mode, divider := 0 })
          ∧ (flagAt p 1 = true → t.time.building = word p 2 ∧ t.time.day = n
              ∧ (s.time.lastSwept = none → t.time.lastSwept = some n)
              ∧ (asked = false → t.time.sweep = s.time.sweep ∧ t.time.span = s.time.span
                  ∧ t.time.opening = s.time.opening ∧ t.time.closing = s.time.closing)
              ∧ ∀ l ∈ s.time.lastSwept,
                  (n = s.time.day → t.time.lastSwept = some l ∧ t.time.queued = s.time.queued)
                  ∧ (n ≠ s.time.day → asked = false → t.time.lastSwept = some n ∧ t.time.queued = false)
                  ∧ (asked = true → s.time.sweep.isSome = true →
                      t.time = { s.time with mode := t.time.mode, divider := 0, building := word p 2, day := n, queued := true })
                  ∧ (asked = true → s.time.sweep = none → t.time.sweep = some (.printers 0) ∧ t.time.opening = n
                      ∧ t.time.closing = n - 1 ∧ t.time.span = min 255 (n - l).toNat ∧ t.time.lastSwept = some n
                      ∧ t.time.queued = s.time.queued)))

/-- SECOND_EVENT (R28, R158 to R160): in RUNNING both clocks advance and the timers of this second fall due, the day boundary
and a class-n tick exactly when the clocks say so. In HELD no second event occurs. On an empty queue one CLKIN period passes:
a poll being transmitted advances and ends after the 10 bit times of each of its characters, when DE is released (R117); in
HELD nothing else changes; in RUNNING the divider counts, and completes as SECOND_EVENT does when the count reaches
TICK_DIVISOR. That the step on an empty queue is one period is the model's choice, log entry 6; that timers are rows, log
entry 3; that a poll in transmission is a count of periods, log entry 10; how many periods a bit time has, log entry 25
(DEDUCED). -/
def Obligations.SecondEventAdvancesTheClocks : Prop :=
  (∀ s : State, s.Settled →
     (s.time.mode = .held → exec .secondEvent s = .next s)
     ∧ (s.time.mode = .running →
         ∃ t, exec .secondEvent s = .next t
           ∧ t = { s with second := t.second, time := { s.time with
                     divider := 0, runSeconds := s.time.runSeconds + 1, building := s.time.building + 1 } }
           ∧ t.second.returned = [] ∧ t.second.unreconciled = []
           ∧ (.dayBoundary ∈ t.second.due ↔ t.time.building.toNat % 86400 = s.params.dayStart)
           ∧ (∀ n ∈ List.range 10, .tick n ∈ t.second.due ↔ 1 ≤ n ∧ n ≤ 7 ∧ t.time.runSeconds.toNat % (15 * 2 ^ (n - 1)) = 0)
           ∧ ∀ u ∈ [Timer.takeTimeout, .silence, .escalation, .abandonment, .holdExpiry, .quiet], u ∈ t.second.due))
  ∧ (∀ s : State, s.Settled → s.pending = [] →
       let bitTime := fun r : LineRate => match r with
         | .b38400 => 651
         | .b115200 => 217
         | .b250000 => 100
       let ended := fun (ex : Exchange) (k : Nat) => ex.frame.length * (10 * bitTime ex.rate) ≤ k + 1
       let u := { s with line := { s.line with exchange := s.line.exchange.map fun ex =>
         { ex with sending := ex.sending.bind fun k => if ended ex k then none else some (k + 1) } } }
       (s.time.mode = .held → step s = .next u)
       ∧ (s.time.mode = .running → s.time.divider + 1 < s.params.tickDivisor →
           step s = .next { u with time := { s.time with divider := s.time.divider + 1 } })
       ∧ (s.time.mode = .running → s.params.tickDivisor ≤ s.time.divider + 1 → step s = exec .secondEvent u)
       ∧ (s.de = false → u = s)
       ∧ ∀ ex ∈ s.line.exchange, ∀ k ∈ ex.sending, s.de = true ∧ (u.de = true ↔ ¬ ended ex k))

/-- DAY_BOUNDARY (R160, R164, R165): the day number rises by 1, wrapping. With no last swept day it becomes the new day and
no sweep is requested; otherwise a sweep starts, or is queued behind the one in progress. -/
def Obligations.DayBoundaryRequestsASweep : Prop :=
  ∀ s : State, s.TimerDue .dayBoundary →
    ∃ t, exec .dayBoundary s = .next t ∧ t = { s with time := t.time, second := t.second }
      ∧ t.second.due = s.second.due.erase .dayBoundary
      ∧ t.time.day = s.time.day + 1 ∧ t.time.runSeconds = s.time.runSeconds ∧ t.time.building = s.time.building
      ∧ t.time.mode = s.time.mode ∧ t.time.divider = s.time.divider
      ∧ (s.time.lastSwept = none → t.time = { s.time with day := s.time.day + 1, lastSwept := some (s.time.day + 1) })
      ∧ ∀ l ∈ s.time.lastSwept,
          (s.time.sweep.isSome = true → t.time = { s.time with day := s.time.day + 1, queued := true })
          ∧ (s.time.sweep = none → t.time.sweep = some (.printers 0) ∧ t.time.opening = s.time.day + 1
              ∧ t.time.closing = s.time.day ∧ t.time.lastSwept = some (s.time.day + 1) ∧ t.time.queued = s.time.queued
              ∧ t.time.span = max 1 (min 255 (s.time.day + 1 - l).toNat))

/-- CLASS_TICK (R28, R30): on every printer each kind of class n moves by the table, each kind of another class stays, and of
a printer record only the filters and the deferred-callout flag can change. The printers where a kind entered or left
CONFIRMED are reconciled once in the second event, with those its other judgments concern, after the last judgment and in
ascending number. While the silence examination of the same second is still due, it is made first (R18). That the judgments
are rows, and that the last of them reconciles, is the model's, log entries 3 and 5. -/
def Obligations.ClassTickMovesTheFiltersOfItsClass : Prop :=
  ∀ (s : State) (n : Nat), s.TimerDue (.tick n) →
    let move := fun (pr : Printer) (k : FaultKind) =>
      if (s.params.kinds.at k).cls = n then
        match pr.filters.at k, pr.present s.params.emptyLevel k with
        | .clear, true => .onset
        | .onset, true | .confirmed, true | .easing, true => .confirmed
        | .confirmed, false => .easing
        | .clear, false | .onset, false | .easing, false => FilterState.clear
      else pr.filters.at k
    let due := s.second.due.erase (.tick n)
    let last := ∀ u ∈ due, u.judges = false
    let judged := { s with printers := s.printers.map fun e => (e.1, { e.2 with filters := KindTable.of (move e.2) }) }
    let owed := Table.keys (s.printers.filter fun e => decide (e.1 ∈ s.second.unreconciled)
      || FaultKind.all.any fun k => (e.2.filters.at k == .confirmed) != (move e.2 k == .confirmed))
    ∃ t, exec (.classTick n) s = .next t
      ∧ (.silence ∈ s.second.due → ∃ u, exec .silenceExpiry s = .next u ∧ exec (.classTick n) u = .next t)
      ∧ (.silence ∉ s.second.due → t = { s with printers := t.printers, callout := t.callout, port := t.port, second := t.second }
        ∧ Table.keys t.printers = Table.keys s.printers
        ∧ (∀ q ∈ Table.keys s.printers, ∀ pr ∈ s.printers.get? q, ∃ pr' ∈ t.printers.get? q,
            pr' = { pr with filters := pr'.filters, deferred := pr'.deferred } ∧ ∀ k : FaultKind, pr'.filters.at k = move pr k)
        ∧ t.second.due = due ∧ t.second.returned = (if due = [] then [] else s.second.returned)
        ∧ (¬ last → t = { judged with second := t.second } ∧ ∀ q ∈ Table.keys s.printers, q ∈ t.second.unreconciled ↔ q ∈ owed)
        ∧ (last → Table.Sorted s.printers → t = { reconcileAll owed judged with second := t.second } ∧ t.second.unreconciled = []
            ∧ (TablesOrdered s → TicketsSound s → ∀ q ∈ owed, t.CalloutInLine q)))

/-- SILENCE_EXPIRY (R5, R18, R27, R149): exactly the printers unreported for SILENCE_LIMIT seconds become SILENT,
PRINTER_SILENT is set, their RELEASING jobs return to HELD uncharged and their kinds of class 0 are judged. They are
reconciled once in the second event, as the class ticks' printers are (log entries 3 and 5). -/
def Obligations.SilenceExpirySilencesTheUnreported : Prop :=
  ∀ s : State, s.TimerDue .silence → Table.Sorted s.printers → JobOrdersSound s →
    let unreported := fun p : Printer => p.state ≠ .silent ∧ s.params.silenceLimit ≤ (s.time.runSeconds - p.lastReport).toNat
    let gone := Table.keys (s.printers.filter fun e => decide (unreported e.2))
    let silenced := fun p : Printer => { p with state := .silent, filters := KindTable.of fun k =>
      if (s.params.kinds.at k).cls = 0 then
        (if { p with state := .silent }.present s.params.emptyLevel k then .confirmed else .clear) else p.filters.at k }
    let due := s.second.due.erase .silence
    let last := ∀ u ∈ due, u.judges = false
    let ns := (gone.map s.releasingThere).flatten
    let judged := { s with printers := s.printers.map fun e => (e.1, if unreported e.2 then silenced e.2 else e.2) }
    let owed := Table.keys (s.printers.filter fun e => decide (e.1 ∈ s.second.unreconciled ∨ unreported e.2))
    ∃ t, exec .silenceExpiry s = .next t
      ∧ t = { s with printers := t.printers, callout := t.callout, port := t.port, store := t.store, release := t.release,
                     bank := t.bank, second := t.second }
      ∧ Table.keys t.printers = Table.keys s.printers
      ∧ (∀ q ∈ Table.keys s.printers, ∀ pr ∈ s.printers.get? q, ∃ pr' ∈ t.printers.get? q,
          (unreported pr → pr' = { silenced pr with deferred := pr'.deferred })
          ∧ (¬ unreported pr → pr' = { pr with deferred := pr'.deferred }))
      ∧ (t.hasCause .printerSilent = true ↔ s.hasCause .printerSilent = true ∨ gone ≠ [])
      ∧ s.ReturnedUncharged t ns
      ∧ (∀ j ∈ t.store.records, j.isReleasing = true → ∀ r ∈ j.phase.info?, ∀ pr ∈ s.printers.get? r.printer, ¬ unreported pr)
      ∧ t.second.due = due ∧ t.second.returned = (if due = [] then [] else s.second.returned ++ ns)
      ∧ (¬ last → t.printers = judged.printers ∧ t.callout = s.callout
          ∧ ∀ q ∈ Table.keys s.printers, q ∈ t.second.unreconciled ↔ q ∈ owed)
      ∧ (last → t.printers = (reconcileAll owed judged).printers ∧ t.callout = (reconcileAll owed judged).callout
          ∧ t.second.unreconciled = [] ∧ (TablesOrdered s → TicketsSound s → ∀ q ∈ owed, t.CalloutInLine q))

/-- ESCALATION (R34), once the silence examination and the ticks of the second are over: a RAISED ticket below level 3 whose
interval has run out since its escalation point rises one level, its point becomes now, and CALLOUT_ESCALATED is set.
QUIET_TIMEOUT (R123): a FULL line without a presentation for QUIET_AFTER minutes, when that is not 0, becomes SPARSE. -/
def Obligations.EscalationAndQuietTimerAct : Prop :=
  (∀ s : State, s.TimerDue .escalation → (∀ u ∈ s.second.due, u.before .escalation = false) →
     let interval := fun v : Nat => if v = 1 then s.params.escInterval1 else if v = 2 then s.params.escInterval2
       else if v = 3 then s.params.escInterval3 else s.params.escInterval4
     let due := fun k : Ticket => k.state = .raised ∧ k.level < 3
       ∧ 60 * interval k.severity ≤ (s.time.runSeconds - k.point).toNat
     ∃ t, exec .escalation s = .next t ∧ t = { s with callout := t.callout, port := t.port, second := t.second }
       ∧ Table.keys t.callout.tickets = Table.keys s.callout.tickets ∧ t.callout.lastTicket = s.callout.lastTicket
       ∧ (∀ n ∈ Table.keys s.callout.tickets, ∀ k ∈ s.callout.tickets.get? n, ∃ k' ∈ t.callout.tickets.get? n,
           (due k → k' = { k with level := k.level + 1, point := s.time.runSeconds }) ∧ (¬ due k → k' = k))
       ∧ (t.hasCause .calloutEscalated = true ↔ s.hasCause .calloutEscalated = true ∨ ∃ e ∈ s.callout.tickets, due e.2))
  ∧ (∀ s : State, s.TimerDue .quiet →
       let quiet := s.line.regime = .full ∧ s.params.quietAfter ≠ 0
         ∧ s.params.quietAfter * 60 ≤ (s.time.runSeconds - s.line.quietStamp).toNat
       ∃ t, exec .quietTimeout s = .next t ∧ t = { s with line := t.line, second := t.second }
         ∧ (quiet → t.line = { s.line with regime := .sparse }) ∧ (¬ quiet → t.line = s.line))

/-- TAKE_TIMEOUT (R94, R102, R106, R148): the leading jobs of the dispatch order that are due return to HELD uncharged, each
in its place in the expiry order and counted in the recalls counter, and JOB_RECALLED is set. The rest of the order and every
other job stay. The place of a returned job is immediately before the first one that is newer, or the end. -/
def Obligations.TakeTimeoutReturnsJobsUncharged : Prop :=
  (∀ s : State, s.TimerDue .takeTimeout → JobOrdersSound s → BudgetsInRange s →
    let due := fun n : Nat => (s.jobAt n).any fun j =>
      j.phase.info?.any fun r => s.params.takeLimit ≤ (s.time.runSeconds - r.releasedAt).toNat
    let ns := s.release.dispatch.takeWhile due
    ∃ t, exec .takeTimeout s = .next t
      ∧ t = { s with store := t.store, release := t.release, bank := t.bank, port := t.port, second := t.second }
      ∧ s.release.dispatch = ns ++ t.release.dispatch
      ∧ s.ReturnedUncharged t ns
      ∧ (∀ n ∈ ns, n ∈ t.store.expiry)
      ∧ (SubmissionOrderKept s → SequencesNear s → SubmissionOrderKept t)
      ∧ t.bank.accounts.map (fun e => (e.1, { e.2 with reserved := 0 })) = s.bank.accounts.map (fun e => (e.1, { e.2 with reserved := 0 }))
      ∧ t.bank.groups.map (fun e => (e.1, { e.2 with reserved := 0 })) = s.bank.groups.map (fun e => (e.1, { e.2 with reserved := 0 }))
      ∧ t.second.due = s.second.due.erase .takeTimeout
      ∧ (t.second.due ≠ [] → t.second.returned = s.second.returned ++ ns))
  ∧ ∀ (newer : Nat → Bool) (n : Nat) (l : List Nat), ∃ front back : List Nat,
      l = front ++ back ∧ insertBefore newer n l = front ++ n :: back
      ∧ (∀ m ∈ front, newer m = false) ∧ ∀ m ∈ back.head?, newer m = true

/-- HOLD_EXPIRY (R112): from the oldest HELD job on, the jobs held for HOLD_TIME hours retire, up to the first that is not
due, passing over the jobs that returned to HELD in this second event; JOB_EXPIRED is set when one retired. ABANDONMENT
(R153): the PRINTING jobs unreported for ABANDON_LIMIT minutes retire, each counted on its printer, and JOB_ABANDONED is set;
its owner is settled at the job's cost, or at nothing with ABANDON_CHARGE 0. -/
def Obligations.HoldExpiryAndAbandonmentRetireJobs : Prop :=
  (∀ s : State, s.TimerDue .holdExpiry → JobOrdersSound s →
     let due := fun n : Nat => (s.jobAt n).any fun j =>
       s.params.holdTime * 3600 ≤ (s.time.runSeconds - j.submitRun).toNat
     let ns := (s.store.expiry.filter fun n => !s.second.returned.contains n).takeWhile due
     ∃ t, exec .holdExpiry s = .next t ∧ t = { s with store := t.store, port := t.port, second := t.second }
       ∧ t.store = { s.store with records := s.store.records.filter (fun j => !ns.contains j.number),
                                  expiry := s.store.expiry.filter (fun n => !ns.contains n) }
       ∧ (t.hasCause .jobExpired = true ↔ s.hasCause .jobExpired = true ∨ ns ≠ [])
       ∧ t.second.due = s.second.due.erase .holdExpiry)
  ∧ (∀ s : State, s.TimerDue .abandonment → JobOrdersSound s →
       let unreported := fun j : Job => match j.phase with
         | .printing _ taken => decide (s.params.abandonLimit * 60 ≤ (s.time.runSeconds - taken).toNat)
         | _ => false
       let due := s.store.records.filter unreported
       let charge := fun r : ReleaseInfo => if s.params.abandonCharge = 1 then r.cost else 0
       ∃ t, exec .abandonment s = .next t
         ∧ t = { s with store := t.store, printers := t.printers, bank := t.bank, port := t.port, second := t.second }
         ∧ t.store = { s.store with records := s.store.records.filter fun j => !unreported j }
         ∧ Table.keys t.printers = Table.keys s.printers
         ∧ (∀ q ∈ Table.keys s.printers, ∀ pr ∈ s.printers.get? q, t.printers.get? q = some { pr with
             jobsAbandoned := pr.jobsAbandoned + BitVec.ofNat 32 (due.countP fun j => j.phase.info?.any fun r => r.printer == q) })
         ∧ t.bank = (due.foldl (fun u j => (j.phase.info?.map fun r => settle j.owner r (charge r) u).getD u) s).bank
         ∧ (t.hasCause .jobAbandoned = true ↔ s.hasCause .jobAbandoned = true ∨ due ≠ [])
         ∧ t.second.due = s.second.due.erase .abandonment)

/-! ### The sweep -/

/-- SWEEP_PRINTER_STEP (R52, R53, R59, R68, R166): the first printer at or after the position is swept, its accumulators and
rebase flag cleared, and the walk moves past it; the reorder checks of the types newly wanted follow. No other printer
changes. That VACANT numbers are passed over within the step, and that with no printer left one step takes the walk to group
0, is log entry 14. -/
def Obligations.SweepStepSweepsTheNextPrinter : Prop :=
  ∀ (s : State) (n : Nat), s.Settled → s.time.sweep = some (.printers n) →
    ((∀ e ∈ s.printers, e.1 < n) →
      exec .sweepPrinterStep s = .next { s with time := { s.time with sweep := some (.groups 0) } })
    ∧ ∀ e ∈ s.printers.find? (fun e => n ≤ e.1),
        let pages := fun i : Nat => if i = 0 then min 65535 (e.2.pMono + e.2.pColour) else e.2.pColour
        let swept := e.2.slots.mapIdx fun i c => s.sweepCartridge (pages i) c
        let marked := ((e.2.slots.zip swept).filter fun x => !x.1.wanted && x.2.wanted).map fun x => x.2.type
        ∃ t, exec .sweepPrinterStep s = .next t
          ∧ t = { s with printers := t.printers, stock := t.stock, port := t.port,
                         time := { s.time with sweep := some (if e.1 < 255 then .printers (e.1 + 1) else .groups 0) } }
          ∧ t.printers.get? e.1 = some { e.2 with pMono := 0, pColour := 0, rebase := false, slots := swept }
          ∧ t = reorderChecks marked { s with printers := t.printers, time := t.time }
          ∧ ∀ q ∈ Table.keys s.printers, q ≠ e.1 → t.printers.get? q = s.printers.get? q

/-- The sweep of a cartridge charged with P sides (R51, R54 to R58): the coverage sample and its conditions, the two smoothed
averages, the forecast, the day-start level, and the WANTED test. -/
def Obligations.SweepLearnsCoverageAndRate : Prop :=
  ∀ (s : State) (pages : Nat) (c : Cartridge),
    let kE := s.params.smoothE
    let kQ := s.params.smoothQ
    let taken := c.void = false ∧ c.stale = false ∧ c.level ≤ c.dayStart ∧ s.params.minSample ≤ pages
    let sample := min 65535 ((c.dayStart - c.level) * 10000 / pages)
    let rate := pages / s.time.span
    let c' := s.sweepCartridge pages c
    (taken → c'.eSeeded = true ∧ c'.coverage = if c.eSeeded then (c.coverage * (16 - kE) + sample * kE + 8) / 16 else sample)
    ∧ (¬ taken → c'.coverage = c.coverage ∧ c'.eSeeded = c.eSeeded)
    ∧ c'.qSeeded = true ∧ c'.pageRate = (if c.qSeeded then (c.pageRate * (16 - kQ) + rate * kQ + 8) / 16 else rate)
    ∧ c'.forecast = (if c'.coverage * c'.pageRate = 0 then 999 else min 999 (c.level * 10000 / (c'.coverage * c'.pageRate)))
    ∧ c'.dayStart = c.level ∧ c'.void = false ∧ c'.stale = c.stale ∧ c'.level = c.level ∧ c'.type = c.type
    ∧ (c'.wanted = true ↔ c.wanted = true ∨ c.level ≤ s.params.floorLevel
        ∨ ∃ ty ∈ s.stock.types.get? c.type, c'.forecast ≤ ty.lead + ty.margin)
    ∧ (kE ≤ 16 → c.coverage ≤ 65535 → c'.coverage ≤ 65535)
    ∧ (kQ ≤ 16 → pages ≤ 65535 → c.pageRate ≤ 65535 → c'.pageRate ≤ 65535)

/-- SWEEP_GROUP_STEP and SWEEP_ACCOUNT_STEP (R96, R97): a group or an account below its cap whose group has a period day
among the days of the span is raised by its allowance, at most to the cap. Nothing else of the state changes but the walk.
That the walk stands at type 0 at once after the last account, and after group 63 with no account, is log entry 14. -/
def Obligations.SweepRefillsOnAPeriodDay : Prop :=
  ∀ (s : State) (n : Nat), s.Settled → TablesOrdered s →
    let periodDay := fun g : BudgetGroup =>
      ∃ i ∈ List.range s.time.span, (s.time.closing - BitVec.ofNat 16 i).toNat % g.period = g.phase
    (n ≤ 63 → s.time.sweep = some (.groups n) →
      let g := s.groupAt n
      let pool := if g.pool < g.cap then min (g.pool + g.allowance) g.cap else g.pool
      ∃ t, exec .sweepGroupStep s = .next t
        ∧ t = { s with bank := { s.bank with groups := t.bank.groups }, time := { s.time with sweep := t.time.sweep } }
        ∧ t.time.sweep = (if n < 63 then some (.groups (n + 1)) else if s.bank.accounts = [] then some (.types 0) else some (.accounts 0))
        ∧ (∀ q ∈ List.range 64, q ≠ n → t.groupAt q = s.groupAt q)
        ∧ (periodDay g → t.groupAt n = { g with pool := pool }) ∧ (¬ periodDay g → t.groupAt n = g))
    ∧ (s.time.sweep = some (.accounts n) → ∀ e ∈ s.bank.accounts.above n,
        let g := s.groupAt e.2.group
        let b := min (e.2.balance + e.2.allowance) (e.2.cap : Int)
        let mark := e.2.exhausted && !(e.2.balance < b && 0 < b - e.2.reserved + g.overdraft)
        ∃ t, exec .sweepAccountStep s = .next t
          ∧ t = { s with bank := { s.bank with accounts := t.bank.accounts }, time := { s.time with sweep := t.time.sweep } }
          ∧ t.time.sweep = (if s.bank.accounts.any fun x => e.1 < x.1 then some (.accounts e.1) else some (.types 0))
          ∧ (∀ q ∈ Table.keys s.bank.accounts, q ≠ e.1 → t.bank.accounts.get? q = s.bank.accounts.get? q)
          ∧ (periodDay g ∧ e.2.balance < e.2.cap → t.bank.accounts.get? e.1 = some { e.2 with balance := b, exhausted := mark })
          ∧ (¬ (periodDay g ∧ e.2.balance < e.2.cap) → t.bank.accounts.get? e.1 = some e.2))

/-- SWEEP_TYPE_STEP (R68, R77, R167): the hold-off flag of the type is cleared and its reorder check runs, each requisition
confirmed too long before the opening day becomes overdue, and after type 63 the sweep is done and a queued sweep starts at
once, over the days since the last swept day, 0 raised to 1 and any value above 255 lowered to 255 (R165). -/
def Obligations.SweepTypeStepEndsHoldOffAndFindsOverdue : Prop :=
  ∀ (s : State) (n : Nat), s.Settled → TablesOrdered s → StockSound s → n ≤ 63 → s.time.sweep = some (.types n) →
    let late := fun r : Requisition => r.type = n ∧ ∃ c ∈ r.confirmDay, (s.time.opening - c).toNat ≤ 32767
      ∧ ∃ ty ∈ s.stock.types.get? n, ty.lead + s.params.overdueGrace < (s.time.opening - c).toNat
    let checked := reorderCheck n (updType n (fun ty => { ty with holdOff := false }) s)
    ∃ t, exec .sweepTypeStep s = .next t ∧ t = { s with stock := t.stock, time := t.time, port := t.port }
      ∧ (∀ ty ∈ s.stock.types.get? n, ∃ ty' ∈ t.stock.types.get? n, ty' = { ty with holdOff := false, pending := ty'.pending })
      ∧ (∀ q ∈ Table.keys s.stock.types, q ≠ n → t.stock.types.get? q = s.stock.types.get? q)
      ∧ (∀ q ∈ Table.keys s.stock.reqs, ∀ r ∈ s.stock.reqs.get? q, ∃ r' ∈ t.stock.reqs.get? q,
          r' = { r with overdue := r'.overdue, quantity := r'.quantity } ∧ (r'.overdue = true ↔ r.overdue = true ∨ late r))
      ∧ (t.hasCause .reqOverdue = true ↔ s.hasCause .reqOverdue = true ∨ ∃ e ∈ s.stock.reqs, late e.2 ∧ e.2.overdue = false)
      ∧ t.StockAsIn { checked with stock := { checked.stock with
          reqs := checked.stock.reqs.map fun e => (e.1, { e.2 with overdue := e.2.overdue || decide (late e.2) }) } }
      ∧ (n < 63 → t.time = { s.time with sweep := some (.types (n + 1)) })
      ∧ (n = 63 → t.hasCause .sweepDone = true
          ∧ (s.time.queued = false → t.time = { s.time with sweep := none })
          ∧ (s.time.queued = true → t.time.sweep = some (.printers 0) ∧ t.time.queued = false ∧ t.time.opening = s.time.day
              ∧ t.time.closing = s.time.day - 1 ∧ t.time.lastSwept = some s.time.day
              ∧ (∀ l ∈ s.time.lastSwept, t.time.span = max 1 (min 255 (s.time.day - l).toNat))
              ∧ t.time = { s.time with sweep := t.time.sweep, queued := t.time.queued, opening := t.time.opening,
                                       closing := t.time.closing, lastSwept := t.time.lastSwept, span := t.time.span }))

/-! ### Printers -/

/-- PRINTER_ADD (R1, R6, R7, R43): the record is filled with the request's fields and the starting values, AWAITING and
stamped with the current run seconds, each cartridge full and unlearned, every filter CLEAR. A payload whose length does not
match its slot count is refused with BAD_LENGTH, as is one longer than a frame can carry (log entry 18), a field out of range
with its index, a cartridge type out of range with field 5 and its position, a number in use with EXISTS. -/
def Obligations.PrinterAddFillsAnAwaitingRecord : Prop :=
  ∀ (s : State) (p : Payload), s.Receptive →
    let n := byteAt p 0
    let types := (p.drop 5).map BitVec.toNat
    let fits := p.length ≤ 60 ∧ p.length = 5 + byteAt p 4
    let bad := firstBadField [(1, 63 < byteAt p 1), (2, 7 < byteAt p 2), (4, byteAt p 4 ≠ 1 ∧ byteAt p 4 ≠ 4),
      (3, bitAt p 3 0 = true ∧ byteAt p 4 = 1)]
    (¬ fits → exec (.printerAdd p) s = .next (answeredNo 0x10 .badLength [] s))
    ∧ (fits → ∀ i ∈ bad, exec (.printerAdd p) s = .next (answeredNo 0x10 .badField [BitVec.ofNat 8 i] s))
    ∧ (fits → bad = none → ∀ i ∈ List.range types.length, 63 < types.getD i 0 → (∀ t ∈ types.take i, t ≤ 63) →
        exec (.printerAdd p) s = .next (answeredNo 0x10 .badField [5, BitVec.ofNat 8 i] s))
    ∧ (fits → bad = none → (∀ t ∈ types, t ≤ 63) →
        ((s.printers.get? n).isSome = true → exec (.printerAdd p) s = .next (answeredNo 0x10 .exists [] s))
        ∧ (s.printers.get? n = none →
            ∃ t, exec (.printerAdd p) s = .next (answeredOk 0x10 [] t) ∧ t = { s with printers := t.printers }
              ∧ (∀ q : Nat, q ≠ n → t.printers.get? q = s.printers.get? q)
              ∧ ∃ pr ∈ t.printers.get? n, pr.floor = byteAt p 1 ∧ pr.costClass = byteAt p 2
                  ∧ pr.caps = ⟨bitAt p 3 0, bitAt p 3 1, bitAt p 3 2⟩
                  ∧ pr.slots = types.map (fun c => ⟨c, 1000, 1000, false, false, 0, false, 0, false, 999, false⟩)
                  ∧ pr.state = .awaiting ∧ pr.reported = [] ∧ pr.monoBase = none ∧ pr.colourBase = none
                  ∧ pr.pMono = 0 ∧ pr.pColour = 0 ∧ pr.lastReport = s.time.runSeconds ∧ pr.rebase = false
                  ∧ pr.deferred = false ∧ pr.jobsCompleted = 0 ∧ pr.sidesCompleted = 0 ∧ pr.jobsAbandoned = 0
                  ∧ ∀ k : FaultKind, pr.filters.at k = .clear))

/-- PRINTER_SET (R4, R5, R8, R20, R27, R42, R44, R68, R149): the record takes the request's fields, a slot whose type changes
moves its WANTED mark or is tested against the new type, the reorder checks of the types concerned run, the counters are
cleared when asked, and the service state is derived again unless the printer is AWAITING or SILENT; a printer that becomes
DOWN has its RELEASING jobs recalled. Its kinds of class 0 are judged and it is reconciled. Of another printer only the
deferred-callout flag can change. The refusals come in the order of R8; that a payload longer than a frame can carry is
refused with BAD_LENGTH before them, for a VACANT number too, is log entry 18. -/
def Obligations.PrinterSetChangesTheRecord : Prop :=
  ∀ (s : State) (p : Payload), s.Receptive →
    let n := byteAt p 0
    let types := (p.drop 5).map BitVec.toNat
    (p.length < 5 ∨ 60 < p.length → exec (.printerSet p) s = .next (answeredNo 0x11 .badLength [] s))
    ∧ (5 ≤ p.length → p.length ≤ 60 → s.printers.get? n = none → exec (.printerSet p) s = .next (answeredNo 0x11 .notFound [] s))
    ∧ ∀ pr ∈ s.printers.get? n,
        let fits := p.length ≤ 60 ∧ p.length = 5 + pr.slots.length
        let bad := firstBadField [(1, 63 < byteAt p 1), (2, 7 < byteAt p 2), (3, bitAt p 3 0 = true ∧ pr.slots.length = 1)]
        (¬ fits → exec (.printerSet p) s = .next (answeredNo 0x11 .badLength [] s))
        ∧ (fits → ∀ i ∈ bad, exec (.printerSet p) s = .next (answeredNo 0x11 .badField [BitVec.ofNat 8 i] s))
        ∧ (fits → bad = none → ∀ i ∈ List.range types.length, 63 < types.getD i 0 → (∀ t ∈ types.take i, t ≤ 63) →
            exec (.printerSet p) s = .next (answeredNo 0x11 .badField [5, BitVec.ofNat 8 i] s))
        ∧ (fits → bad = none → (∀ t ∈ types, t ≤ 63) →
            ∃ t, exec (.printerSet p) s = .next (answeredOk 0x11 [] t)
              ∧ t = { s with printers := t.printers, callout := t.callout, stock := t.stock, bank := t.bank, store := t.store,
                             release := t.release, port := t.port }
              ∧ (∀ q : Nat, q ≠ n → ∀ x ∈ s.printers.get? q, ∃ y ∈ t.printers.get? q, y = { x with deferred := y.deferred })
              ∧ (TablesOrdered s → TicketsSound s → t.CalloutInLine n)
              ∧ ∃ q ∈ t.printers.get? n, q.floor = byteAt p 1 ∧ q.costClass = byteAt p 2
                  ∧ q.caps = ⟨bitAt p 3 0, bitAt p 3 1, bitAt p 3 2⟩ ∧ q.reported = pr.reported ∧ q.monoBase = pr.monoBase
                  ∧ q.colourBase = pr.colourBase ∧ q.pMono = pr.pMono ∧ q.pColour = pr.pColour ∧ q.lastReport = pr.lastReport
                  ∧ q.rebase = pr.rebase
                  ∧ (flagAt p 4 = true → q.jobsCompleted = 0 ∧ q.sidesCompleted = 0 ∧ q.jobsAbandoned = 0)
                  ∧ (flagAt p 4 = false → q.jobsCompleted = pr.jobsCompleted ∧ q.sidesCompleted = pr.sidesCompleted
                      ∧ q.jobsAbandoned = pr.jobsAbandoned)
                  ∧ (pr.state = .awaiting ∨ pr.state = .silent → q.state = pr.state)
                  ∧ (pr.state ≠ .awaiting → pr.state ≠ .silent → q.state = q.derived s.params.emptyLevel)
                  ∧ (JobOrdersSound s → q.state = .down → pr.state ≠ .down → s.ReturnedUncharged t (s.releasingThere n))
                  ∧ (q.state ≠ .down ∨ pr.state = .down → t.store = s.store ∧ t.release = s.release ∧ t.bank = s.bank)
                  ∧ (∀ k : FaultKind, q.filters.at k = if (s.params.kinds.at k).cls = 0 then
                      (if q.present s.params.emptyLevel k then .confirmed else .clear) else pr.filters.at k)
                  ∧ q.slots.length = pr.slots.length
                  ∧ (let moved := ((pr.slots.zip q.slots).map fun x => if x.1.type = x.2.type then []
                      else if x.1.wanted then [x.1.type, x.2.type] else if x.2.wanted then [x.2.type] else []).flatten
                    t.StockAsIn (reorderChecks moved { s with printers := t.printers }))
                  ∧ ∀ i ∈ List.range pr.slots.length, ∀ c ∈ pr.slots[i]?, ∃ c' ∈ q.slots[i]?,
                      c' = { c with type := byteAt p (5 + i), wanted := c'.wanted }
                      ∧ (c'.wanted = true ↔ c.wanted = true ∨ (c.type ≠ c'.type ∧ s.wantedCondition c' = true)))

/-- PRINTER_RETIRE (R10, R11, R36, R59, R68): refused with BUSY while a job is in flight on the printer. Otherwise the number
becomes VACANT, its HELD jobs are retargeted to its floor, its ticket retires and the entry is handed over, its WANTED marks
go and the reorder checks of their types run, its stations are unbound, and the response counts them. The order of the steps
among themselves is log entry 15. -/
def Obligations.PrinterRetireFreesTheNumber : Prop :=
  ∀ (s : State) (p : Payload), s.Receptive → p.length = 1 →
    let n := byteAt p 0
    (s.printers.get? n = none → exec (.printerRetire p) s = .next (answeredNo 0x13 .notFound [] s))
    ∧ ∀ pr ∈ s.printers.get? n,
        ((∃ j ∈ s.store.records, ∃ r ∈ j.phase.info?, r.printer = n) → exec (.printerRetire p) s = .next (answeredNo 0x13 .busy [] s))
        ∧ ((∀ j ∈ s.store.records, ∀ r ∈ j.phase.info?, r.printer ≠ n) → TablesOrdered s → TicketsSound s →
            let moves := fun j : Job => j.phase == .held && j.target == .specific n
            let left := { s with printers := s.printers.del n,
                                 callout := { s.callout with tickets := s.callout.tickets.filter fun e => e.2.printer ≠ n } }
            ∃ t, exec (.printerRetire p) s = .next (answeredOk 0x13 (le 2 (s.store.records.countP moves)
                ++ le 1 (s.line.stations.countP fun e => e.2.bound == some n) ++ le 2 (((s.ticketOf n).map Prod.fst).getD 0)) t)
              ∧ t = { s with printers := t.printers, callout := t.callout, stock := t.stock, store := t.store, line := t.line,
                             port := t.port }
              ∧ t.printers.get? n = none ∧ t.ticketOf n = none
              ∧ t.StockAsIn (reorderChecks ((pr.slots.filter fun c => c.wanted).map fun c => c.type) left)
              ∧ (s.ticketOf n = none → t.callout = s.callout ∧ t.printers = left.printers)
              ∧ (∀ _k ∈ s.ticketOf n, left.EntryHandedOver t)
              ∧ (∀ q : Nat, q ≠ n → ∀ x ∈ s.printers.get? q, ∃ y ∈ t.printers.get? q, y = { x with deferred := y.deferred })
              ∧ t.store = { s.store with records := s.store.records.map fun j => if moves j then { j with target := .floor pr.floor } else j }
              ∧ t.line = { s.line with stations := t.line.stations }
              ∧ ∀ a : Nat, ∀ st ∈ s.line.stations.get? a, t.line.stations.get? a
                  = some { st with bound := if st.bound = some n then none else st.bound })

/-- STATUS_REPORT (R3, R5, R12, R14 to R17, R25, R27, R41, R149): the reported set, the stamp, the baselines, the saturating
accumulators, the rebase flag and the service state of the record, and the response. A counter below its baseline gives no
delta, one too far ahead is clamped. A printer that becomes DOWN has its RELEASING jobs recalled. Its kinds of class 0 are
judged and it is reconciled, and so is every printer with a CONFIRMED toner kind and a cartridge of a type that a swap took
from the shelf. The refusals come in the order of R12; that a payload longer than a frame can carry is refused with
BAD_LENGTH before them is log entry 18. What the levels do to the slots and to the stock is said by
ReportLevelsActSlotBySlot. -/
def Obligations.StatusReportUpdatesTheRecord : Prop :=
  ∀ (s : State) (p : Payload), s.Receptive →
    let n := byteAt p 0
    let fits := p.length = 11 + byteAt p 1 + 2 * byteAt p 2
    let bad := firstBadField [(1, 16 < byteAt p 1), (2, 4 < byteAt p 2)]
    let kinds := listAt p 3 (byteAt p 1)
    (p.length < 3 ∨ 60 < p.length → exec (.statusReport p) s = .next (answeredNo 0x14 .badLength [] s))
    ∧ (3 ≤ p.length → p.length ≤ 60 → ∀ i ∈ bad, exec (.statusReport p) s = .next (answeredNo 0x14 .badField [BitVec.ofNat 8 i] s))
    ∧ (3 ≤ p.length → bad = none → ¬ fits → exec (.statusReport p) s = .next (answeredNo 0x14 .badLength [] s))
    ∧ (bad = none → fits → s.printers.get? n = none → exec (.statusReport p) s = .next (answeredNo 0x14 .notFound [] s))
    ∧ ∀ pr ∈ s.printers.get? n, bad = none → fits →
        (byteAt p 2 ≠ pr.slots.length → exec (.statusReport p) s = .next (answeredNo 0x14 .badLength [] s))
        ∧ (byteAt p 2 = pr.slots.length → ∀ i ∈ List.range kinds.length, 8 < kinds.getD i 0 → (∀ k ∈ kinds.take i, k ≤ 8) →
            exec (.statusReport p) s = .next (answeredNo 0x14 .badField [3, BitVec.ofNat 8 i] s))
        ∧ (byteAt p 2 = pr.slots.length → (∀ k ∈ kinds, k ≤ 8) →
            let at_ := 3 + byteAt p 1 + 2 * byteAt p 2
            let mono := word p at_
            let colour := word p (at_ + 4)
            let limit := s.params.deltaLimit
            let delta := fun (b : Option Word) (v : Word) => match b with
              | none => 0
              | some b => if v.toNat < b.toNat then 0 else min limit (v.toNat - b.toNat)
            let back := fun (b : Option Word) (v : Word) => b.any fun b => v.toNat < b.toNat
            let ahead := fun (b : Option Word) (v : Word) => b.any fun b => b.toNat + limit < v.toNat
            let odd := back pr.monoBase mono || ahead pr.monoBase mono || back pr.colourBase colour || ahead pr.colourBase colour
            let bit := fun (b : Bool) (w : Byte) => if b then w else 0
            let swapped := fun (i : Nat) (c : Cartridge) =>
              u16 p (3 + byteAt p 1 + 2 * i) ≠ 65535 ∧ c.level + s.params.swapJump ≤ min 1000 (u16 p (3 + byteAt p 1 + 2 * i))
            ∃ t, ∃ q ∈ t.printers.get? n,
              exec (.statusReport p) s = .next (answeredOk 0x14 [pr.state.code, q.state.code, bit (back pr.monoBase mono) 1
                + bit (ahead pr.monoBase mono) 2 + bit (back pr.colourBase colour) 4 + bit (ahead pr.colourBase colour) 8] t)
              ∧ t = { s with printers := t.printers, callout := t.callout, stock := t.stock, bank := t.bank, store := t.store,
                             release := t.release, port := t.port }
              ∧ q = { pr with slots := q.slots, state := q.state, reported := q.reported, monoBase := some mono,
                              colourBase := some colour, pMono := min 65535 (pr.pMono + delta pr.monoBase mono),
                              pColour := min 65535 (pr.pColour + delta pr.colourBase colour), lastReport := s.time.runSeconds,
                              rebase := pr.rebase || odd, deferred := q.deferred, filters := q.filters }
              ∧ (∀ k : FaultKind, k ∈ q.reported ↔ k.number ≤ 8 ∧ k.number ∈ kinds)
              ∧ (q.state = .down ↔ (∃ k ∈ q.reported, k ≠ .trayEmpty ∧ k ≠ .maintenanceDue ∧ k ≠ .tonerEmptyColour)
                  ∨ q.blackEmpty s.params.emptyLevel = true)
              ∧ (q.state = .ready ↔ q.reported = [] ∧ q.blackEmpty s.params.emptyLevel = false
                  ∧ q.colourUnavailable s.params.emptyLevel = false)
              ∧ (q.state = .down ∨ q.state = .ready ∨ q.state = .impaired)
              ∧ (JobOrdersSound s → q.state = .down → pr.state ≠ .down → s.ReturnedUncharged t (s.releasingThere n))
              ∧ (q.state ≠ .down ∨ pr.state = .down → t.store = s.store ∧ t.release = s.release ∧ t.bank = s.bank)
              ∧ (∀ k : FaultKind, q.filters.at k = if (s.params.kinds.at k).cls = 0 then
                  (if q.present s.params.emptyLevel k then .confirmed else .clear) else pr.filters.at k)
              ∧ (t.hasCause .counterRebase = true ↔ s.hasCause .counterRebase = true ∨ odd = true)
              ∧ (∀ x : Nat, x ≠ n → ∀ y ∈ s.printers.get? x, ∃ z ∈ t.printers.get? x, z = { y with deferred := z.deferred })
              ∧ (TablesOrdered s → TicketsSound s → t.CalloutInLine n
                  ∧ ∀ i ∈ List.range pr.slots.length, ∀ c ∈ pr.slots[i]?, ∀ ty ∈ s.stock.types.get? c.type,
                      swapped i c → 1 ≤ ty.shelf → ∀ e ∈ s.printers,
                        e.2.tonerConfirmed = true → (∃ d ∈ e.2.slots, d.type = c.type) → t.CalloutInLine e.1))

/-- The levels of a report (R13, R45 to R48, R50, R58, R68, R71), slot by slot: an unknown level marks the slot stale and
leaves the rest; a rise of SWAP_JUMP or more is a swap; any other known level is stored, a rise voiding the sample. The
forecast and the WANTED test follow each known level. Each swap takes one cartridge of its type from the shelf, or sets
STOCK_MISMATCH when the shelf has none, and runs the reorder check of the type with its mark withdrawn; the checks of the
types that the tests have newly marked follow the last slot. That order of the checks is log entry 13. -/
def Obligations.ReportLevelsActSlotBySlot : Prop :=
  ∀ (s : State) (p : Payload) (pr : Printer), s.Receptive → s.printers.get? (byteAt p 0) = some pr →
    byteAt p 1 ≤ 16 → byteAt p 2 ≤ 4 → p.length = 11 + byteAt p 1 + 2 * byteAt p 2 → byteAt p 2 = pr.slots.length →
    (∀ k ∈ listAt p 3 (byteAt p 1), k ≤ 8) →
    let reported := fun i : Nat => u16 p (3 + byteAt p 1 + 2 * i)
    let swapped := fun (i : Nat) (c : Cartridge) => reported i ≠ 65535 ∧ c.level + s.params.swapJump ≤ min 1000 (reported i)
    ∃ t, ∃ q ∈ t.printers.get? (byteAt p 0), exec (.statusReport p) s = .next t ∧ q.slots.length = pr.slots.length
      ∧ (∀ i ∈ List.range pr.slots.length, ∀ c ∈ pr.slots[i]?, ∃ c' ∈ q.slots[i]?,
        let level := min 1000 (reported i)
        let used := c.coverage * c.pageRate
        (reported i = 65535 → c' = { c with stale := true })
        ∧ (reported i ≠ 65535 → c' = { c with level := level, stale := false, forecast := c'.forecast, wanted := c'.wanted,
                                              dayStart := c'.dayStart, void := c'.void }
            ∧ (swapped i c → c'.dayStart = level ∧ c'.void = true)
            ∧ (¬ swapped i c → c'.dayStart = c.dayStart ∧ c'.void = (c.void || c.level < level))
            ∧ c'.forecast = (if used = 0 then 999 else min 999 (level * 10000 / used))
            ∧ (c'.wanted = true ↔ (c.wanted = true ∧ ¬ swapped i c) ∨ level ≤ s.params.floorLevel
                ∨ ∃ ty ∈ s.stock.types.get? c.type, c'.forecast ≤ ty.lead + ty.margin)))
      ∧ (let slots := (List.range pr.slots.length).zip (pr.slots.zip q.slots)
         let swaps := fun x : Nat => slots.countP fun e => e.2.1.type == x && decide (swapped e.1 e.2.1)
         let pass := fun (u : State) (e : Nat × Cartridge × Cartridge) =>
           let withdrawn := updSlot (byteAt p 0) e.1 (fun c => { c with wanted := false }) u
           updSlot (byteAt p 0) e.1 (fun _ => e.2.2) (if swapped e.1 e.2.1 then withdrawn.swapTaken e.2.1.type else u)
         let gained := (slots.filter fun e => e.2.2.wanted && (!e.2.1.wanted || decide (swapped e.1 e.2.1))).map fun e => e.2.1.type
         (∀ x : Nat, ∀ ty ∈ s.stock.types.get? x, ∃ ty' ∈ t.stock.types.get? x,
           ty' = { ty with shelf := ty.shelf - swaps x, pending := ty'.pending })
         ∧ (t.hasCause .stockMismatch = true ↔ s.hasCause .stockMismatch = true
             ∨ ∃ e ∈ slots, swapped e.1 e.2.1 ∧ ∀ ty ∈ s.stock.types.get? e.2.1.type, ty.shelf < swaps e.2.1.type)
         ∧ (TablesOrdered s → t.StockAsIn (reorderChecks gained (slots.foldl pass s))))

/-! ### Tickets -/

/-- TICKET_ACK (R37): a RAISED ticket becomes ACKED at its current severity, an ACKED one is unchanged, a RESOLVED one is
refused; its level, its points and its causes stay. TICKET_CLOSE (R36, R38): only a RESOLVED ticket closes. Its entry goes to
the deferred printer whose causes have the highest severity, the lowest number first, which gets a new RAISED ticket with all
its causes; with none the entry is free. No other ticket and no other printer changes. -/
def Obligations.TicketAckAndCloseFollowTheState : Prop :=
  (∀ (s : State) (p : Payload), s.Receptive → p.length = 2 →
     let n := u16 p 0
     (s.callout.tickets.get? n = none → exec (.ticketAck p) s = .next (answeredNo 0x18 .notFound [] s))
     ∧ ∀ k ∈ s.callout.tickets.get? n,
         (k.state = .resolved → exec (.ticketAck p) s = .next (answeredNo 0x18 .state [] s))
         ∧ (∀ v : Nat, (k.state = .raised ∧ v = severityOf k.causes) ∨ k.state = .acked v →
             ∃ t, exec (.ticketAck p) s = .next (answeredOk 0x18 (1 :: le 1 v) t)
               ∧ t = { s with callout := { s.callout with tickets := t.callout.tickets } }
               ∧ t.callout.tickets.get? n = some { k with state := .acked v }
               ∧ ∀ m : Nat, m ≠ n → t.callout.tickets.get? m = s.callout.tickets.get? m))
  ∧ (∀ (s : State) (p : Payload), s.Receptive → p.length = 2 →
       let n := u16 p 0
       (s.callout.tickets.get? n = none → exec (.ticketClose p) s = .next (answeredNo 0x19 .notFound [] s))
       ∧ ∀ k ∈ s.callout.tickets.get? n,
           (k.state ≠ .resolved → exec (.ticketClose p) s = .next (answeredNo 0x19 .state [] s))
           ∧ (k.state = .resolved → TablesOrdered s → TicketsSound s →
               let freed := { s with callout := { s.callout with tickets := s.callout.tickets.del n } }
               let owed := fun q : Nat => ((s.printers.get? q).filter fun pr => pr.deferred).map fun pr => severityOf (currentCauses s pr)
               ((∀ q ∈ Table.keys s.printers, ∀ v ∈ owed q, v = 0) → exec (.ticketClose p) s = .next (answeredOk 0x19 [] freed))
               ∧ (∀ q ∈ Table.keys s.printers, ∀ v ∈ owed q, 0 < v → (∀ x ∈ Table.keys s.printers, ∀ w ∈ owed x, w < v ∨ (w = v ∧ q ≤ x)) →
                   ∃ t, exec (.ticketClose p) s = .next (answeredOk 0x19 [] t)
                     ∧ t = { s with callout := t.callout, printers := t.printers, port := t.port }
                     ∧ t.port = { s.port with sticky := t.port.sticky } ∧ t.hasCause .calloutRaised = true
                     ∧ (∀ x : Cause, x ≠ .calloutRaised → t.hasCause x = s.hasCause x)
                     ∧ freed.EntryHandedOver t
                     ∧ t.callout.tickets.length = s.callout.tickets.length
                     ∧ ∃ pr ∈ s.printers.get? q, t.printers.get? q = some { pr with deferred := false }
                         ∧ ∃ e ∈ t.ticketOf q, e.1 = t.callout.lastTicket ∧ e.2 = ⟨q, currentCauses s pr, e.2.nonAuto, .raised, 0,
                             s.time.runSeconds, s.time.runSeconds⟩)))

/-- Conditions, causes and tickets. When a kind is judged present, and a printer's current causes: its CONFIRMED kinds whose
effective severity is 1 or more, in kind order; a toner kind is one step more severe, up to 4, unless every empty cartridge
concerned has stock on its shelf (R2, R22, R24, R26, R29, R31). Reconciliation of one printer (R30 to R35), in an event that
has freed some entries. Without a ticket: causes bring a RAISED ticket, or with no entry that was free before the
deferred-callout flag. With one: it takes the causes as they are; without causes it retires, or is RESOLVED when it has
listed a kind that must be closed by hand; with causes it is RAISED again from RESOLVED, and from ACKED above the
acknowledged severity. The reconciliations of one event (R30, R36): the printers one after another, then one hand-over for
each entry freed, which gives the entry as R36 says; every one of them ends in line with its causes, and of another printer
only the deferred-callout flag changes, when the hand-over gives it a ticket. -/
def Obligations.ReconciliationKeepsTheTicketInLine : Prop :=
  (∀ (s : State) (pr : Printer), pr.slots.length ≤ 4 →
     let dry := fun c : Cartridge => c.level ≤ s.params.emptyLevel
     let unstocked := fun c : Cartridge => ¬ ∃ ty ∈ s.stock.types.get? c.type, 1 ≤ ty.shelf
     let black := ∃ c ∈ pr.slots[0]?, dry c
     let coloured := pr.caps.colour = true ∧ ∃ i ∈ [1, 2, 3], ∃ c ∈ pr.slots[i]?, dry c
     let severity := fun k : FaultKind =>
       let v := (s.params.kinds.at k).severity
       let slots := match k with
         | .tonerEmptyK => [0]
         | .tonerEmptyColour => [1, 2, 3]
         | _ => []
       if v ≠ 0 ∧ ∃ i ∈ slots, ∃ c ∈ pr.slots[i]?, dry c ∧ unstocked c then min (v + 1) 4 else v
     let causes := currentCauses s pr
     (pr.blackEmpty s.params.emptyLevel = true ↔ black)
     ∧ (pr.colourUnavailable s.params.emptyLevel = true ↔ coloured)
     ∧ (∀ k : FaultKind, pr.present s.params.emptyLevel k = true ↔
         (k = .tonerEmptyK ∧ black) ∨ (k = .tonerEmptyColour ∧ coloured) ∨ (k = .noContact ∧ pr.state = .silent)
         ∨ (k.number ≤ 8 ∧ k ∈ pr.reported))
     ∧ (∀ (k : FaultKind) (v : Nat), (k, v) ∈ causes ↔ pr.filters.at k = .confirmed ∧ v = severity k ∧ 1 ≤ v)
     ∧ causes.Pairwise (fun a b => a.1.number < b.1.number)
     ∧ (∀ c ∈ causes, c.2 ≤ severityOf causes) ∧ (causes ≠ [] → ∃ c ∈ causes, c.2 = severityOf causes))
  ∧ (∀ (s : State) (q freed : Nat) (pr : Printer), TablesOrdered s → TicketsSound s → s.printers.get? q = some pr →
       let t := (reconcile (s, freed) q).1
       let causes := currentCauses s pr
       let byHand := fun k : FaultKind => (s.params.kinds.at k).autoclose = false
       t = { s with callout := t.callout, printers := t.printers, port := t.port } ∧ t.CalloutInLine q
       ∧ (∀ x : Nat, x ≠ q → t.printers.get? x = s.printers.get? x ∧ t.ticketOf x = s.ticketOf x)
       ∧ ((reconcile (s, freed) q).2 = if t.callout.tickets.length < s.callout.tickets.length then freed + 1 else freed)
       ∧ (s.ticketOf q = none → causes = [] → t.callout = s.callout ∧ t.printers.get? q = some { pr with deferred := false })
       ∧ (s.ticketOf q = none → causes ≠ [] → pr.deferred = true → t = s)
       ∧ (s.ticketOf q = none → causes ≠ [] → pr.deferred = false → s.callout.tickets.length + freed < 64 →
           t.hasCause .calloutRaised = true ∧ t.callout.lastTicket ∉ Table.keys s.callout.tickets
           ∧ ∃ k ∈ t.callout.tickets.get? t.callout.lastTicket, k = ⟨q, causes, k.nonAuto, .raised, 0, s.time.runSeconds, s.time.runSeconds⟩
               ∧ (k.nonAuto = true ↔ ∃ c ∈ causes, byHand c.1))
       ∧ (s.ticketOf q = none → causes ≠ [] → pr.deferred = false → 64 ≤ s.callout.tickets.length + freed →
           t.hasCause .calloutDeferred = true ∧ t.callout = s.callout ∧ t.printers.get? q = some { pr with deferred := true })
       ∧ ∀ e ∈ s.ticketOf q,
           let mark := e.2.nonAuto || causes.any fun c => !(e.2.lists c.1) && !(s.params.kinds.at c.1).autoclose
           (causes = [] → mark = false → t.callout.tickets = s.callout.tickets.del e.1)
           ∧ (causes = [] → mark = true → t.callout.tickets.get? e.1 = some { e.2 with causes := [], nonAuto := true, state := .resolved })
           ∧ (causes ≠ [] → e.2.state = .raised → t.callout.tickets.get? e.1 = some { e.2 with causes := causes, nonAuto := mark })
           ∧ (causes ≠ [] → e.2.state = .resolved ∨ (∃ a ∈ e.2.acknowledged, a < severityOf causes) → t.hasCause .calloutRaised = true
               ∧ t.callout.tickets.get? e.1
                 = some { e.2 with causes := causes, nonAuto := mark, state := .raised, point := s.time.runSeconds })
           ∧ (causes ≠ [] → (∃ a ∈ e.2.acknowledged, severityOf causes ≤ a) →
               t.callout.tickets.get? e.1 = some { e.2 with causes := causes, nonAuto := mark }))
  ∧ (∀ (s : State) (ps : List Nat), TablesOrdered s → TicketsSound s →
       let r := ps.foldl reconcile (s, 0)
       let t := reconcileAll ps s
       s.EntryHandedOver (handOver s)
       ∧ handOver s = { s with callout := (handOver s).callout, printers := (handOver s).printers, port := (handOver s).port }
       ∧ t = Nat.repeat handOver r.2 r.1
       ∧ t = { s with callout := t.callout, printers := t.printers, port := t.port }
       ∧ Table.keys t.printers = Table.keys s.printers
       ∧ (∀ q ∈ ps, t.CalloutInLine q)
       ∧ ∀ q ∈ Table.keys s.printers, ∀ pr ∈ s.printers.get? q, ∃ pr' ∈ t.printers.get? q, pr' = { pr with deferred := pr'.deferred }
           ∧ (q ∉ ps → (pr' = pr ∧ t.ticketOf q = s.ticketOf q)
               ∨ (pr.deferred = true ∧ pr'.deferred = false ∧ ∃ e ∈ t.ticketOf q, e.2.causes = currentCauses s pr ∧ e.2.causes ≠ [])))

/-! ### Cartridges and stock -/

/-- CARTRIDGE_SWAPPED (R4, R5, R25, R27, R41, R48 to R50, R58, R71, R149): the slot is full, voided and no longer stale, its
estimates kept, its mark withdrawn and tested anew. One cartridge of its type leaves the shelf, or STOCK_MISMATCH is set when
the shelf has none. The service state is derived again unless the printer is AWAITING or SILENT, with the recall when it
becomes DOWN; the kinds of class 0 are judged and the printer is reconciled, and with it every printer that a shelf that has
changed concerns. The reorder check of the type runs with the withdrawal and the shelf change counted, and again when the
test marks the new cartridge (R68, log entry 13). CARTRIDGE_SEED (R58, R60, R68): both estimates are stored as seeded, the
forecast is recomputed and the test applied, the reorder check runs when the mark is set, and nothing else of the printer or
of another changes. Either request is refused with NOT_FOUND for a VACANT number, with BAD_FIELD for a slot the printer
lacks. -/
def Obligations.SwapAndSeedChangeOneCartridge : Prop :=
  (∀ (s : State) (p : Payload) (pr : Printer), s.Receptive → p.length = 2 → s.printers.get? (byteAt p 0) = some pr →
     (pr.slots[byteAt p 1]? = none → exec (.cartridgeSwapped p) s = .next (answeredNo 0x21 .badField [1] s))
     ∧ ∀ c ∈ pr.slots[byteAt p 1]?,
         ∃ t, ∃ c' ∈ t.slotAt (byteAt p 0) (byteAt p 1),
           exec (.cartridgeSwapped p) s = .next (answeredOk 0x21 (le 2 1000 ++ le 2 c'.forecast ++ flag c.wanted) t)
           ∧ t = { s with printers := t.printers, callout := t.callout, stock := t.stock, bank := t.bank, store := t.store,
                          release := t.release, port := t.port }
           ∧ c' = { c with level := 1000, dayStart := 1000, stale := false, void := true, wanted := c'.wanted, forecast := c'.forecast }
           ∧ c'.forecast = (if c.coverage * c.pageRate = 0 then 999 else min 999 (1000 * 10000 / (c.coverage * c.pageRate)))
           ∧ (c'.wanted = true ↔ 1000 ≤ s.params.floorLevel ∨ ∃ ty ∈ s.stock.types.get? c.type, c'.forecast ≤ ty.lead + ty.margin)
           ∧ (∀ x : Nat, ∀ ty ∈ s.stock.types.get? x, ∃ ty' ∈ t.stock.types.get? x,
               ty' = { ty with shelf := if x = c.type then ty.shelf - 1 else ty.shelf, pending := ty'.pending })
           ∧ (t.hasCause .stockMismatch = true ↔ s.hasCause .stockMismatch = true ∨ ∀ ty ∈ s.stock.types.get? c.type, ty.shelf = 0)
           ∧ (let withdrawn := updSlot (byteAt p 0) (byteAt p 1) (fun d => { d with wanted := false }) s
             t.StockAsIn (reorderChecks (if c'.wanted then [c.type] else []) { withdrawn.swapTaken c.type with printers := t.printers }))
           ∧ (∀ i : Nat, i ≠ byteAt p 1 → t.slotAt (byteAt p 0) i = s.slotAt (byteAt p 0) i)
           ∧ (∀ x : Nat, x ≠ byteAt p 0 → ∀ y ∈ s.printers.get? x, ∃ z ∈ t.printers.get? x, z = { y with deferred := z.deferred })
           ∧ (∃ q ∈ t.printers.get? (byteAt p 0),
               q = { pr with slots := q.slots, state := q.state, filters := q.filters, deferred := q.deferred }
               ∧ (pr.state = .awaiting ∨ pr.state = .silent → q.state = pr.state)
               ∧ (pr.state ≠ .awaiting → pr.state ≠ .silent → q.state = q.derived s.params.emptyLevel)
               ∧ (JobOrdersSound s → q.state = .down → pr.state ≠ .down → s.ReturnedUncharged t (s.releasingThere (byteAt p 0)))
               ∧ (q.state ≠ .down ∨ pr.state = .down → t.store = s.store ∧ t.release = s.release ∧ t.bank = s.bank)
               ∧ ∀ k : FaultKind, q.filters.at k = if (s.params.kinds.at k).cls = 0 then
                   (if q.present s.params.emptyLevel k then .confirmed else .clear) else pr.filters.at k)
           ∧ (TablesOrdered s → TicketsSound s → t.CalloutInLine (byteAt p 0)
               ∧ ∀ ty ∈ s.stock.types.get? c.type, 1 ≤ ty.shelf → ∀ e ∈ s.printers,
                   e.2.tonerConfirmed = true → (∃ d ∈ e.2.slots, d.type = c.type) → t.CalloutInLine e.1))
  ∧ (∀ (s : State) (p : Payload) (pr : Printer), s.Receptive → p.length = 6 → s.printers.get? (byteAt p 0) = some pr →
       (pr.slots[byteAt p 1]? = none → exec (.cartridgeSeed p) s = .next (answeredNo 0x22 .badField [1] s))
       ∧ ∀ c ∈ pr.slots[byteAt p 1]?,
           let used := u16 p 2 * u16 p 4
           ∃ t, ∃ c' ∈ t.slotAt (byteAt p 0) (byteAt p 1),
             exec (.cartridgeSeed p) s = .next (answeredOk 0x22 (le 2 c'.forecast ++ flag c'.wanted) t)
             ∧ t = { s with printers := t.printers, stock := t.stock, port := t.port }
             ∧ c' = { c with coverage := u16 p 2, eSeeded := true, pageRate := u16 p 4, qSeeded := true,
                             forecast := c'.forecast, wanted := c'.wanted }
             ∧ c'.forecast = (if used = 0 then 999 else min 999 (c.level * 10000 / used))
             ∧ (c'.wanted = true ↔ c.wanted = true ∨ c.level ≤ s.params.floorLevel
                 ∨ ∃ ty ∈ s.stock.types.get? c.type, c'.forecast ≤ ty.lead + ty.margin)
             ∧ t.printers.get? (byteAt p 0) = some { pr with slots := pr.slots.set (byteAt p 1) c' }
             ∧ (∀ x : Nat, x ≠ byteAt p 0 → t.printers.get? x = s.printers.get? x)
             ∧ t = reorderChecks (if c'.wanted && !c.wanted then [c.type] else []) { s with printers := t.printers })
  ∧ (∀ (s : State) (p : Payload), s.Receptive → s.printers.get? (byteAt p 0) = none →
       (p.length = 2 → exec (.cartridgeSwapped p) s = .next (answeredNo 0x21 .notFound [] s))
       ∧ (p.length = 6 → exec (.cartridgeSeed p) s = .next (answeredNo 0x22 .notFound [] s)))

/-- TYPE_SET (R25, R41, R64, R65, R72): a definition stores the fields and the shelf that the shelf mode gives, keeps the
hold-off flag, makes the reorder check of the type, and answers the shelf and the number of the requisition the check issued
or grew, 0 when it left the requisitions as they are. A type with requisitions cannot be undefined. A shelf that has changed
is announced: every printer with a CONFIRMED toner kind and a cartridge of the type is reconciled. The refusals name the
first bad field. That a check that gained nothing answers 0 is the model's, log entry 12; the answer to an undefinition, log
entry 17. -/
def Obligations.TypeSetDefinesOrUndefinesAType : Prop :=
  ∀ (s : State) (p : Payload), s.Receptive → TablesOrdered s → StockSound s → p.length = 9 →
    let n := byteAt p 0
    let old := s.stock.types.get? n
    let was := (old.map fun ty => ty.shelf).getD 0
    let v := i16 p 7
    let defines := flagAt p 1
    let bad := firstBadField [(0, 63 < n), (2, defines ∧ 15 < byteAt p 2), (3, defines ∧ ¬ (1 ≤ byteAt p 3 ∧ byteAt p 3 ≤ 16)),
      (4, defines ∧ ¬ (1 ≤ byteAt p 4 ∧ byteAt p 4 ≤ 60)), (5, defines ∧ 30 < byteAt p 5), (6, defines ∧ 2 < byteAt p 6),
      (7, defines ∧ ((byteAt p 6 = 1 ∧ (v < 0 ∨ 255 < v)) ∨ (byteAt p 6 = 2 ∧ (v < -255 ∨ 255 < v))))]
    let announced := fun t : State => TicketsSound s → ∀ e ∈ s.printers,
      e.2.tonerConfirmed = true → (∃ c ∈ e.2.slots, c.type = n) → t.CalloutInLine e.1
    (∀ i ∈ bad, exec (.typeSet p) s = .next (answeredNo 0x28 .badField [BitVec.ofNat 8 i] s))
    ∧ (bad = none → ¬ defines → (∃ e ∈ s.stock.reqs, e.2.type = n) → exec (.typeSet p) s = .next (answeredNo 0x28 .state [] s))
    ∧ (bad = none → ¬ defines → (∀ e ∈ s.stock.reqs, e.2.type ≠ n) →
        ∃ t, exec (.typeSet p) s = .next (answeredOk 0x28 [0, 0, 0] t) ∧ t.stock = { s.stock with types := s.stock.types.del n }
          ∧ t = { s with stock := t.stock, callout := t.callout, printers := t.printers, port := t.port }
          ∧ (old = none → t = s) ∧ (old.isSome = true → announced t))
    ∧ ∀ shelf : Nat, bad = none → defines →
        (byteAt p 6 = 0 ∧ shelf = was) ∨ (byteAt p 6 = 1 ∧ (shelf : Int) = v)
          ∨ (byteAt p 6 = 2 ∧ (shelf : Int) = min 255 (max 0 (was + v))) →
        let base := { s with stock := { s.stock with types := s.stock.types.put n ⟨shelf, byteAt p 2, byteAt p 3, byteAt p 4, byteAt p 5,
          old.any fun o => o.holdOff, old.any fun o => o.pending⟩ } }
        ∃ t, ∃ m ∈ List.range 65536, exec (.typeSet p) s = .next (answeredOk 0x28 (le 1 shelf ++ le 2 m) t)
          ∧ t = { s with stock := t.stock, callout := t.callout, printers := t.printers, port := t.port }
          ∧ t.stock = (reorderCheck n base).stock
          ∧ (∃ ty ∈ t.stock.types.get? n, ty = ⟨shelf, byteAt p 2, byteAt p 3, byteAt p 4, byteAt p 5,
              old.any fun o => o.holdOff, ty.pending⟩)
          ∧ (∀ x : Nat, x ≠ n → t.stock.types.get? x = s.stock.types.get? x)
          ∧ (m = 0 ↔ t.stock.reqs = s.stock.reqs) ∧ (m ≠ 0 → ∃ r, t.openReq n = some (m, r))
          ∧ (old = none ∨ shelf ≠ was → announced t)
          ∧ (old.isSome = true → shelf = was → t.callout = s.callout ∧ t.printers = s.printers)

/-- The reorder check (R69): a held-off or supplied type only loses its pending flag. A shortfall is ordered in whole packs,
the least that covers it, by growing the OPEN requisition or issuing a new one; with the table full the type becomes pending.
The checks of one event run once for each type concerned, in ascending number, in whatever order the types are named (R68),
and the check of an undefined type changes nothing (R69). The wanted count is the number of cartridge records of the type
that are marked WANTED (R59). The service of pending types (R70) checks the lowest; when that stays pending the table is full
again and the service stops, and otherwise it goes on with the types still pending. -/
def Obligations.ReorderCheckOrdersTheShortfall : Prop :=
  (∀ (s : State) (n : Nat) (ty : CartridgeType), TablesOrdered s → StockSound s → s.stock.types.get? n = some ty →
     let t := reorderCheck n s
     let wanted := (s.printers.map fun e => e.2.slots.countP fun c => c.wanted && c.type == n).sum
     let onOrder := (s.stock.reqs.map fun e => if e.2.type = n then e.2.quantity else 0).sum
     let need := wanted + ty.reserve
     let supply := ty.shelf + onOrder
     let packs := (need - supply + ty.pack - 1) / ty.pack
     let short := ty.holdOff = false ∧ supply < need
     t = { s with stock := t.stock, port := t.port }
     ∧ (∀ x : Nat, x ≠ n → t.stock.types.get? x = s.stock.types.get? x)
     ∧ (∃ ty' ∈ t.stock.types.get? n, ty' = { ty with pending := ty'.pending }
         ∧ (ty'.pending = true ↔ short ∧ s.openReq n = none ∧ s.stock.reqs.length = 32))
     ∧ (¬ short → t.stock.reqs = s.stock.reqs)
     ∧ (short → need - supply ≤ ty.pack * packs ∧ ty.pack * packs < need - supply + ty.pack)
     ∧ (short → ∀ e ∈ s.openReq n, t.stock.lastReq = s.stock.lastReq
         ∧ t.stock.reqs.get? e.1 = some { e.2 with quantity := min 255 (e.2.quantity + ty.pack * packs) }
         ∧ ∀ m : Nat, m ≠ e.1 → t.stock.reqs.get? m = s.stock.reqs.get? m)
     ∧ (short → s.openReq n = none → s.stock.reqs.length < 32 →
         t.hasCause .reqOpened = true ∧ t.stock.lastReq ∉ Table.keys s.stock.reqs ∧ 1 ≤ t.stock.lastReq ∧ t.stock.lastReq ≤ 65535
         ∧ t.stock.reqs.get? t.stock.lastReq = some ⟨n, min 255 (ty.pack * packs), s.time.day, none, false⟩
         ∧ ∀ m : Nat, m ≠ t.stock.lastReq → t.stock.reqs.get? m = s.stock.reqs.get? m)
     ∧ (short → s.openReq n = none → s.stock.reqs.length = 32 →
         t.stock.reqs = s.stock.reqs ∧ (ty.pending = false → t.hasCause .reqTableFull = true)))
  ∧ (∀ (s : State) (ts : List Nat) (n : Nat),
       reorderChecks [] s = s ∧ (s.stock.types.get? n = none → reorderCheck n s = s)
       ∧ (∀ us : List Nat, (∀ x, x ∈ us ↔ x ∈ ts) → reorderChecks us s = reorderChecks ts s)
       ∧ (n ≤ 63 → (∀ x ∈ ts, n < x) → reorderChecks (n :: ts) s = reorderChecks ts (reorderCheck n s)))
  ∧ (∀ (s : State) (n : Nat), TablesOrdered s →
       let pending := fun (u : State) (x : Nat) => ∃ ty ∈ u.stock.types.get? x, ty.pending = true
       ((∀ e ∈ s.stock.types, e.2.pending = false) → servePending s = s)
       ∧ (pending s n → (∀ x ∈ List.range n, ¬ pending s x) →
           let u := reorderCheck n s
           (pending u n → servePending s = u) ∧ (¬ pending u n → servePending s = servePending u)))

/-- REQ_CONFIRM (R68, R73): an OPEN requisition becomes CONFIRMED today with its quantity and raise day kept, and the check
that follows may issue a new OPEN requisition, whose number is answered; a CONFIRMED one is refused. REQ_CANCEL (R70, R75):
the requisition retires in either state, its type is held off and not pending, its quantity is answered, and the pending
types are served with the freed entry. -/
def Obligations.RequisitionsAreConfirmedAndCancelled : Prop :=
  (∀ (s : State) (p : Payload), s.Receptive → TablesOrdered s → StockSound s → p.length = 2 →
     let n := u16 p 0
     (s.stock.reqs.get? n = none → exec (.reqConfirm p) s = .next (answeredNo 0x2A .notFound [] s))
     ∧ ∀ r ∈ s.stock.reqs.get? n,
         (r.confirmDay.isSome = true → exec (.reqConfirm p) s = .next (answeredNo 0x2A .state [] s))
         ∧ (r.confirmDay = none →
             let confirmed := updReq n (fun r => { r with confirmDay := some s.time.day }) s
             ∃ t, ∃ m ∈ List.range 65536,
               exec (.reqConfirm p) s = .next (answeredOk 0x2A (le 1 r.quantity ++ le 2 s.time.day.toNat ++ le 2 m) t)
               ∧ t = { s with stock := t.stock, port := t.port }
               ∧ t.stock.reqs.get? n = some { r with confirmDay := some s.time.day }
               ∧ (∀ x : Nat, x ≠ n → x ≠ m → t.stock.reqs.get? x = s.stock.reqs.get? x)
               ∧ (m ≠ 0 → s.stock.reqs.get? m = none ∧ ∃ r' ∈ t.stock.reqs.get? m, r'.type = r.type ∧ r'.confirmDay = none)
               ∧ (m = 0 → t.stock.reqs.get? m = s.stock.reqs.get? m)
               ∧ t = reorderCheck r.type confirmed ∧ (m = 0 ↔ t.stock.reqs = confirmed.stock.reqs)))
  ∧ (∀ (s : State) (p : Payload), s.Receptive → TablesOrdered s → StockSound s → p.length = 2 →
       let n := u16 p 0
       (s.stock.reqs.get? n = none → exec (.reqCancel p) s = .next (answeredNo 0x2C .notFound [] s))
       ∧ ∀ r ∈ s.stock.reqs.get? n, ∀ ty ∈ s.stock.types.get? r.type,
           ∃ t, exec (.reqCancel p) s = .next (answeredOk 0x2C (le 1 r.quantity) t) ∧ t = { s with stock := t.stock, port := t.port }
             ∧ t.stock.types.get? r.type = some { ty with holdOff := true, pending := false }
             ∧ (∀ r' ∈ t.stock.reqs.get? n, r'.confirmDay = none ∧ r'.raiseDay = s.time.day ∧ r'.type ≠ r.type)
             ∧ (∀ m ∈ Table.keys s.stock.reqs, m ≠ n → (t.stock.reqs.get? m).isSome = true)
             ∧ t = servePending { s with stock := { s.stock with
                 reqs := s.stock.reqs.del n, types := s.stock.types.put r.type { ty with holdOff := true, pending := false } } })

/-- REQ_RECEIVE (R68, R70, R72, R74): the shelf grows up to 255, the excess sets STOCK_MISMATCH, the requisition falls by
what was received, and one that was received whole retires: only a requisition issued in this event can carry its number
afterwards. A shelf that has changed is announced (R25, R41): every printer with a CONFIRMED toner kind and a cartridge of
the type is reconciled. The reorder check of the type runs on the result, and after a retirement the service of the pending
types. That the quantity still to come is answered before the check of step 5 grows an OPEN requisition is the model's, log
entry 23. -/
def Obligations.ReqReceiveStocksTheShelf : Prop :=
  ∀ (s : State) (p : Payload), s.Receptive → TablesOrdered s → StockSound s → p.length = 3 →
    let n := u16 p 0
    let q := byteAt p 2
    let stocked := fun (r : Requisition) (ty : CartridgeType) =>
      let u := { s with stock := { s.stock with types := s.stock.types.put r.type { ty with shelf := min 255 (ty.shelf + q) } } }
      if 255 < ty.shelf + q then setCause .stockMismatch u else u
    (q = 0 → exec (.reqReceive p) s = .next (answeredNo 0x2B .badField [1] s))
    ∧ (q ≠ 0 → s.stock.reqs.get? n = none → exec (.reqReceive p) s = .next (answeredNo 0x2B .notFound [] s))
    ∧ (q ≠ 0 → ∀ r ∈ s.stock.reqs.get? n, ∀ ty ∈ s.stock.types.get? r.type,
        ∃ t, exec (.reqReceive p) s = .next (answeredOk 0x2B
            (le 1 (min 255 (ty.shelf + q)) ++ le 1 (r.quantity - q) ++ le 1 (ty.shelf + q - 255)) t)
          ∧ t = { s with stock := t.stock, callout := t.callout, printers := t.printers, port := t.port }
          ∧ (∃ ty' ∈ t.stock.types.get? r.type, ty' = { ty with shelf := min 255 (ty.shelf + q), pending := ty'.pending })
          ∧ (255 < ty.shelf + q → t.hasCause .stockMismatch = true)
          ∧ (ty.shelf < 255 → TicketsSound s → ∀ e ∈ s.printers,
              e.2.tonerConfirmed = true → (∃ c ∈ e.2.slots, c.type = r.type) → t.CalloutInLine e.1)
          ∧ (255 ≤ ty.shelf → t.callout = s.callout ∧ t.printers = s.printers)
          ∧ (q < r.quantity → ∃ r' ∈ t.stock.reqs.get? n, r' = { r with quantity := r'.quantity } ∧ r.quantity - q ≤ r'.quantity
              ∧ (r.confirmDay.isSome = true → r'.quantity = r.quantity - q))
          ∧ (r.quantity ≤ q → ∀ r' ∈ t.stock.reqs.get? n, r'.confirmDay = none ∧ r'.raiseDay = s.time.day)
          ∧ (let u := stocked r ty
            t.StockAsIn (if r.quantity ≤ q then servePending (reorderCheck r.type { u with stock := { u.stock with reqs := u.stock.reqs.del n } })
              else reorderCheck r.type (updReq n (fun x => { x with quantity := r.quantity - q }) u))))

/-! ### Accounts, groups and prices -/

/-- ACCOUNT_ADD (R80, R81): an account is created from the request's fields with nothing reserved, and its token finds it.
The first field out of range is refused with its index, a number or a token in use with EXISTS and the number of its holder,
a full table with FULL. ACCOUNT_SET (R82): every field but the balance, the reserved amount and the exhausted flag takes the
request's value. The refusals come in the order of R82: a number without an account, the first field out of range, a token of
another account with EXISTS, a change of group with jobs in flight with BUSY, a USER with jobs becoming SERVICE with STATE. -/
def Obligations.AccountAddAndSetStoreTheRecord : Prop :=
  (∀ (s : State) (p : Payload), s.Receptive → TablesOrdered s → p.length = 22 →
     let n := u16 p 0
     let token := word p 2
     let bad := firstBadField [(0, n = 0), (2, 63 < byteAt p 6), (3, 1 < byteAt p 7), (4, 1 < byteAt p 8),
       (6, i32 p 10 < -100000 ∨ 2000000 < i32 p 10), (7, 2000000 < u32 p 14), (8, 2000000 < u32 p 18)]
     (∀ i ∈ bad, exec (.accountAdd p) s = .next (answeredNo 0x30 .badField [BitVec.ofNat 8 i] s))
     ∧ (bad = none →
       ((s.bank.accounts.get? n).isSome = true → exec (.accountAdd p) s = .next (answeredNo 0x30 .exists (le 2 n) s))
       ∧ (s.bank.accounts.get? n = none → token ≠ 0 → ∀ e ∈ s.badge token,
           exec (.accountAdd p) s = .next (answeredNo 0x30 .exists (le 2 e.1) s))
       ∧ (s.bank.accounts.get? n = none → token = 0 ∨ s.badge token = none → 4096 ≤ s.bank.accounts.length →
           exec (.accountAdd p) s = .next (answeredNo 0x30 .full [] s))
       ∧ (s.bank.accounts.get? n = none → token = 0 ∨ s.badge token = none → s.bank.accounts.length < 4096 →
           ∃ t, exec (.accountAdd p) s = .next (answeredOk 0x30 [] t) ∧ t = { s with bank := { s.bank with accounts := t.bank.accounts } }
             ∧ (∀ m : Nat, m ≠ n → t.bank.accounts.get? m = s.bank.accounts.get? m)
             ∧ ∃ a ∈ t.bank.accounts.get? n,
                 a = ⟨if token = 0 then none else some token, byteAt p 6, if byteAt p 7 = 1 then .service else .user, byteAt p 8 == 1,
                      bitAt p 9 0, bitAt p 9 1, i32 p 10, 0, u32 p 14, u32 p 18, false⟩
                 ∧ (token ≠ 0 → t.badge token = some (n, a)))))
  ∧ (∀ (s : State) (p : Payload), s.Receptive → p.length = 18 →
       let n := u16 p 0
       let token := word p 2
       let bad := firstBadField [(2, 63 < byteAt p 6), (3, 1 < byteAt p 7), (4, 1 < byteAt p 8), (6, 2000000 < u32 p 10),
         (7, 2000000 < u32 p 14)]
       let free := token = 0 ∨ s.badge token = none ∨ ∃ e ∈ s.badge token, e.1 = n
       (s.bank.accounts.get? n = none → exec (.accountSet p) s = .next (answeredNo 0x31 .notFound [] s))
       ∧ ∀ a ∈ s.bank.accounts.get? n,
           let busy := byteAt p 6 ≠ a.group ∧ ∃ j ∈ s.jobsOf n, j.phase ≠ .held
           let owner := a.role = .user ∧ byteAt p 7 = 1 ∧ s.jobsOf n ≠ []
           (∀ i ∈ bad, exec (.accountSet p) s = .next (answeredNo 0x31 .badField [BitVec.ofNat 8 i] s))
           ∧ (bad = none → token ≠ 0 → ∀ e ∈ s.badge token, e.1 ≠ n →
               exec (.accountSet p) s = .next (answeredNo 0x31 .exists (le 2 e.1) s))
           ∧ (bad = none → free → busy → exec (.accountSet p) s = .next (answeredNo 0x31 .busy [] s))
           ∧ (bad = none → free → ¬ busy → owner → exec (.accountSet p) s = .next (answeredNo 0x31 .state [] s))
           ∧ (bad = none → free → ¬ busy → ¬ owner →
               ∃ t, exec (.accountSet p) s = .next (answeredOk 0x31 [] t) ∧ t = { s with bank := { s.bank with accounts := t.bank.accounts } }
                 ∧ (∀ m : Nat, m ≠ n → t.bank.accounts.get? m = s.bank.accounts.get? m)
                 ∧ t.bank.accounts.get? n = some ⟨if token = 0 then none else some token, byteAt p 6,
                     if byteAt p 7 = 1 then .service else .user, byteAt p 8 == 1, bitAt p 9 0, bitAt p 9 1, a.balance, a.reserved,
                     u32 p 10, u32 p 14, a.exhausted⟩))

/-- ACCOUNT_RETIRE (R85, R107): refused with BUSY while a job of the account is in flight. Otherwise its HELD jobs retire,
the record and its token go, and the response gives the jobs retired and the balance. -/
def Obligations.AccountRetireRemovesTheAccount : Prop :=
  ∀ (s : State) (p : Payload), s.Receptive → JobOrdersSound s → p.length = 2 →
    let n := u16 p 0
    (s.bank.accounts.get? n = none → exec (.accountRetire p) s = .next (answeredNo 0x35 .notFound [] s))
    ∧ ∀ a ∈ s.bank.accounts.get? n,
        ((∃ j ∈ s.jobsOf n, j.phase ≠ .held) → exec (.accountRetire p) s = .next (answeredNo 0x35 .busy [] s))
        ∧ ((∀ j ∈ s.jobsOf n, j.phase = .held) →
            exec (.accountRetire p) s = .next (answeredOk 0x35 (le 1 (s.jobsOf n).length ++ leInt 4 a.balance)
              { s with bank := { s.bank with accounts := s.bank.accounts.filter fun e => e.1 ≠ n },
                       store := { s.store with records := s.store.records.filter (fun j => j.owner != n),
                                               expiry := s.store.expiry.filter (fun m => !(s.jobsOf n).any fun j => j.number == m) } }))

/-- ACCOUNT_ADJUST (R84): the balance becomes balance + amount, clamped to its range; the response gives it and the part not
applied; the exhausted flag clears when the account available has risen and is above 0. Reserved amounts and jobs stay. -/
def Obligations.AccountAdjustClampsTheBalance : Prop :=
  ∀ (s : State) (p : Payload), s.Receptive → p.length = 6 →
    let n := u16 p 0
    (s.bank.accounts.get? n = none → exec (.accountAdjust p) s = .next (answeredNo 0x34 .notFound [] s))
    ∧ ∀ a ∈ s.bank.accounts.get? n,
        let sum := a.balance + i32 p 2
        let b := if sum < -100000 then -100000 else if 2000000 < sum then 2000000 else sum
        let available := fun x : Int => x - a.reserved + (s.groupAt a.group).overdraft
        ∃ t, exec (.accountAdjust p) s = .next (answeredOk 0x34 (leInt 4 b ++ leInt 4 (sum - b)) t)
          ∧ t = { s with bank := { s.bank with accounts := t.bank.accounts } }
          ∧ (∀ m : Nat, m ≠ n → t.bank.accounts.get? m = s.bank.accounts.get? m)
          ∧ ∃ a' ∈ t.bank.accounts.get? n, a' = { a with balance := b, exhausted := a'.exhausted }
              ∧ (a'.exhausted = true ↔ a.exhausted = true ∧ ¬ (available a.balance < available b ∧ 0 < available b))

/-- GROUP_SET and PRICE_SET (R87, R89, R95): the group takes the request's fields and the pool its mode gives; a member's
exhausted flag clears when a higher overdraft leaves its account available above 0. Prices are clamped to 1 to 1,000. The
first field out of range is refused with its index. -/
def Obligations.GroupSetAndPriceSetStoreTheirFields : Prop :=
  ∀ (s : State) (p : Payload), s.Receptive → TablesOrdered s →
    let n := byteAt p 0
    let v := i32 p 2
    let bad := firstBadField [(0, 63 < n), (1, 2 < byteAt p 1),
      (2, (byteAt p 1 = 1 ∧ (v < 0 ∨ 16000000 < v)) ∨ (byteAt p 1 = 2 ∧ (v < -16000000 ∨ 16000000 < v))),
      (3, 16000000 < u32 p 6), (4, 16000000 < u32 p 10), (5, 100000 < u32 p 14), (6, byteAt p 18 < 1 ∨ 31 < byteAt p 18),
      (7, byteAt p 18 ≤ byteAt p 19)]
    (p.length = 20 → ∀ i ∈ bad, exec (.groupSet p) s = .next (answeredNo 0x36 .badField [BitVec.ofNat 8 i] s))
    ∧ (∀ pool : Nat, p.length = 20 → bad = none →
      let g := s.groupAt n
      let available := fun a : Account => a.balance - a.reserved + u32 p 14
      (byteAt p 1 = 0 ∧ pool = g.pool) ∨ (byteAt p 1 = 1 ∧ (pool : Int) = v)
        ∨ (byteAt p 1 = 2 ∧ (pool : Int) = min 16000000 (max 0 (g.pool + v))) →
      ∃ t, exec (.groupSet p) s = .next (answeredOk 0x36 (le 4 pool) t)
        ∧ t = { s with bank := { s.bank with groups := t.bank.groups, accounts := t.bank.accounts } }
        ∧ t.groupAt n = ⟨pool, g.reserved, u32 p 6, u32 p 10, u32 p 14, byteAt p 18, byteAt p 19⟩
        ∧ (∀ x : Nat, x ≠ n → t.groupAt x = s.groupAt x)
        ∧ ∀ m : Nat, ∀ a ∈ s.bank.accounts.get? m, ∃ a' ∈ t.bank.accounts.get? m, a' = { a with exhausted := a'.exhausted }
            ∧ (a'.exhausted = true ↔ a.exhausted = true ∧ ¬ (a.group = n ∧ g.overdraft < u32 p 14 ∧ 0 < available a)))
    ∧ (p.length = 9 →
      let clamped := fun v : Nat => if v = 0 then 1 else if 1000 < v then 1000 else v
      let q : Prices := ⟨clamped (u16 p 1), clamped (u16 p 3), clamped (u16 p 5), clamped (u16 p 7)⟩
      (7 < n → exec (.priceSet p) s = .next (answeredNo 0x38 .badField [0] s))
      ∧ (n ≤ 7 →
        ∃ t, exec (.priceSet p) s = .next (answeredOk 0x38 (le 2 q.monoA4 ++ le 2 q.colourA4 ++ le 2 q.monoA3 ++ le 2 q.colourA3) t)
          ∧ t = { s with bank := { s.bank with prices := t.bank.prices } }
          ∧ t.pricesAt n = q ∧ ∀ x : Nat, x ≠ n → t.pricesAt x = s.pricesAt x))

/-- Cost, reservation and settlement (R90, R92 to R94): the cost of a number of sides, by the price of the class, the colour
and the size, in whole cu with duplex in sixteenths rounded up, at most 2,000,000; its division between account and pool; and
what a settlement at the actual cost takes and returns after the reservation. -/
def Obligations.ReservationIsReturnedBySettlement : Prop :=
  ∀ (s : State) (n cost actual : Nat) (a : Account) (r : ReleaseInfo), TablesOrdered s → s.bank.accounts.get? n = some a → a.group ≤ 63 →
    let g := s.groupAt a.group
    let available := a.balance - a.reserved + g.overdraft
    let poolAvailable := (g.pool : Int) - g.reserved
    (∀ (cls : Nat) (size : Size) (print : Colour) (duplex : Bool) (sides : Nat),
      let q := s.pricesAt cls
      let price := if size = .a4 then (if print = .colour then q.colourA4 else q.monoA4)
        else (if print = .colour then q.colourA3 else q.monoA3)
      ∃ c, s.cost cls size print duplex sides = min 2000000 c ∧ (duplex = false → c = sides * price)
        ∧ (duplex = true → sides * price * s.params.duplexFactor ≤ 16 * c ∧ 16 * c < sides * price * s.params.duplexFactor + 16))
    ∧ (s.portions a cost = if (cost : Int) ≤ available then some (cost, 0)
      else if a.poolDraw = true ∧ 0 ≤ available ∧ (cost : Int) - available ≤ poolAvailable then
        some (available.toNat, cost - available.toNat) else none)
    ∧ (∀ uv ∈ s.portions a cost, uv.1 + uv.2 = cost)
    ∧ (r.cost = r.accountPortion + r.poolPortion → actual ≤ r.cost →
        let mid := addReservation n r.accountPortion r.poolPortion s
        let t := settle n r actual mid
        let charge := min actual r.accountPortion
        mid.bank.accounts.get? n = some { a with reserved := a.reserved + r.accountPortion }
        ∧ mid.groupAt a.group = { g with reserved := g.reserved + r.poolPortion }
        ∧ t.bank.accounts.get? n = some { a with balance := max (-100000) (a.balance - charge) }
        ∧ t.groupAt a.group = { g with pool := g.pool - (actual - charge) } ∧ actual - charge ≤ r.poolPortion
        ∧ t = { s with bank := t.bank }
        ∧ (∀ m : Nat, m ≠ n → t.bank.accounts.get? m = s.bank.accounts.get? m)
        ∧ ∀ m : Nat, m ≠ a.group → t.groupAt m = s.groupAt m)

/-! ### Jobs -/

/-- JOB_SUBMIT (R100 to R104): the job joins the store, its owner's list and the expiry order at their ends, HELD, under a
number no live job has and the next sequence, mono when its owner has no colour permission; the refusals come in the order of
R103, the first field out of range with its index. JOB_CANCEL (R107 to R109): a HELD job retires; a RELEASING one leaves the
dispatch order, gets its reservation back uncharged and retires; a PRINTING one is refused. -/
def Obligations.JobSubmitAndCancelChangeTheStore : Prop :=
  (∀ (s : State) (p : Payload), s.Receptive → p.length = 15 →
     let bad := firstBadField [(2, u16 p 6 < 1 ∨ 9999 < u16 p 6), (3, u16 p 8 < 1 ∨ 999 < u16 p 8), (4, 1 < byteAt p 10),
       (5, 1 < byteAt p 11), (7, 2 < byteAt p 13), (8, byteAt p 13 = 1 ∧ 63 < byteAt p 14)]
     (∀ i ∈ bad, exec (.jobSubmit p) s = .next (answeredNo 0x40 .badField [BitVec.ofNat 8 i] s))
     ∧ (bad = none → s.bank.accounts.get? (u16 p 0) = none → exec (.jobSubmit p) s = .next (answeredNo 0x40 .notFound [] s))
     ∧ ∀ a ∈ s.bank.accounts.get? (u16 p 0), bad = none →
       let may := a.role = .user ∧ a.suspended = false
       let room := (s.jobsOf (u16 p 0)).length < s.params.jobLimit
       let granted : Colour := if byteAt p 10 = 1 ∧ a.colour = true then .colour else .mono
       let forced := byteAt p 10 == 1 && !a.colour
       (a.role = .service → exec (.jobSubmit p) s = .next (answeredNo 0x40 .notPermitted [] s))
       ∧ (a.role = .user → a.suspended = true → exec (.jobSubmit p) s = .next (answeredNo 0x40 .state [] s))
       ∧ (may → ¬ room → exec (.jobSubmit p) s = .next (answeredNo 0x40 .limit [] s))
       ∧ (may → room → 2048 ≤ s.store.records.length → exec (.jobSubmit p) s = .next (answeredNo 0x40 .full [] s))
       ∧ (may → room → s.store.records.length < 2048 → byteAt p 13 = 0 → s.printers.get? (byteAt p 14) = none →
           exec (.jobSubmit p) s = .next (answeredNo 0x40 .notFound [] s))
       ∧ (may → room → s.store.records.length < 2048 → (byteAt p 13 = 0 → (s.printers.get? (byteAt p 14)).isSome = true) →
           ∃ t, exec (.jobSubmit p) s = .next (answeredOk 0x40
               (le 2 t.store.lastNumber ++ le 4 s.store.nextSeq.toNat ++ [granted.code] ++ flag forced) t)
             ∧ t = { s with store := t.store }
             ∧ (∀ j ∈ s.store.records, j.number ≠ t.store.lastNumber) ∧ 1 ≤ t.store.lastNumber ∧ t.store.lastNumber ≤ 65535
             ∧ t.store = ⟨s.store.records ++ [⟨t.store.lastNumber, s.store.nextSeq, u16 p 0, word p 2, u16 p 6, u16 p 8,
                   if byteAt p 10 = 1 then .colour else .mono, granted, forced, if byteAt p 11 = 1 then .a3 else .a4, flagAt p 12,
                   if byteAt p 13 = 0 then .specific (byteAt p 14) else if byteAt p 13 = 1 then .floor (byteAt p 14) else .any,
                   s.time.runSeconds, s.time.building, .held⟩],
                 t.store.lastNumber, s.store.nextSeq + 1, s.store.expiry ++ [t.store.lastNumber]⟩))
  ∧ (∀ (s : State) (p : Payload), s.Receptive → JobOrdersSound s → p.length = 2 →
       let n := u16 p 0
       (s.jobAt n = none → exec (.jobCancel p) s = .next (answeredNo 0x41 .notFound [] s))
       ∧ ∀ j ∈ s.jobAt n,
           let store := { s.store with records := s.store.records.filter (fun x => x.number != n), expiry := s.store.expiry.filter (· ≠ n) }
           (∀ r t, j.phase = .printing r t → exec (.jobCancel p) s = .next (answeredNo 0x41 .state [] s))
           ∧ (j.phase = .held → exec (.jobCancel p) s = .next (answeredOk 0x41 (0 :: le 4 j.spool.toNat) { s with store := store }))
           ∧ (∀ r, j.phase = .releasing r →
               exec (.jobCancel p) s = .next (answeredOk 0x41 (1 :: le 4 j.spool.toNat) { s with
                 store := store, bank := (settle j.owner r 0 s).bank,
                 release := { s.release with dispatch := s.release.dispatch.filter (· ≠ n) } })))

/-- JOB_READ and JOB_NEXT_OF (R110, R111, R182): a walk from 0 that passes each number back reads an owner's jobs in
submission order, each as JOB_READ does, and ends with EMPTY. A response is 55 bytes; the target value of an ANY target is
free (log entry 1), so nothing is said of that byte, and only the model's own counter for it changes. A number that is no
live job, no account, or no job of the account is refused with NOT_FOUND. -/
def Obligations.JobWalkReadsTheOwnersJobs : Prop :=
  (∀ (s : State) (a : Nat) (front rest : List Job) (j : Job), s.Receptive → JobOrdersSound s → a ≤ 65535 →
     (s.bank.accounts.get? a).isSome = true → s.jobsOf a = front ++ j :: rest →
     let prev := (front.getLast?.map Job.number).getD 0
     let ask := fun n : Nat => Instr.jobNextOf (le 2 a ++ le 2 n)
     ∃ (t : State) (b : Payload), exec (ask prev) s = .next (answeredOk 0x43 b t)
       ∧ exec (.jobRead (le 2 j.number)) s = .next (answeredOk 0x42 b t)
       ∧ t = { s with freeCount := t.freeCount } ∧ (j.target ≠ .any → t = s) ∧ b.length = 55
       ∧ b.take 22 = le 2 j.number ++ le 4 j.seq.toNat ++ le 2 a ++ le 4 j.spool.toNat ++ le 2 j.pages ++ le 2 j.copies
           ++ [j.requested.code, j.colour.code] ++ flag j.forcedMono ++ [j.size.code] ++ flag j.duplex ++ [j.target.code]
       ∧ (∀ q : Nat, j.target = .specific q ∨ j.target = .floor q → b.drop 22 = le 1 q ++ b.drop 23)
       ∧ b.drop 23 = le 4 j.submitRun.toNat ++ le 4 j.submitBuilding.toNat ++ [j.phase.code] ++ releaseFields j.phase.info?
           ++ le 4 j.phase.takenAt.toNat
       ∧ (rest = [] → exec (ask j.number) s = .next (answeredNo 0x43 .empty [] s)))
  ∧ (∀ (s : State) (p : Payload), s.Receptive →
       (p.length = 2 → s.jobAt (u16 p 0) = none → exec (.jobRead p) s = .next (answeredNo 0x42 .notFound [] s))
       ∧ (p.length = 4 → s.bank.accounts.get? (u16 p 0) = none → exec (.jobNextOf p) s = .next (answeredNo 0x43 .notFound [1] s))
       ∧ (p.length = 4 → (s.bank.accounts.get? (u16 p 0)).isSome = true → u16 p 2 ≠ 0 → (∀ j ∈ s.jobsOf (u16 p 0), j.number ≠ u16 p 2) →
           exec (.jobNextOf p) s = .next (answeredNo 0x43 .notFound [2] s))
       ∧ (p.length = 4 → (s.bank.accounts.get? (u16 p 0)).isSome = true → u16 p 2 = 0 → s.jobsOf (u16 p 0) = [] →
           exec (.jobNextOf p) s = .next (answeredNo 0x43 .empty [] s)))

/-! ### Stations and the station line -/

/-- STATION_SET and LINE_SET (R133, R135): binding, mode, redirect and counters of one station, refused in the order of R133;
the line settings, the disabling that abandons the exchange and empties every slot, and the enabling that makes a line with a
calendar FULL. With the apply flag clear LINE_SET only reports. That the disabling leaves the walk position where it is, and
reports it so, when it abandons a calendar exchange is the model's choice, log entry 24: R135 does not say. -/
def Obligations.StationSetAndLineSetStoreTheirSettings : Prop :=
  ∀ (s : State) (p : Payload), s.Receptive →
    (p.length = 6 → byteAt p 0 < 1 ∨ 126 < byteAt p 0 → exec (.stationSet p) s = .next (answeredNo 0x48 .badField [0] s))
    ∧ (p.length = 6 → 1 ≤ byteAt p 0 → byteAt p 0 ≤ 126 → 2 < byteAt p 3 →
        exec (.stationSet p) s = .next (answeredNo 0x48 .badField [3] s))
    ∧ (∀ mode : AcceptMode, p.length = 6 → 1 ≤ byteAt p 0 → byteAt p 0 ≤ 126 → (byteAt p 3, mode) ∈ [(0, .all), (1, .usersOnly), (2, .serviceOnly)] →
      (flagAt p 1 = true → s.printers.get? (byteAt p 2) = none → exec (.stationSet p) s = .next (answeredNo 0x48 .notFound [] s))
      ∧ ((flagAt p 1 = true → (s.printers.get? (byteAt p 2)).isSome = true) → ∀ st ∈ s.line.stations.get? (byteAt p 0),
          let bound := if flagAt p 1 then some (byteAt p 2) else none
          let count := fun w : Word => if flagAt p 5 then 0 else w
          ∃ t, exec (.stationSet p) s = .next (answeredOk 0x48 [] t)
            ∧ t = { s with line := { s.line with stations := t.line.stations } }
            ∧ (∀ x : Nat, x ≠ byteAt p 0 → t.line.stations.get? x = s.line.stations.get? x)
            ∧ t.line.stations.get? (byteAt p 0)
              = some { st with bound := bound, mode := mode, redirect := flagAt p 4, polls := count st.polls, good := count st.good, bad := count st.bad }))
    ∧ (p.length = 7 →
        let report := fun l : Line => flag l.enabled ++ le 4 l.rate.baud ++ le 1 l.window ++ [l.regime.code] ++ le 2 l.calendar.length
          ++ le 1 l.walk ++ flag l.answer.isSome ++ le 2 ((l.loading.map fun x => x.2.length).getD 0)
        (flagAt p 0 = false → exec (.lineSet p) s = .next (answeredOk 0x4B (report s.line) s))
        ∧ (flagAt p 0 = true → LineRate.ofBaud? (u32 p 2) = none → exec (.lineSet p) s = .next (answeredNo 0x4B .badField [2] s))
        ∧ ∀ rate ∈ LineRate.ofBaud? (u32 p 2), flagAt p 0 = true →
            (byteAt p 6 < 2 ∨ 50 < byteAt p 6 → exec (.lineSet p) s = .next (answeredNo 0x4B .badField [3] s))
            ∧ (2 ≤ byteAt p 6 → byteAt p 6 ≤ 50 →
                let l := { s.line with enabled := flagAt p 1, rate := rate, window := byteAt p 6 }
                let off := fun st : Station => if st.state = .unlisted then { st with slot := none }
                  else { st with state := .unknown, misses := 0, slot := none }
                (flagAt p 1 = s.line.enabled ∨ (flagAt p 1 = true ∧ s.line.calendar = []) →
                  exec (.lineSet p) s = .next (answeredOk 0x4B (report l) { s with line := l }))
                ∧ (flagAt p 1 = true → s.line.enabled = false → s.line.calendar ≠ [] →
                    let l' := { l with regime := .full, quietStamp := s.time.runSeconds, walk := 0, gap := none }
                    exec (.lineSet p) s = .next (answeredOk 0x4B (report l') { s with line := l' }))
                ∧ (flagAt p 1 = false → s.line.enabled = true →
                    let l' := { l with regime := .off, exchange := none, gap := none, answer := none,
                                       stations := s.line.stations.map fun e => (e.1, off e.2) }
                    exec (.lineSet p) s = .next (answeredOk 0x4B (report l') { s with line := l' }))))

/-- CALENDAR_SET (R131, R132): a first piece starts a pending calendar, a piece at its end continues it, any other is refused
with STATE. A payload too short for the fixed fields or too long for a frame (log entry 18), or a piece that runs beyond the
total count, is refused with BAD_LENGTH, a total count or an address out of range with its index, in the order of R131. A
complete calendar is installed: walk 0, newcomers UNKNOWN, leavers UNLISTED without message or token, the rest as they were,
and the regime set again. -/
def Obligations.CalendarSetLoadsAndInstalls : Prop :=
  ∀ (s : State) (p : Payload), s.Receptive →
    let total := u16 p 1
    let piece := (p.drop 3).map BitVec.toNat
    let listed := fun a : Nat => 1 ≤ a ∧ a ≤ 126
    let sound := 3 ≤ p.length ∧ p.length ≤ 60 ∧ total ≤ 256 ∧ (∀ a ∈ piece, listed a) ∧ byteAt p 0 + piece.length ≤ total
    let fits := byteAt p 0 = 0 ∨ ∃ l ∈ s.line.loading, l.1 = total ∧ l.2.length = byteAt p 0
    let cal := (if byteAt p 0 = 0 then [] else (s.line.loading.map Prod.snd).getD []) ++ piece
    (p.length < 3 ∨ 60 < p.length → exec (.calendarSet p) s = .next (answeredNo 0x4A .badLength [] s))
    ∧ (3 ≤ p.length → p.length ≤ 60 → 256 < total → exec (.calendarSet p) s = .next (answeredNo 0x4A .badField [1] s))
    ∧ (3 ≤ p.length → p.length ≤ 60 → total ≤ 256 → ∀ i ∈ List.range piece.length, ¬ listed (piece.getD i 0) →
        (∀ a ∈ piece.take i, listed a) → exec (.calendarSet p) s = .next (answeredNo 0x4A .badField [2, BitVec.ofNat 8 i] s))
    ∧ (3 ≤ p.length → p.length ≤ 60 → total ≤ 256 → (∀ a ∈ piece, listed a) → total < byteAt p 0 + piece.length →
        exec (.calendarSet p) s = .next (answeredNo 0x4A .badLength [] s))
    ∧ (sound → ¬ fits → exec (.calendarSet p) s = .next (answeredNo 0x4A .state [] s))
    ∧ (sound → fits → cal.length ≠ total → exec (.calendarSet p) s = .next (answeredOk 0x4A (le 2 cal.length ++ [0])
        { s with line := { s.line with loading := some (total, cal) } }))
    ∧ (sound → fits → cal.length = total →
        ∃ t, exec (.calendarSet p) s = .next (answeredOk 0x4A (le 2 cal.length ++ [1]) t) ∧ t = { s with line := t.line }
          ∧ (let toFull := cal ≠ [] ∧ s.line.enabled = true ∧ s.line.regime = .off
             t.line = { s.line with
               calendar := cal, walk := 0, loading := none, answer := t.line.answer, stations := t.line.stations,
               exchange := s.line.exchange.map fun ex =>
                 { ex with walkFixed := true, abandoned := ex.abandoned || !(cal.contains ex.station) },
               regime := if cal = [] then .off else if toFull then .full else s.line.regime,
               quietStamp := if toFull then s.time.runSeconds else s.line.quietStamp,
               gap := if cal = [] ∨ toFull then none else s.line.gap })
          ∧ t.line.calendar = cal ∧ t.line.walk = 0 ∧ t.line.loading = none ∧ t.line.enabled = s.line.enabled
          ∧ t.line.answer = s.line.answer.filter (fun x => x ∈ cal)
          ∧ (cal = [] → t.line.regime = .off) ∧ (cal ≠ [] → s.line.regime ≠ .off → t.line.regime = s.line.regime)
          ∧ (cal ≠ [] → s.line.enabled = true → s.line.regime = .off →
              t.line.regime = .full ∧ t.line.quietStamp = s.time.runSeconds)
          ∧ (∀ ex ∈ s.line.exchange, t.line.exchange = some { ex with
              walkFixed := true, abandoned := ex.abandoned || !(cal.contains ex.station) })
          ∧ ∀ x ∈ Table.keys s.line.stations, ∀ st ∈ s.line.stations.get? x,
              t.line.stations.get? x = some (
                if x ∈ s.line.calendar ∧ x ∉ cal then { st with state := .unlisted, slot := none, last := none, misses := 0 }
                else if x ∈ cal ∧ x ∉ s.line.calendar then { st with state := .unknown, misses := 0, pollCount := 0, badCount := 0, noisy := false }
                else st))

/-- CALENDAR_POLL and ANSWER_POLL (R117, R119, R122, R130): with no exchange in progress, an answer poll that is pending is
the next exchange, and otherwise the station at the walk position is polled. The exchange carries a copy of the slot's
message and keeps the rate and the window it begins with. DE is asserted from its begin. -/
def Obligations.PollsBeginAnExchange : Prop :=
  ∀ s : State, s.Settled → s.line.exchange = none →
    let begun := fun (x : Nat) (answer : Bool) => Exchange.mk x answer (s.stationAt x).slot
      (lineFrame x 0x10 (((s.stationAt x).slot.map Message.bytes).getD [])) (some 0) s.line.rate s.line.window false false
    s.de = false
    ∧ (∀ x ∈ s.line.answer,
      let t := { s with line := { s.line with exchange := some (begun x true), gap := none, answer := none } }
      exec .answerPoll s = .next t ∧ t.de = true ∧ exec .calendarPoll s = .next s)
    ∧ (s.line.answer = none → s.line.regime ≠ .off → ∀ x ∈ s.line.calendar[s.line.walk]?,
        let t := { s with line := { s.line with exchange := some (begun x false), gap := none } }
        exec .calendarPoll s = .next t ∧ t.de = true ∧ exec .answerPoll s = .next s)

/-- STATION_REPLY, MISS and LATE_REPLY (R120 to R123, R125, R127, R132): the end of an exchange is judged by its characters,
as a miss or as a bad frame. The station's counters, liveness and noise window follow in the order of R125, STATION_LOST and
STATION_NOISY are set on entry, and a calendar exchange moves the walk. An abandoned exchange touches no station. An IDLE
empties the slot when its message is still the one the poll carried; that equal contents are the same message is the model's,
log entry 19. Nothing but the line and, for its two causes, the cause word changes unless a PRESENT is taken. A calendar
exchange that ends in SPARSE is followed by the gap (R123); that an abandoned one is too is the model's, log entry 21. An
exchange whose poll is still being transmitted is ended by the command too: log entry 10. -/
def Obligations.ExchangeEndUpdatesTheStation : Prop :=
  ∀ (s : State) (c : Instr) (v : Verdict) (ex : Exchange) (st : Station) (chars : List Byte), s.Settled → s.line.exchange = some ex →
    s.line.stations.get? ex.station = some st → st.pollCount ≤ 255 → chars ≠ [] →
    (c = .miss ∧ v = .miss) ∨ (c = .lateReply chars ∧ v = .badFrame) ∨ (c = .stationReply chars ∧ v = judgeReply ex.station chars) →
    let misses := if v.good then 0 else min 15 (st.misses + 1)
    let lost := v.good = false ∧ st.state ≠ .lost ∧ s.params.missLimit ≤ misses
    let badCount := if v = .badFrame then min 255 (st.badCount + 1) else st.badCount
    let noisyNow := v = .badFrame ∧ s.params.noiseLimit ≤ badCount
    let next := if s.line.walk + 1 < s.line.calendar.length then s.line.walk + 1 else 0
    ∃ t, exec c s = .next t ∧ t.line.exchange = none ∧ t.de = false ∧ t.line.calendar = s.line.calendar
      ∧ t.line.walk = (if ex.answer || ex.walkFixed then s.line.walk else next)
      ∧ (∀ x : Nat, x ≠ ex.station → t.line.stations.get? x = s.line.stations.get? x)
      ∧ (ex.abandoned = true → t.line.stations = s.line.stations ∧ t.port = s.port)
      ∧ (ex.abandoned = false → ∃ st' ∈ t.line.stations.get? ex.station,
          st' = { st' with bound := st.bound, mode := st.mode, redirect := st.redirect, polls := st.polls + 1, misses := misses,
                           good := st.good + (if v.good then 1 else 0), bad := st.bad + (if v = .badFrame then 1 else 0) }
          ∧ (v.good = true → st'.state = .alive) ∧ (lost → st'.state = .lost ∧ st'.slot = none ∧ t.hasCause .stationLost = true)
          ∧ (v.good = false → ¬ lost → st'.state = st.state ∧ st'.slot = st.slot)
          ∧ (v = .idle → st'.slot = if ex.carried.isSome ∧ st.slot = ex.carried then none else st.slot)
          ∧ (st.pollCount = 255 → st'.pollCount = 0 ∧ st'.badCount = 0
              ∧ (st'.noisy = true ↔ (st.noisy = true ∨ noisyNow) ∧ s.params.noiseLimit ≤ badCount))
          ∧ (st.pollCount < 255 → st'.pollCount = st.pollCount + 1 ∧ st'.badCount = badCount
              ∧ (st'.noisy = true ↔ st.noisy = true ∨ noisyNow))
          ∧ (noisyNow → st.noisy = false → t.hasCause .stationNoisy = true)
          ∧ (v = .idle ∨ v = .badFrame ∨ v = .miss → st'.last = st.last))
      ∧ t.line = { s.line with exchange := none, stations := t.line.stations, walk := t.line.walk, gap := t.line.gap,
                               regime := t.line.regime, quietStamp := t.line.quietStamp, answer := t.line.answer }
      ∧ t.port = { s.port with sticky := t.port.sticky }
      ∧ (ex.abandoned = true ∨ v = .idle ∨ v = .badFrame ∨ v = .miss →
          t = { s with line := t.line, port := t.port }
          ∧ t.line.regime = s.line.regime ∧ t.line.quietStamp = s.line.quietStamp ∧ t.line.answer = s.line.answer
          ∧ t.line.gap = (if ex.answer = false ∧ s.line.regime = .sparse then some s.params.sparseGap else s.line.gap)
          ∧ (t.hasCause .stationLost = true ↔ s.hasCause .stationLost = true ∨ (ex.abandoned = false ∧ lost))
          ∧ (t.hasCause .stationNoisy = true ↔ s.hasCause .stationNoisy = true ∨ (ex.abandoned = false ∧ noisyNow ∧ st.noisy = false))
          ∧ ∀ x : Cause, x ≠ .stationLost → x ≠ .stationNoisy → t.hasCause x = s.hasCause x)

/-- A good PRESENT (R40, R126, R128 to R130, R139, R140): a guarded repeat only renews the last run second and, as every good
reply does, empties the slot of the message that its poll carried while that is still the slot's message (R125; log entry
19). Otherwise the line is FULL, an answer poll is pending, and the message in the slot is the one the first line of the
table of R128 that applies gives. A SUSPENDED user is counted and turned away. For an ACTIVE user the release decision is
that of a RELEASE_REQUEST at the target: the bound printer, or with redirect the least loaded of its floor that accepts
releases. A service presentation acknowledges a RAISED ticket and closes a RESOLVED one as the requests do. The reply ends
the exchange also while its poll is still being transmitted: log entry 10. -/
def Obligations.PresentationIsGuardedAndRouted : Prop :=
  ∀ (s : State) (ex : Exchange) (st : Station) (token : Word) (chars : List Byte), s.Settled → s.line.exchange = some ex →
    ex.abandoned = false → s.line.stations.get? ex.station = some st → judgeReply ex.station chars = .present token → chars ≠ [] →
    let guarded := ∃ l ∈ st.last, l.1 = token ∧ (s.time.runSeconds - l.2).toNat < s.params.repeatGuard
    let held := st.bound.getD 0
    let accepts := fun x : Printer => x.state = .ready ∨ x.state = .impaired
    let asked := { s with port := { s.port with phase := .ready resetResponse },
                          release := { s.release with presentations := s.release.presentations + 1 } }
    ∃ t, exec (.stationReply chars) s = .next t
      ∧ t = { s with line := t.line, release := t.release, store := t.store, bank := t.bank, callout := t.callout,
                     printers := t.printers, port := t.port }
      ∧ ∃ st' ∈ t.line.stations.get? ex.station,
      st'.last = some (token, s.time.runSeconds)
      ∧ (guarded → st'.slot = (if ex.carried.isSome ∧ st.slot = ex.carried then none else st.slot)
          ∧ t.line.answer = s.line.answer ∧ t.line.regime = s.line.regime ∧ t.line.quietStamp = s.line.quietStamp
          ∧ t.release = s.release ∧ t.store = s.store ∧ t.bank = s.bank ∧ t.callout = s.callout ∧ t.printers = s.printers)
      ∧ (¬ guarded → t.line.answer = some ex.station ∧ t.line.regime = .full ∧ t.line.quietStamp = s.time.runSeconds
          ∧ (s.badge token = none → st'.slot = some ⟨.unknownBadge, 0, 0, held, 0⟩ ∧ t.release = s.release ∧ t.callout = s.callout)
          ∧ ∀ e ∈ s.badge token,
              let refused := (e.2.role = .service ∧ st.mode = .usersOnly) ∨ (e.2.role = .user ∧ st.mode = .serviceOnly)
              (refused → st'.slot = some ⟨.notAccepted, 0, 0, held, 0⟩ ∧ t.release = s.release ∧ t.callout = s.callout)
              ∧ (¬ refused → st.bound = none → st'.slot = some ⟨.notBound, 0, 0, 0, 0⟩ ∧ t.release = s.release ∧ t.callout = s.callout)
              ∧ (refused ∨ st.bound = none ∨ e.2.role = .service → t.store = s.store ∧ t.bank = s.bank ∧ t.release = s.release)
              ∧ (refused ∨ st.bound = none ∨ e.2.role = .user → t.callout = s.callout ∧ t.printers = s.printers)
              ∧ ∀ q ∈ st.bound,
                  (¬ refused → e.2.role = .user → s.bank.accounts.get? e.1 = some e.2 → e.2.suspended = true →
                    st'.slot = some ⟨.suspended, 0, 0, q, 0⟩ ∧ t.release = asked.release ∧ t.store = s.store ∧ t.bank = s.bank)
                  ∧ (¬ refused → TablesOrdered s → e.2.role = .user → s.bank.accounts.get? e.1 = some e.2 → e.2.suspended = false →
                      ∀ pr ∈ s.printers.get? q, ∀ x ∈ Table.keys s.printers,
                      let near := fun y : Nat × Printer => y.2.floor = pr.floor ∧ accepts y.2
                      (accepts pr ∧ x = q) ∨ (¬ accepts pr ∧ (st.redirect = false ∨ ∀ y ∈ s.printers, ¬ near y) ∧ x = q)
                        ∨ (¬ accepts pr ∧ st.redirect = true ∧ (∃ y ∈ s.printers, y.1 = x ∧ near y) ∧ ∀ y ∈ s.printers, near y →
                            s.inflightCount x < s.inflightCount y.1 ∨ (s.inflightCount x = s.inflightCount y.1 ∧ x ≤ y.1)) →
                      ∃ (u : State) (m : Message), st'.slot = some m
                        ∧ exec (.releaseRequest (le 2 e.1 ++ le 1 x ++ le 2 0)) asked = .next (answeredOk 0x50
                            ([m.outcome.code] ++ le 1 m.released ++ le 1 m.remaining ++ le 1 m.printer ++ le 2 m.ticket) u)
                        ∧ t.store = u.store ∧ t.bank = u.bank ∧ t.release = u.release ∧ t.port.sticky = u.port.sticky)
                  ∧ (¬ refused → e.2.role = .service → s.ticketOf q = none →
                      st'.slot = some ⟨.noCallout, 0, 0, q, 0⟩ ∧ t.callout = s.callout ∧ t.printers = s.printers)
                  ∧ (¬ refused → e.2.role = .service → TablesOrdered s → ∀ k ∈ s.ticketOf q,
                      (k.2.state = .raised → st'.slot = some ⟨.serviceAck, 0, 0, q, k.1⟩ ∧ ∃ u,
                        exec (.ticketAck (le 2 k.1)) asked = .next (answeredOk 0x18 (1 :: le 1 (severityOf k.2.causes)) u)
                        ∧ t.callout = u.callout ∧ t.printers = s.printers)
                      ∧ (∀ v : Nat, k.2.state = .acked v →
                          st'.slot = some ⟨.serviceAck, 0, 0, q, k.1⟩ ∧ t.callout = s.callout ∧ t.printers = s.printers)
                      ∧ (k.2.state = .resolved → st'.slot = some ⟨.serviceClosed, 0, 0, q, k.1⟩ ∧ ∃ u,
                          exec (.ticketClose (le 2 k.1)) asked = .next (answeredOk 0x19 [] u)
                          ∧ t.callout = u.callout ∧ t.printers = u.printers ∧ t.port.sticky = u.port.sticky)))

/-- Frames of the station line (R118, R121): the frame of an IDLE and of a PRESENT of the station polled is judged good, with
its token most significant byte first, whatever follows it; from another address, cut short, or with a wrong start, kind or
CRC it is a bad frame. A character is 10 bit times (R117): a start bit, the 8 data bits with the least significant first and
no parity, and a stop bit; it is read back from the levels whatever idle stands before it and after it. While DE is asserted
TXD gives the bits of the poll one after another, each for one bit time, and otherwise it is idle. The levels of start bit,
stop bit and idle are log entry 27 (PRESUMED), the CLKIN periods of a bit time log entry 25 (DEDUCED). -/
def Obligations.LineFramesAreJudgedByTheirContents : Prop :=
  (∀ (x y : Nat) (a b c d kind : Byte) (payload rest : List Byte), x ≤ 255 → y ≤ 255 → payload.length ≤ 8 →
     judgeReply x (lineFrame x 0x01 [] ++ rest) = .idle
     ∧ judgeReply x (lineFrame x 0x02 [a, b, c, d] ++ rest) = .present (a ++ b ++ c ++ d)
     ∧ (y ≠ x → judgeReply x (lineFrame y kind payload ++ rest) = .badFrame)
     ∧ (¬ (kind = 0x01 ∧ payload = []) → ¬ (kind = 0x02 ∧ payload.length = 4) → judgeReply x (lineFrame x kind payload) = .badFrame)
     ∧ (∀ n < (lineFrame x kind payload).length, judgeReply x ((lineFrame x kind payload).take n) = .badFrame)
     ∧ (a ≠ 0xC3 → judgeReply x (a :: (lineFrame x kind payload).tail ++ rest) = .badFrame)
     ∧ (∀ e f : Byte, [e, f] ≠ crcBytes (BitVec.ofNat 8 x :: kind :: BitVec.ofNat 8 payload.length :: payload) →
         judgeReply x (0xC3 :: BitVec.ofNat 8 x :: kind :: BitVec.ofNat 8 payload.length :: (payload ++ [e, f])) = .badFrame)
     ∧ crc16 [0x31, 0x32, 0x33, 0x34, 0x35, 0x36, 0x37, 0x38, 0x39] = 0x29B1#16)
  ∧ ((∀ cs : List Byte,
       (lineBits cs).length = 10 * cs.length
       ∧ (∀ i < cs.length, ∀ b ∈ cs[i]?, (lineBits cs)[10 * i]? = some false ∧ (lineBits cs)[10 * i + 9]? = some true
           ∧ ∀ j < 8, (lineBits cs)[10 * i + 1 + j]? = some (b.getLsbD j))
       ∧ readChars (lineBits cs) = some cs
       ∧ ∀ (n m : Nat) (rest : List Byte),
           readChars (List.replicate n true ++ lineBits cs ++ List.replicate m true ++ lineBits rest) = some (cs ++ rest))
     ∧ ∀ s : State,
       let bitTime := fun r : LineRate => match r with
         | .b38400 => 651
         | .b115200 => 217
         | .b250000 => 100
       (s.de = false → s.txd = true)
       ∧ (s.de = true → ∀ ex ∈ s.line.exchange, ∀ k ∈ ex.sending, ∀ b ∈ (lineBits ex.frame)[k / bitTime ex.rate]?, s.txd = b))

/-! ### Release and dispatch -/

/-- RELEASE_REQUEST (R93, R95, R138, R140 to R145): of the candidates of an ACTIVE user at a printer that accepts releases,
the oldest are released one after another, each with its grants, the cost they give it and the portions its account and its
pool hold, counting those reserved before it. The walk stops short of the candidates only after RELEASE_BATCH jobs, at
PRINTER_INFLIGHT (BUSY when none was released), or at a job whose reservation is refused (QUOTA when none was released; the
account is then exhausted). The jobs join the dispatch order oldest first, the rest stay HELD, and the response says how many
of each. -/
def Obligations.ReleaseReleasesTheOldestCandidates : Prop :=
  ∀ (s : State) (p : Payload) (acc : Account) (pr : Printer), s.Receptive → JobOrdersSound s → p.length = 5 →
    s.bank.accounts.get? (u16 p 0) = some acc → acc.role = .user → acc.suspended = false →
    s.printers.get? (byteAt p 2) = some pr → pr.state = .ready ∨ pr.state = .impaired →
    u16 p 3 = 0 ∨ (∃ j ∈ s.jobAt (u16 p 3), j.owner = u16 p 0) →
    let q := byteAt p 2
    let suits := fun j : Job => j.phase = .held ∧ (u16 p 3 = 0 ∨ u16 p 3 = j.number) ∧ (j.size = .a4 ∨ pr.caps.a3 = true)
      ∧ (j.target = .specific q ∨ j.target = .floor pr.floor ∨ j.target = .any)
    let cands := (s.jobsOf (u16 p 0)).filter fun j => decide (suits j)
    let granted := fun j : Job =>
      if j.colour = .colour ∧ pr.caps.colour = true ∧ pr.colourUnavailable s.params.emptyLevel = false then Colour.colour else .mono
    let duplex := fun j : Job => j.duplex && pr.caps.duplex
    let cost := fun j : Job => s.cost pr.costClass j.size (granted j) (duplex j) (j.pages * j.copies)
    let divided := fun (u : State) (j : Job) => (u.bank.accounts.get? (u16 p 0)).bind fun a => u.portions a (cost j)
    let after := fun i : Nat => (cands.take i).foldl
      (fun u j => ((divided u j).map fun xy => addReservation (u16 p 0) xy.1 xy.2 u).getD u) s
    (cands = [] → exec (.releaseRequest p) s = .next (answeredOk 0x50 [0x02, 0, 0, BitVec.ofNat 8 q, 0, 0] s))
    ∧ (cands ≠ [] →
        ∃ t, ∃ n ∈ List.range (cands.length + 1),
          let full := s.params.printerInflight ≤ s.inflightCount q + n
          let refused := n < cands.length ∧ n < s.params.releaseBatch ∧ ¬ full
          let released := (cands.take n).map Job.number
          let outcome : Byte := if n ≠ 0 ∨ s.params.releaseBatch = 0 then 0x01 else if full then 0x04 else 0x03
          exec (.releaseRequest p) s = .next (answeredOk 0x50 ([outcome] ++ le 1 n ++ le 1 (cands.length - n) ++ le 1 q ++ le 2 0) t)
          ∧ t = { s with store := t.store, release := t.release, bank := t.bank, port := t.port }
          ∧ n ≤ s.params.releaseBatch ∧ (1 ≤ n → s.inflightCount q + n ≤ s.params.printerInflight)
          ∧ (refused → ∀ j ∈ cands[n]?, divided (after n) j = none)
          ∧ (∀ i ∈ List.range n, ∀ j ∈ cands[i]?, ∃ xy ∈ divided (after i) j, ∃ j' ∈ t.jobAt j.number,
              j' = { j with phase := .releasing ⟨q, granted j, duplex j, cost j, xy.1, xy.2, s.time.runSeconds⟩ })
          ∧ t.store = { s.store with records := t.store.records, expiry := s.store.expiry.filter fun m => m ∉ released }
          ∧ t.store.records.map (fun j => { j with phase := .held }) = s.store.records.map (fun j => { j with phase := .held })
          ∧ (∀ j ∈ s.store.records, j.number ∉ released → j ∈ t.store.records)
          ∧ t.release = { s.release with dispatch := s.release.dispatch ++ released,
                                         releases := s.release.releases + BitVec.ofNat 32 n }
          ∧ t.bank = { (after n).bank with accounts := t.bank.accounts }
          ∧ (∀ m : Nat, m ≠ u16 p 0 → t.bank.accounts.get? m = s.bank.accounts.get? m)
          ∧ (∀ a ∈ (after n).bank.accounts.get? (u16 p 0),
              t.bank.accounts.get? (u16 p 0) = some { a with exhausted := a.exhausted || decide refused })
          ∧ (t.hasCause .quotaExhausted = true ↔ s.hasCause .quotaExhausted = true ∨ (refused ∧ acc.exhausted = false)))

/-- RELEASE_REQUEST turned away (R139, R140, R145): the checks in their order, and the outcomes SUSPENDED and UNAVAILABLE,
which change nothing. UNAVAILABLE names the printer's ticket. -/
def Obligations.ReleaseIsTurnedAway : Prop :=
  ∀ (s : State) (p : Payload), s.Receptive → p.length = 5 →
    let acc := s.bank.accounts.get? (u16 p 0)
    let pr := s.printers.get? (byteAt p 2)
    let known := u16 p 3 = 0 ∨ ∃ j ∈ s.jobAt (u16 p 3), j.owner = u16 p 0
    (acc = none → exec (.releaseRequest p) s = .next (answeredNo 0x50 .notFound [1] s))
    ∧ ∀ a ∈ acc,
        (a.role = .service → exec (.releaseRequest p) s = .next (answeredNo 0x50 .notPermitted [] s))
        ∧ (a.role = .user → pr = none → exec (.releaseRequest p) s = .next (answeredNo 0x50 .notFound [2] s))
        ∧ (a.role = .user → pr.isSome = true → ¬ known → exec (.releaseRequest p) s = .next (answeredNo 0x50 .notFound [3] s))
        ∧ (a.role = .user → pr.isSome = true → known → a.suspended = true →
            exec (.releaseRequest p) s = .next (answeredOk 0x50 [0x06, 0, 0, BitVec.ofNat 8 (byteAt p 2), 0, 0] s))
        ∧ (a.role = .user → known → a.suspended = false → ∀ x ∈ pr, x.state ≠ .ready → x.state ≠ .impaired →
            exec (.releaseRequest p) s = .next (answeredOk 0x50 ([0x05, 0, 0, BitVec.ofNat 8 (byteAt p 2)]
              ++ le 2 (((s.ticketOf (byteAt p 2)).map Prod.fst).getD 0)) s))

/-- DISPATCH_TAKE (R147): the first job of the dispatch order leaves it and is PRINTING from the current run second on; its
fields and its reservation are kept, and the response describes the print. With an empty order the answer is EMPTY. -/
def Obligations.DispatchTakePrintsTheFirstJob : Prop :=
  ∀ (s : State) (p : Payload), s.Receptive → JobOrdersSound s → p.length = 0 →
    (s.release.dispatch = [] → exec (.dispatchTake p) s = .next (answeredNo 0x51 .empty [] s))
    ∧ ∀ (n : Nat) (rest : List Nat), s.release.dispatch = n :: rest →
        ∃ j ∈ s.store.records, ∃ r ∈ j.phase.info?, j.number = n
          ∧ exec (.dispatchTake p) s = .next (answeredOk 0x51 (le 2 n ++ le 4 j.spool.toNat ++ le 1 r.printer ++ le 2 j.copies
              ++ [r.colour.code] ++ flag r.duplex) { s with
              release := { s.release with dispatch := rest },
              store := { s.store with records := s.store.records.map fun x =>
                if x.number = n then { x with phase := .printing r s.time.runSeconds } else x } })

/-- JOB_DONE (R91, R94, R106, R107, R150 to R152): sides are limited to the job's, the actual cost to the job's cost; the
printer and the histogram bucket of the sides count the completion; the job retires, or with FAILED and the requeue flag is
HELD again, in the expiry order immediately before the first job that is newer than it. The refusals come in the order of
R150: an outcome that is neither OK nor FAILED, a number of no live job, a job that is not PRINTING. -/
def Obligations.JobDoneSettlesAndCounts : Prop :=
  ∀ (s : State) (p : Payload), s.Receptive → JobOrdersSound s → p.length = 8 →
    (1 < byteAt p 6 → exec (.jobDone p) s = .next (answeredNo 0x52 .badField [2] s))
    ∧ (byteAt p 6 ≤ 1 → s.jobAt (u16 p 0) = none → exec (.jobDone p) s = .next (answeredNo 0x52 .notFound [] s))
    ∧ ∀ j ∈ s.jobAt (u16 p 0), byteAt p 6 ≤ 1 →
        ((∀ r u, j.phase ≠ .printing r u) → exec (.jobDone p) s = .next (answeredNo 0x52 .state [] s))
        ∧ (∀ r u, j.phase = .printing r u → ∀ pr ∈ s.printers.get? r.printer,
            let n := min (u32 p 2) (j.pages * j.copies)
            let c := min r.cost (s.cost pr.costClass j.size r.colour r.duplex n)
            let charge := min c r.accountPortion
            let again := byteAt p 6 = 1 ∧ flagAt p 7 = true
            let bucket := if n ≤ 1 then 0 else if n ≤ 10 then 1 else if n ≤ 50 then 2 else if n ≤ 200 then 3 else if n ≤ 1000 then 4 else 5
            ∃ t, exec (.jobDone p) s = .next (answeredOk 0x52 (le 4 n ++ le 4 c ++ le 4 charge ++ le 4 (c - charge) ++ flag (decide again)) t)
              ∧ t = { s with bank := (settle j.owner r c s).bank, printers := t.printers, store := t.store, release := t.release }
              ∧ t.release = { s.release with histogram := t.release.histogram }
              ∧ (∀ i ∈ List.range 6, t.release.histogram.toList[i]?
                  = s.release.histogram.toList[i]?.map fun w => if i = bucket then w + 1 else w)
              ∧ t.printers.get? r.printer = some { pr with
                  jobsCompleted := pr.jobsCompleted + 1, sidesCompleted := pr.sidesCompleted + BitVec.ofNat 32 n }
              ∧ (∀ x : Nat, x ≠ r.printer → t.printers.get? x = s.printers.get? x)
              ∧ (¬ again → t.store = { s.store with records := s.store.records.filter (fun x => x.number != j.number) })
              ∧ (again → t.store = { s.store with expiry := t.store.expiry, records := s.store.records.map fun x =>
                    if x.number = j.number then { x with phase := .held } else x }
                  ∧ ∃ front back, s.store.expiry = front ++ back ∧ t.store.expiry = front ++ j.number :: back
                      ∧ (∀ m ∈ front, ∀ i ∈ s.jobAt m, olderSeq j.seq i.seq = false)
                      ∧ ∀ m ∈ back.head?, ∃ i ∈ s.jobAt m, olderSeq j.seq i.seq = true))

/-! ### Reads -/

/-- The reads of the Time Base, printers, cartridges and tickets (R9, R39, R61, R163, R182): the fields as they stand, in the
layout of the response, and no state changes. NEXT answers for the lowest number above the one given, and EMPTY beyond the
last. -/
def Obligations.ReadsOfThePrinterSideReportTheRecords : Prop :=
  ∀ (s : State) (n m : Nat), s.Receptive → n ≤ 255 → m ≤ 65535 →
    (∃ b : Payload, exec (.timeRead []) s = .next (answeredOk 0x0A b s) ∧ b.length = 25
      ∧ b.take 10 = le 4 s.time.building.toNat ++ le 4 s.time.runSeconds.toNat ++ le 2 s.time.day.toNat
      ∧ (b.drop 10).take 6 = optional 2 (s.time.lastSwept.map BitVec.toNat) ++ [s.time.mode.code] ++ flag s.time.sweep.isSome
          ++ flag s.time.queued
      ∧ (s.time.sweep = none → (b.drop 16).take 4 = [0, 0, 0, 0])
      ∧ (∀ q < 256, s.time.sweep = some (.printers q) → (b.drop 16).take 4 = [1, 1, BitVec.ofNat 8 q, 0])
      ∧ (∀ q < 256, s.time.sweep = some (.groups q) → (b.drop 16).take 4 = [2, 2, BitVec.ofNat 8 q, 0])
      ∧ (∀ q ≤ 65535, s.time.sweep = some (.accounts q) → ∀ e ∈ s.bank.accounts.above q, (b.drop 16).take 4 = [2, 3] ++ le 2 e.1)
      ∧ (∀ q < 256, s.time.sweep = some (.types q) → (b.drop 16).take 4 = [3, 4, BitVec.ofNat 8 q, 0])
      ∧ b.drop 20 = le 1 s.time.span ++ le 2 s.time.opening.toNat ++ le 2 s.time.closing.toNat)
    ∧ (s.printers.get? n = none → exec (.printerRead (le 1 n)) s = .next (answeredNo 0x12 .notFound [] s)
        ∧ exec (.cartridgeRead (le 1 n)) s = .next (answeredNo 0x20 .notFound [] s))
    ∧ (∀ pr ∈ s.printers.get? n,
        exec (.printerRead (le 1 n)) s = .next (answeredOk 0x12 (le 1 pr.floor ++ le 1 pr.costClass
          ++ [(if pr.caps.colour then 1 else 0) + (if pr.caps.duplex then 2 else 0) + (if pr.caps.a3 then 4 else 0)]
          ++ le 1 pr.slots.length ++ (pr.slots.map fun c => le 1 c.type).flatten ++ [pr.state.code]
          ++ le 2 (pr.reported.map fun k => 2 ^ k.number).sum
          ++ optional 4 (pr.monoBase.map BitVec.toNat) ++ optional 4 (pr.colourBase.map BitVec.toNat)
          ++ le 2 pr.pMono ++ le 2 pr.pColour ++ le 4 pr.lastReport.toNat ++ flag pr.rebase ++ flag pr.deferred
          ++ le 2 (((s.ticketOf n).map Prod.fst).getD 0) ++ le 4 pr.jobsCompleted.toNat ++ le 4 pr.sidesCompleted.toNat
          ++ le 4 pr.jobsAbandoned.toNat ++ le 1 (s.inflightCount n)) s)
        ∧ exec (.cartridgeRead (le 1 n)) s = .next (answeredOk 0x20 (pr.slots.mapIdx fun i c => le 1 i ++ le 1 c.type
          ++ le 2 c.level ++ le 2 c.dayStart ++ [(if c.stale then 1 else 0) + (if c.void then 2 else 0)
            + (if c.wanted then 4 else 0) + (if c.eSeeded then 8 else 0) + (if c.qSeeded then 16 else 0)]
          ++ le 2 c.coverage ++ le 2 c.pageRate ++ le 2 c.forecast).flatten s))
    ∧ (
        let causes := fun k : Ticket => (k.causes.map fun c => [BitVec.ofNat 8 c.1.number, BitVec.ofNat 8 c.2]).flatten
        let told := fun e : Nat × Ticket => le 2 e.1 ++ le 1 e.2.printer ++ [e.2.state.code] ++ le 1 (severityOf e.2.causes)
          ++ le 1 e.2.level ++ flag e.2.nonAuto ++ le 4 e.2.raised.toNat ++ le 4 e.2.point.toNat
          ++ le 1 (e.2.acknowledged.getD 0) ++ le 1 e.2.causes.length ++ causes e.2
        (∀ k ∈ s.callout.tickets.get? m, exec (.ticketRead (le 2 m)) s = .next (answeredOk 0x1A (told (m, k)) s))
        ∧ (s.callout.tickets.get? m = none → exec (.ticketRead (le 2 m)) s = .next (answeredNo 0x1A .notFound [] s))
        ∧ (Table.Sorted s.callout.tickets → ∀ k ∈ s.callout.tickets, m < k.1 → (∀ e ∈ s.callout.tickets, m < e.1 → k.1 ≤ e.1) →
            exec (.ticketNext (le 2 m)) s = .next (answeredOk 0x1B (told k) s))
        ∧ ((∀ e ∈ s.callout.tickets, e.1 ≤ m) → exec (.ticketNext (le 2 m)) s = .next (answeredNo 0x1B .empty [] s)))

/-- The reads of stock, accounts, groups and stations (R59, R66, R76, R83, R88, R134, R182): the fields and the derived
counts as they stand, the number of a type's cartridge records that are marked WANTED, the number and the count of its OPEN
requisitions and the count of its CONFIRMED ones among them, and no state changes. The bytes of a station's message are in
the order of R119, which is the model's (log entry 20). -/
def Obligations.ReadsOfTheBudgetSideReportTheRecords : Prop :=
  ∀ (s : State) (n m : Nat) (token : Word), s.Receptive → n ≤ 255 → m ≤ 65535 →
    (63 < n → exec (.typeRead (le 1 n)) s = .next (answeredNo 0x29 .badField [0] s)
      ∧ exec (.groupRead (le 1 n)) s = .next (answeredNo 0x37 .badField [0] s))
    ∧ (n ≤ 63 → ∃ b : Payload, exec (.typeRead (le 1 n)) s = .next (answeredOk 0x29 b s) ∧ b.length = 16
        ∧ (let wanted := (s.printers.map fun e => e.2.slots.countP fun c => c.wanted && c.type == n).sum
           b.take 3 = flag (s.stock.types.get? n).isSome ++ le 2 wanted)
        ∧ (∀ ty ∈ s.stock.types.get? n, (b.drop 3).take 7
            = le 1 ty.shelf ++ le 1 ty.reserve ++ le 1 ty.pack ++ le 1 ty.lead ++ le 1 ty.margin ++ flag ty.holdOff ++ flag ty.pending)
        ∧ (s.stock.types.get? n = none → (b.drop 3).take 7 = [0, 0, 0, 0, 0, 0, 0])
        ∧ (b.drop 10).take 2 = le 2 ((s.stock.reqs.map fun e => if e.2.type = n then e.2.quantity else 0).sum)
        ∧ (let opened := s.stock.reqs.filter fun e => e.2.type == n && e.2.confirmDay.isNone
           b.drop 12 = le 2 ((opened.head?.map Prod.fst).getD 0) ++ le 1 opened.length
             ++ le 1 (s.stock.reqs.countP fun e => e.2.type == n && e.2.confirmDay.isSome)))
    ∧ (n ≤ 63 →
        let g := s.groupAt n
        exec (.groupRead (le 1 n)) s = .next (answeredOk 0x37 (le 4 g.pool ++ le 4 g.reserved ++ le 4 g.allowance ++ le 4 g.cap
          ++ le 4 g.overdraft ++ le 1 g.period ++ le 1 g.phase ++ leInt 4 ((g.pool : Int) - g.reserved)
          ++ le 2 (s.bank.accounts.countP fun e => e.2.group == n)) s))
    ∧ (
        let told := fun e : Nat × Requisition => le 2 e.1 ++ le 1 e.2.type ++ le 1 e.2.quantity ++ flag e.2.confirmDay.isSome
          ++ le 2 e.2.raiseDay.toNat ++ optional 2 (e.2.confirmDay.map BitVec.toNat) ++ flag e.2.overdue
        (∀ r ∈ s.stock.reqs.get? m, exec (.reqRead (le 2 m)) s = .next (answeredOk 0x2D (told (m, r)) s))
        ∧ (s.stock.reqs.get? m = none → exec (.reqRead (le 2 m)) s = .next (answeredNo 0x2D .notFound [] s))
        ∧ (Table.Sorted s.stock.reqs → ∀ k ∈ s.stock.reqs, m < k.1 → (∀ e ∈ s.stock.reqs, m < e.1 → k.1 ≤ e.1) →
            exec (.reqNext (le 2 m)) s = .next (answeredOk 0x2E (told k) s))
        ∧ ((∀ e ∈ s.stock.reqs, e.1 ≤ m) → exec (.reqNext (le 2 m)) s = .next (answeredNo 0x2E .empty [] s)))
    ∧ (
        let told := fun (x : Nat) (a : Account) => le 2 x ++ le 4 ((a.token.map BitVec.toNat).getD 0) ++ le 1 a.group ++ [a.role.code]
          ++ flag a.suspended ++ [(if a.colour then 1 else 0) + (if a.poolDraw then 2 else 0)] ++ leInt 4 a.balance
          ++ le 4 a.reserved ++ le 4 a.allowance ++ le 4 a.cap ++ flag a.exhausted ++ le 1 (s.jobsOf x).length
          ++ le 1 ((s.jobsOf x).countP fun j => j.phase != .held) ++ leInt 4 (a.balance - a.reserved + (s.groupAt a.group).overdraft)
        (∀ a ∈ s.bank.accounts.get? m, exec (.accountRead (le 2 m)) s = .next (answeredOk 0x32 (told m a) s))
        ∧ (s.bank.accounts.get? m = none → exec (.accountRead (le 2 m)) s = .next (answeredNo 0x32 .notFound [] s))
        ∧ exec (.accountFindBadge (le 4 0)) s = .next (answeredNo 0x33 .badField [0] s)
        ∧ (token ≠ 0 → s.badge token = none →
            exec (.accountFindBadge (le 4 token.toNat)) s = .next (answeredNo 0x33 .notFound [] s))
        ∧ (token ≠ 0 → ∀ e ∈ s.badge token, e.2.token = some token
            ∧ exec (.accountFindBadge (le 4 token.toNat)) s = .next (answeredOk 0x33 (told e.1 e.2) s)))
    ∧ (n = 0 ∨ 126 < n → exec (.stationRead (le 1 n)) s = .next (answeredNo 0x49 .badField [0] s))
    ∧ (1 ≤ n → n ≤ 126 → ∀ st ∈ s.line.stations.get? n,
        exec (.stationRead (le 1 n)) s = .next (answeredOk 0x49 ([st.state.code] ++ le 2 (s.line.calendar.count n)
          ++ optional 1 st.bound ++ [st.mode.code] ++ flag st.redirect ++ le 1 st.misses ++ le 1 st.pollCount ++ le 1 st.badCount
          ++ flag st.noisy ++ le 4 st.polls.toNat ++ le 4 st.good.toNat ++ le 4 st.bad.toNat
          ++ ((st.slot.map fun x => 1 :: x.bytes).getD [0, 0, 0, 0, 0, 0, 0])
          ++ le 4 ((st.last.map fun l => l.1.toNat).getD 0) ++ optional 4 (st.last.map fun l => l.2.toNat)) s))

/-! ### Invariants -/

/-- Every step keeps the unassigned bits of the cause and mask words at 0, every parameter in its range and every field of a
printer and a cartridge in its range (R1, R43, R174, R175, R177). -/
def Obligations.StepKeepsWordsParametersAndPrintersInRange : Prop :=
  ∀ s t : State, CauseWordClean s ∧ ParamsInRange s ∧ PrintersInRange s → step s = .next t →
    CauseWordClean t ∧ ParamsInRange t ∧ PrintersInRange t

/-- Every step keeps the tables in order of their numbers, the budgets in their ranges and every badge token with one account
(R79, R80, R84, R86, R89). -/
def Obligations.StepKeepsTablesBudgetsAndBadges : Prop :=
  ∀ s t : State, TablesOrdered s ∧ BudgetsInRange s ∧ BadgesUnique s → step s = .next t →
    TablesOrdered t ∧ BudgetsInRange t ∧ BadgesUnique t

/-- Every step keeps at most 64 tickets, one for a printer that is not VACANT, none for a deferred printer, RESOLVED exactly
without causes, and every printer with causes in the position of R35: a ticket that lists them all, or the deferred-callout
flag (R31 to R36); and at most 32 requisitions, each of a defined type and not empty, and at most one OPEN for a type (R63 to
R69). A printer whose reconciliation the second event in progress still owes is not yet in line (log entry 5), and nothing is
said of R35 during a reset hold (log entry 16). -/
def Obligations.StepKeepsTicketsAndStockSound : Prop :=
  (∀ s t : State, TablesOrdered s ∧ TicketsSound s → step s = .next t →
     TicketsSound t ∧ (CalloutsComplete s → CalloutsComplete t))
  ∧ (∀ s t : State, TablesOrdered s ∧ StockSound s → step s = .next t → StockSound t)

/-- Every step keeps the dispatch order the RELEASING jobs and the expiry order the HELD jobs, each once, and every account's
and group's reserved amount the sum of the portions of its jobs in flight. It keeps the job lists and the expiry order in
submission order, while the live jobs are near enough to each other for their sequences to be compared, as R100 says they are
(R93, R94, R99 to R102, R106, R137). -/
def Obligations.StepKeepsReservationsInBalance : Prop :=
  (∀ s t : State, TablesOrdered s ∧ ParamsInRange s ∧ BudgetsInRange s ∧ JobOrdersSound s ∧ OwnersSound s ∧ ReservationsBalance s →
    step s = .next t → JobOrdersSound t ∧ OwnersSound t ∧ ReservationsBalance t)
  ∧ ∀ s t : State, JobOrdersSound s ∧ SequencesNear s ∧ SubmissionOrderKept s → step s = .next t → SubmissionOrderKept t

/-- Every step keeps each job in flight on a printer that exists, each RELEASING one on a READY or IMPAIRED printer and on
the one its SPECIFIC target names, and at most 16 in flight on a printer (R114, R138, R149). -/
def Obligations.StepKeepsFlightsSound : Prop :=
  ∀ s t : State, TablesOrdered s ∧ ParamsInRange s ∧ JobOrdersSound s ∧ FlightsSound s → step s = .next t → FlightsSound t

/-- Every step keeps the line OFF exactly while it is disabled or has no calendar, the stations in agreement with the
calendar, no station bound to a VACANT number, and the sweep within its walk (R117, R122 to R124, R129 to R133, R157, R164 to
R167). -/
def Obligations.StepKeepsLineBindingsAndSweepSound : Prop :=
  ∀ s t : State, TablesOrdered s ∧ LineSound s ∧ BindingsSound s ∧ SweepSound s → step s = .next t →
    LineSound t ∧ BindingsSound t ∧ SweepSound t
end

