-- ==== Sys2Proof/Laws/Table.lean ====
section
/-!
SUPPORT. Laws/Table.lean: reading after writing, the numbers and the order of numbered tables, and the numbers the part issues.
-/

namespace Sys2Proof.Machine

variable {α : Type}

namespace Table

/-! ### Reading after writing -/

@[simp] theorem get?_nil (n : Nat) : Table.get? ([] : Table α) n = none := rfl

theorem get?_cons (k : Nat) (v : α) (t : Table α) (n : Nat) :
    Table.get? ((k, v) :: t) n = if k = n then some v else Table.get? t n := rfl

@[simp] theorem get?_put_self (t : Table α) (n : Nat) (x : α) : (Table.put t n x).get? n = some x := by
  induction t with
  | nil => simp [Table.put, Table.get?]
  | cons e t ih =>
    obtain ⟨k, v⟩ := e
    simp only [Table.put]
    split
    · simp [Table.get?]
    · split
      · simp [Table.get?]
      · rename_i h _
        simp [Table.get?, h, ih]

theorem get?_put_ne (t : Table α) {n m : Nat} (x : α) (h : m ≠ n) : (Table.put t n x).get? m = t.get? m := by
  induction t with
  | nil => simp [Table.put, Table.get?, Ne.symm h]
  | cons e t ih =>
    obtain ⟨k, v⟩ := e
    simp only [Table.put]
    split
    · rename_i hk
      subst hk
      simp [Table.get?, Ne.symm h]
    · split
      · simp [Table.get?, Ne.symm h]
      · simp only [Table.get?, ih]

theorem get?_put (t : Table α) (n m : Nat) (x : α) :
    (Table.put t n x).get? m = if m = n then some x else t.get? m := by
  split
  · rename_i h; subst h; simp
  · rename_i h; exact get?_put_ne t x h

theorem get?_modify (t : Table α) (n m : Nat) (f : α → α) :
    (t.modify n f).get? m = if m = n then (t.get? m).map f else t.get? m := by
  induction t with
  | nil => simp [Table.modify, Table.get?]
  | cons e t ih =>
    obtain ⟨k, v⟩ := e
    simp only [Table.modify, List.map_cons] at ih ⊢
    by_cases hk : k = n
    · subst hk
      by_cases hm : m = k
      · subst hm; simp [Table.get?]
      · have hm' : ¬ k = m := fun e => hm e.symm
        simp only [Table.get?, if_true, hm', if_false, hm] at ih ⊢
        exact ih
    · by_cases hm : k = m
      · subst hm; simp [Table.get?, hk]
      · simp only [Table.get?, hk, hm, if_false] at ih ⊢
        exact ih

@[simp] theorem get?_modify_self (t : Table α) (n : Nat) (f : α → α) :
    (t.modify n f).get? n = (t.get? n).map f := by
  rw [get?_modify, if_pos rfl]

theorem get?_modify_ne (t : Table α) {n m : Nat} (f : α → α) (h : m ≠ n) : (t.modify n f).get? m = t.get? m := by
  rw [get?_modify, if_neg h]

theorem get?_del (t : Table α) (n m : Nat) : (t.del n).get? m = if m = n then none else t.get? m := by
  induction t with
  | nil => simp [Table.del, Table.get?]
  | cons e t ih =>
    obtain ⟨k, v⟩ := e
    simp only [Table.del] at ih ⊢
    by_cases hk : k = n
    · subst hk
      by_cases hm : m = k
      · subst hm; simpa using ih
      · have hm' : ¬ k = m := fun e => hm e.symm
        simp only [hm, if_false] at ih ⊢
        simpa [Table.get?, hm'] using ih
    · by_cases hm : k = m
      · subst hm; simp [Table.get?, hk]
      · simp only [hk, ne_eq, not_false_eq_true, decide_true, List.filter_cons_of_pos, Table.get?, hm, if_false]
        exact ih

@[simp] theorem get?_del_self (t : Table α) (n : Nat) : (t.del n).get? n = none := by
  rw [get?_del, if_pos rfl]

theorem get?_del_ne (t : Table α) {n m : Nat} (h : m ≠ n) : (t.del n).get? m = t.get? m := by
  rw [get?_del, if_neg h]

/-! ### Membership -/

theorem mem_of_get? {t : Table α} {n : Nat} {x : α} (h : t.get? n = some x) : (n, x) ∈ t := by
  induction t with
  | nil => simp at h
  | cons e t ih =>
    obtain ⟨k, v⟩ := e
    simp only [Table.get?] at h
    split at h
    · rename_i hk; subst hk; cases h; exact List.mem_cons_self
    · exact List.mem_cons_of_mem _ (ih h)

theorem get?_isSome_iff (t : Table α) (n : Nat) : (t.get? n).isSome = true ↔ n ∈ t.keys := by
  induction t with
  | nil => simp [Table.keys]
  | cons e t ih =>
    obtain ⟨k, v⟩ := e
    simp only [Table.get?, Table.keys, List.map_cons, List.mem_cons] at ih ⊢
    by_cases hk : k = n
    · subst hk; simp
    · have hk' : ¬ n = k := fun e => hk e.symm
      simp only [hk, if_false, hk', false_or]
      exact ih

theorem get?_eq_none_iff (t : Table α) (n : Nat) : t.get? n = none ↔ n ∉ t.keys := by
  rw [← get?_isSome_iff]; cases t.get? n <;> simp

theorem mem_keys_of_get? {t : Table α} {n : Nat} {x : α} (h : t.get? n = some x) : n ∈ t.keys :=
  (get?_isSome_iff t n).1 (by simp [h])

/-- In an ordered table a number holds one record. -/
theorem get?_of_mem {t : Table α} (hs : t.Sorted) {n : Nat} {x : α} (h : (n, x) ∈ t) : t.get? n = some x := by
  induction t with
  | nil => simp at h
  | cons e t ih =>
    obtain ⟨k, v⟩ := e
    simp only [Table.Sorted, Table.keys, List.map_cons, List.pairwise_cons] at hs
    simp only [Table.get?]
    rcases List.mem_cons.1 h with h | h
    · cases h; simp
    · have hlt := hs.1 n (List.mem_map.2 ⟨(n, x), h, rfl⟩)
      rw [if_neg (Nat.ne_of_lt hlt)]
      exact ih hs.2 h

/-! ### Numbers -/

@[simp] theorem keys_modify (t : Table α) (n : Nat) (f : α → α) : (t.modify n f).keys = t.keys := by
  simp only [Table.keys, Table.modify, List.map_map]
  apply List.map_congr_left
  intro e _
  simp only [Function.comp]
  split <;> rfl

@[simp] theorem length_modify (t : Table α) (n : Nat) (f : α → α) : (t.modify n f).length = t.length := by
  simp [Table.modify]

theorem keys_del (t : Table α) (n : Nat) : (t.del n).keys = t.keys.filter fun m => m ≠ n := by
  simp only [Table.keys, Table.del, List.filter_map]
  rfl

theorem mem_keys_del (t : Table α) (n m : Nat) : m ∈ (t.del n).keys ↔ m ∈ t.keys ∧ m ≠ n := by
  simp [keys_del]

theorem mem_keys_put (t : Table α) (n m : Nat) (x : α) : m ∈ (Table.put t n x).keys ↔ m = n ∨ m ∈ t.keys := by
  rw [← get?_isSome_iff, ← get?_isSome_iff, get?_put]
  split
  · rename_i h; simp [h]
  · rename_i h; simp [h]

theorem length_put_le (t : Table α) (n : Nat) (x : α) : (Table.put t n x).length ≤ t.length + 1 := by
  induction t with
  | nil => simp [Table.put]
  | cons e t ih =>
    obtain ⟨k, v⟩ := e
    simp only [Table.put]
    split
    · simp
    · split
      · simp
      · simpa using ih

theorem length_del_le (t : Table α) (n : Nat) : (t.del n).length ≤ t.length := List.length_filter_le _ _

theorem length_del_lt {t : Table α} {n : Nat} {x : α} (h : t.get? n = some x) : (t.del n).length < t.length := by
  refine List.length_filter_lt_length_iff_exists.2 ⟨(n, x), mem_of_get? h, by simp⟩

/-! ### Order -/

theorem sorted_nil : Table.Sorted ([] : Table α) := List.Pairwise.nil

theorem sorted_modify {t : Table α} (h : t.Sorted) (n : Nat) (f : α → α) : (t.modify n f).Sorted := by
  simpa [Table.Sorted] using h

theorem sorted_del {t : Table α} (h : t.Sorted) (n : Nat) : (t.del n).Sorted := by
  simp only [Table.Sorted, keys_del] at h ⊢
  exact h.filter _

theorem sorted_put {t : Table α} (h : t.Sorted) (n : Nat) (x : α) : (Table.put t n x).Sorted := by
  induction t with
  | nil => simp [Table.put, Table.Sorted, Table.keys]
  | cons e t ih =>
    obtain ⟨k, v⟩ := e
    have hc := h
    simp only [Table.Sorted, Table.keys, List.map_cons, List.pairwise_cons] at hc
    simp only [Table.put]
    split
    · rename_i hk
      subst hk
      simpa [Table.Sorted, Table.keys] using hc
    · rename_i hk
      split
      · rename_i hn
        simp only [Table.Sorted, Table.keys, List.map_cons, List.pairwise_cons]
        refine ⟨?_, hc⟩
        intro m hm
        rcases List.mem_cons.1 hm with hm | hm
        · exact hm ▸ hn
        · exact Nat.lt_trans hn (hc.1 m hm)
      · rename_i hn
        simp only [Table.Sorted, Table.keys, List.map_cons, List.pairwise_cons]
        refine ⟨?_, ih hc.2⟩
        intro m hm
        rcases (mem_keys_put t n m x).1 hm with hm | hm
        · omega
        · exact hc.1 m hm

/-! ### The next number -/

/-- The record above a number is the one with the lowest number above it. -/
theorem above_some {t : Table α} (hs : t.Sorted) {n : Nat} {e : Nat × α} (h : t.above n = some e) :
    n < e.1 ∧ e ∈ t ∧ ∀ m ∈ t.keys, n < m → e.1 ≤ m := by
  induction t with
  | nil => simp [Table.above] at h
  | cons c t ih =>
    obtain ⟨k, v⟩ := c
    simp only [Table.Sorted, Table.keys, List.map_cons, List.pairwise_cons] at hs
    simp only [Table.above, List.find?_cons] at h ih
    by_cases hk : n < k
    · simp only [hk, decide_true, Option.some.injEq] at h
      subst h
      refine ⟨hk, List.mem_cons_self, ?_⟩
      intro m hm _
      rcases List.mem_cons.1 hm with hm | hm
      · exact Nat.le_of_eq hm.symm
      · exact Nat.le_of_lt (hs.1 m hm)
    · simp only [hk, decide_false] at h
      obtain ⟨h1, h2, h3⟩ := ih hs.2 h
      refine ⟨h1, List.mem_cons_of_mem _ h2, ?_⟩
      intro m hm hnm
      rcases List.mem_cons.1 hm with hm | hm
      · exact absurd hnm (by simp only at hm; omega)
      · exact h3 m hm hnm

theorem above_none {t : Table α} {n : Nat} (h : t.above n = none) : ∀ m ∈ t.keys, m ≤ n := by
  intro m hm
  obtain ⟨e, he, rfl⟩ := List.mem_map.1 hm
  have := List.find?_eq_none.1 h e he
  simpa using this

end Table

/-! ### Issued numbers (section 4.4) -/

theorem nextNumber_range (n : Nat) : 1 ≤ nextNumber n ∧ nextNumber n ≤ 65535 := by
  unfold nextNumber; split <;> omega

theorem issueFrom_range (live : List Nat) (fuel last : Nat) :
    1 ≤ issueFrom live fuel last ∧ issueFrom live fuel last ≤ 65535 := by
  induction fuel generalizing last with
  | zero => exact nextNumber_range last
  | succ k ih =>
    simp only [issueFrom]
    split
    · exact ih _
    · exact nextNumber_range last

/-- An issued number lies in 1-65535. -/
theorem issueNumber_range (live : List Nat) (last : Nat) :
    1 ≤ issueNumber live last ∧ issueNumber live last ≤ 65535 := issueFrom_range live _ last

/-- The number reached after passing over `k` numbers. -/
theorem issueFrom_le (live : List Nat) (fuel last : Nat) :
    ∃ k ≤ fuel, issueFrom live fuel last = (nextNumber last - 1 + k) % 65535 + 1
      ∧ (issueFrom live fuel last ∉ live ∨ k = fuel)
      ∧ ∀ i < k, (nextNumber last - 1 + i) % 65535 + 1 ∈ live := by
  induction fuel generalizing last with
  | zero =>
    refine ⟨0, Nat.le_refl _, ?_, .inr rfl, by simp⟩
    have := nextNumber_range last
    simp only [issueFrom]
    omega
  | succ f ih =>
    simp only [issueFrom]
    split
    · rename_i h
      obtain ⟨k, hk, he, hor, hall⟩ := ih (nextNumber last)
      have hr := nextNumber_range last
      have hstep : nextNumber (nextNumber last) - 1 = (nextNumber last - 1 + 1) % 65535 := by
        unfold nextNumber; split <;> split <;> omega
      refine ⟨k + 1, by omega, ?_, ?_, ?_⟩
      · rw [he, hstep]; omega
      · rcases hor with h' | h'
        · exact .inl h'
        · exact .inr (by omega)
      · intro i hi
        cases i with
        | zero =>
          have : (nextNumber last - 1 + 0) % 65535 + 1 = nextNumber last := by omega
          rw [this]; exact h
        | succ i =>
          have h' := hall i (by omega)
          rw [hstep] at h'
          have : (nextNumber last - 1 + (i + 1)) % 65535 = ((nextNumber last - 1 + 1) % 65535 + i) % 65535 := by omega
          rw [this]; exact h'
    · rename_i h
      refine ⟨0, by omega, ?_, .inl h, by simp⟩
      have := nextNumber_range last
      omega

/-- With fewer than 65,535 live numbers, an issued number is not live (section 4.4). -/
theorem issueNumber_fresh (live : List Nat) (last : Nat) (h : live.length < 65535) : issueNumber live last ∉ live := by
  intro hin
  obtain ⟨k, -, he, hor, hall⟩ := issueFrom_le live live.length last
  have hk : k = live.length := by
    rcases hor with h' | h'
    · exact absurd hin h'
    · exact h'
  subst hk
  have hsub : (List.range (live.length + 1)).map (fun i => (nextNumber last - 1 + i) % 65535 + 1) ⊆ live := by
    intro n hn
    obtain ⟨i, hi, rfl⟩ := List.mem_map.1 hn
    rw [List.mem_range] at hi
    by_cases hlt : i < live.length
    · exact hall i hlt
    · have : i = live.length := by omega
      subst this
      rw [← he]; exact hin
  have hnd : ((List.range (live.length + 1)).map fun i => (nextNumber last - 1 + i) % 65535 + 1).Nodup := by
    refine List.Nodup.map_on ?_ List.nodup_range
    intro i hi j hj hij
    rw [List.mem_range] at hi hj
    omega
  have := (List.subperm_of_subset hnd hsub).length_le
  simp at this

end Sys2Proof.Machine
end

