-- ==== Sys2Proof/Laws/Port.lean ====
section
/-!
SUPPORT. Laws/Port.lean: what the port's operations do, each said once: when an event is taken as it stands, what taking a
request answers, what a timer row runs, and what the reset sources do.
-/

namespace Sys2Proof.Machine

variable {s : State}

/-! ### Events -/

theorem State.ready_iff : s.ready = true ↔ s.inReset = false ∧ ∃ r, s.port.phase = .ready r := by
  unfold State.ready
  cases s.port.phase <;> simp

theorem State.Receptive.settled (h : s.Receptive) : s.Settled := ⟨(State.ready_iff.1 h.1).1, h.2⟩

theorem State.Receptive.phase (h : s.Receptive) : ∃ r, s.port.phase = .ready r := (State.ready_iff.1 h.1).2

theorem finishSecond_of_done (h : s.second = ⟨[], [], []⟩) : finishSecond s = s := by
  cases s
  simp_all [finishSecond]

/-- After the second event is finished, none is in progress. -/
@[simp] theorem finishSecond_second (s : State) : (finishSecond s).second = ⟨[], [], []⟩ := rfl

theorem asEvent_of_settled {f : State → State} (h : s.Settled) : asEvent f s = f s := by
  simp only [asEvent, h.1, Bool.false_eq_true, if_false, finishSecond_of_done h.2]

theorem asEvent_of_inReset {f : State → State} (h : s.inReset = true) : asEvent f s = s := by
  simp only [asEvent, h, if_true]

theorem asEvent_eq_finished {f : State → State} (h : s.inReset = false) : asEvent f s = f (finishSecond s) := by
  simp only [asEvent, h, Bool.false_eq_true, if_false]

/-! ### Taking a request -/

theorem atPort_of_receptive {take : State → State} (h : s.Receptive) : atPort take s = take s := by
  obtain ⟨r, hr⟩ := h.phase
  simp only [atPort, hr]

theorem atPort_of_working {take : State → State} {r : Response} (h : s.port.phase = .working r) :
    atPort take s = setCause .portOverrun s := by
  simp only [atPort, h]

theorem atPort_of_resetting {take : State → State} (h : s.port.phase = .resetting) : atPort take s = s := by
  simp only [atPort, h]

/-! ### Reads -/

/-- A transaction that is ignored puts nothing on MISO (R179). -/
theorem State.miso_of_ignored (h : s.readTransaction = none) (clocked : List Byte) : s.miso clocked = none := by
  simp only [State.miso, h, Option.map_none]

/-- MISO carries as many bytes as the host clocks (R169, R171). -/
theorem State.miso_length {clocked out : List Byte} (h : s.miso clocked = some out) : out.length = clocked.length := by
  simp only [State.miso, Option.map_eq_some_iff] at h
  obtain ⟨r, -, rfl⟩ := h
  cases clocked with
  | nil => rfl
  | cons b rest =>
    show (if b = 0 then _ else _ : List Byte).length = _
    split <;> simp

/-- Nothing is read while the part is held in reset or a PORT_RESET is at work (R179). -/
theorem State.readTransaction_of_resetting (h : s.port.phase = .resetting) : s.readTransaction = none := by
  simp [State.readTransaction, h]

/-- A block's work on a payload that fits a frame; a longer one is BAD_LENGTH (R169). -/
def within (body : Payload → State → Reply) (p : Payload) (s : State) : Reply :=
  if Config.payloadMax < p.length then refuse .badLength else body p s

theorem within_of_le {body : Payload → State → Reply} {p : Payload} (h : p.length ≤ 60) : within body p s = body p s := by
  simp only [within, Config.payloadMax, Nat.not_lt.2 h, if_false]

theorem takeRequest_of_receptive {code : Byte} {body : Payload → State → Reply} {p : Payload} (h : s.Receptive) :
    takeRequest code body p s = answer code (within body p s) s := by
  simp only [takeRequest, asEvent_of_settled h.settled, atPort_of_receptive h, within]

/-- A frame that finds READY low sets PORT_OVERRUN and does nothing else (R172). -/
theorem takeRequest_of_working {code : Byte} {body : Payload → State → Reply} {p : Payload} {r : Response} (h : s.Settled)
    (hr : s.port.phase = .working r) : takeRequest code body p s = setCause .portOverrun s := by
  simp only [takeRequest, asEvent_of_settled h, atPort_of_working hr]

/-! ### Answers -/

@[simp] theorem answer_okay (code : Byte) (t s : State) (p : Payload) : answer code (okay t p) s = answeredOk code p t := rfl
@[simp] theorem answer_ok (code : Byte) (t s : State) (p : Payload) : answer code (.ok (t, p)) s = answeredOk code p t := rfl
@[simp] theorem answer_error (code : Byte) (r : Reject) (s : State) :
    answer code (.error r) s = answeredNo code r.status r.payload s := rfl
@[simp] theorem answer_refuse (code : Byte) (st : Status) (s : State) :
    answer code (refuse st) s = answeredNo code st [] s := rfl
@[simp] theorem answer_notFound (code : Byte) (n : Nat) (s : State) :
    answer code (notFound n) s = answeredNo code .notFound [BitVec.ofNat 8 n] s := rfl
@[simp] theorem answer_badField (code : Byte) (n : Nat) (s : State) :
    answer code (badField n) s = answeredNo code .badField [BitVec.ofNat 8 n] s := rfl
@[simp] theorem answer_badEntry (code : Byte) (n m : Nat) (s : State) :
    answer code (badEntry n m) s = answeredNo code .badField [BitVec.ofNat 8 n, BitVec.ofNat 8 m] s := rfl

/-- All an answer does: a refusal keeps the state, and the response is being formed. -/
theorem answer_cases (code : Byte) (rep : Reply) (s : State) :
    (∃ r : Reject, rep = .error r ∧ answer code rep s = answeredNo code r.status r.payload s)
    ∨ ∃ (t : State) (p : Payload), rep = .ok (t, p) ∧ answer code rep s = answeredOk code p t := by
  match rep with
  | .error r => exact .inl ⟨r, rfl, rfl⟩
  | .ok (t, p) => exact .inr ⟨t, p, rfl, rfl⟩

/-! ### Timer rows -/

theorem timerRow_of_inReset (h : s.inReset = true) (t : Timer) : timerRow t s = s := by
  simp only [timerRow, h, if_true]

theorem timerRow_of_not_due {t : Timer} (h : t ∉ s.second.due) : timerRow t s = s := by
  unfold timerRow
  split
  · rfl
  · rfl

theorem timerRow_of_due {t : Timer} (h : s.TimerDue t) (hb : ∀ u ∈ s.second.due, u.before t = false) :
    timerRow t s = passTimer s t := by
  have hf : s.second.due.filter (fun u => u.before t) = [] := by
    simpa [List.filter_eq_nil_iff] using hb
  simp only [timerRow, h.1, h.2, hf, Bool.false_eq_true, if_false, if_true, List.foldl_nil]

/-- Only escalation (R34), and a class tick while the silence examination is due (R18), wait for other timers of their second. -/
theorem Timer.before_false {u t : Timer} (h : t ≠ .escalation) (hu : u ≠ .silence ∨ ∀ n, t ≠ .tick n) : u.before t = false := by
  cases t <;> cases u <;> simp_all [Timer.before]

theorem timerRow_of_due' {t : Timer} (h : s.TimerDue t) (ht : t ≠ .escalation)
    (hs : .silence ∉ s.second.due ∨ ∀ n, t ≠ .tick n) : timerRow t s = passTimer s t :=
  timerRow_of_due h fun _ hu => Timer.before_false ht (hs.imp_left fun hs he => hs (he ▸ hu))

/-- A due timer runs after those that must precede it: a class tick after the silence examination (R18), escalation after all
that judge fault kinds (R34). -/
theorem timerRow_of_due_after {t : Timer} (h : s.TimerDue t) :
    timerRow t s = passTimer ((s.second.due.filter fun u => u.before t).foldl passTimer s) t := by
  simp only [timerRow, h.1, h.2, Bool.false_eq_true, if_false, if_true]

/-! ### Reset sources -/

/-- All the reset sources do (R179): a hold ends with every block reset, goes on, begins with the work abandoned, or nothing
happens. -/
theorem setPins_cases (pins : Pins) (s : State) :
    (s.inReset = true ∧ (pins.rstLow || pins.supplyLow) = false ∧ setPins pins s = resetAll s)
    ∨ (s.inReset = true ∧ (pins.rstLow || pins.supplyLow) = true ∧ setPins pins s = { s with pins := pins })
    ∨ (s.inReset = false ∧ (pins.rstLow || pins.supplyLow) = true ∧ setPins pins s = { abandonWork s with pins := pins })
    ∨ (s.inReset = false ∧ (pins.rstLow || pins.supplyLow) = false ∧ setPins pins s = s) := by
  cases hs : s.inReset <;> cases hp : (pins.rstLow || pins.supplyLow) <;> simp [setPins, hs, hp]

end Sys2Proof.Machine
end

