-- ==== Sys2Proof/Laws/Exec.lean ====
section
/-!
SUPPORT. Laws/Exec.lean: what `exec` is for each row, for a state in which the row's event is taken as it stands: a request
in a receptive state is its block's work under the port's answer, an event in a settled state is its effect. The later proofs
rewrite with these and never unfold `exec`.
-/

set_option Elab.async false

namespace Sys2Proof.Machine

variable {s : State}

/-! ### Requests -/

theorem exec_accountAdd (h : s.Receptive) (p : Payload) :
    exec (.accountAdd p) s = .next (answer 0x30 (within accountAdd p s) s) := by
  simp only [exec, execAccountAdd, takeRequest_of_receptive h]

theorem exec_accountSet (h : s.Receptive) (p : Payload) :
    exec (.accountSet p) s = .next (answer 0x31 (within accountSet p s) s) := by
  simp only [exec, execAccountSet, takeRequest_of_receptive h]

theorem exec_accountRead (h : s.Receptive) (p : Payload) :
    exec (.accountRead p) s = .next (answer 0x32 (within accountRead p s) s) := by
  simp only [exec, execAccountRead, takeRequest_of_receptive h]

theorem exec_accountFindBadge (h : s.Receptive) (p : Payload) :
    exec (.accountFindBadge p) s = .next (answer 0x33 (within accountFindBadge p s) s) := by
  simp only [exec, execAccountFindBadge, takeRequest_of_receptive h]

theorem exec_accountAdjust (h : s.Receptive) (p : Payload) :
    exec (.accountAdjust p) s = .next (answer 0x34 (within accountAdjust p s) s) := by
  simp only [exec, execAccountAdjust, takeRequest_of_receptive h]

theorem exec_accountRetire (h : s.Receptive) (p : Payload) :
    exec (.accountRetire p) s = .next (answer 0x35 (within accountRetire p s) s) := by
  simp only [exec, execAccountRetire, takeRequest_of_receptive h]

theorem exec_groupSet (h : s.Receptive) (p : Payload) :
    exec (.groupSet p) s = .next (answer 0x36 (within groupSet p s) s) := by
  simp only [exec, execGroupSet, takeRequest_of_receptive h]

theorem exec_groupRead (h : s.Receptive) (p : Payload) :
    exec (.groupRead p) s = .next (answer 0x37 (within groupRead p s) s) := by
  simp only [exec, execGroupRead, takeRequest_of_receptive h]

theorem exec_priceSet (h : s.Receptive) (p : Payload) :
    exec (.priceSet p) s = .next (answer 0x38 (within priceSet p s) s) := by
  simp only [exec, execPriceSet, takeRequest_of_receptive h]

theorem exec_cartridgeRead (h : s.Receptive) (p : Payload) :
    exec (.cartridgeRead p) s = .next (answer 0x20 (within cartridgeRead p s) s) := by
  simp only [exec, execCartridgeRead, takeRequest_of_receptive h]

theorem exec_cartridgeSwapped (h : s.Receptive) (p : Payload) :
    exec (.cartridgeSwapped p) s = .next (answer 0x21 (within cartridgeSwapped p s) s) := by
  simp only [exec, execCartridgeSwapped, takeRequest_of_receptive h]

theorem exec_cartridgeSeed (h : s.Receptive) (p : Payload) :
    exec (.cartridgeSeed p) s = .next (answer 0x22 (within cartridgeSeed p s) s) := by
  simp only [exec, execCartridgeSeed, takeRequest_of_receptive h]

theorem exec_jobSubmit (h : s.Receptive) (p : Payload) :
    exec (.jobSubmit p) s = .next (answer 0x40 (within jobSubmit p s) s) := by
  simp only [exec, execJobSubmit, takeRequest_of_receptive h]

theorem exec_jobCancel (h : s.Receptive) (p : Payload) :
    exec (.jobCancel p) s = .next (answer 0x41 (within jobCancel p s) s) := by
  simp only [exec, execJobCancel, takeRequest_of_receptive h]

theorem exec_jobRead (h : s.Receptive) (p : Payload) :
    exec (.jobRead p) s = .next (answer 0x42 (within jobRead p s) s) := by
  simp only [exec, execJobRead, takeRequest_of_receptive h]

theorem exec_jobNextOf (h : s.Receptive) (p : Payload) :
    exec (.jobNextOf p) s = .next (answer 0x43 (within jobNextOf p s) s) := by
  simp only [exec, execJobNextOf, takeRequest_of_receptive h]

theorem exec_printerAdd (h : s.Receptive) (p : Payload) :
    exec (.printerAdd p) s = .next (answer 0x10 (within printerAdd p s) s) := by
  simp only [exec, execPrinterAdd, takeRequest_of_receptive h]

theorem exec_printerSet (h : s.Receptive) (p : Payload) :
    exec (.printerSet p) s = .next (answer 0x11 (within printerSet p s) s) := by
  simp only [exec, execPrinterSet, takeRequest_of_receptive h]

theorem exec_printerRead (h : s.Receptive) (p : Payload) :
    exec (.printerRead p) s = .next (answer 0x12 (within printerRead p s) s) := by
  simp only [exec, execPrinterRead, takeRequest_of_receptive h]

theorem exec_printerRetire (h : s.Receptive) (p : Payload) :
    exec (.printerRetire p) s = .next (answer 0x13 (within printerRetire p s) s) := by
  simp only [exec, execPrinterRetire, takeRequest_of_receptive h]

theorem exec_statusReport (h : s.Receptive) (p : Payload) :
    exec (.statusReport p) s = .next (answer 0x14 (within statusReport p s) s) := by
  simp only [exec, execStatusReport, takeRequest_of_receptive h]

theorem exec_releaseRequest (h : s.Receptive) (p : Payload) :
    exec (.releaseRequest p) s = .next (answer 0x50 (within releaseRequest p s) s) := by
  simp only [exec, execReleaseRequest, takeRequest_of_receptive h]

theorem exec_dispatchTake (h : s.Receptive) (p : Payload) :
    exec (.dispatchTake p) s = .next (answer 0x51 (within dispatchTake p s) s) := by
  simp only [exec, execDispatchTake, takeRequest_of_receptive h]

theorem exec_jobDone (h : s.Receptive) (p : Payload) :
    exec (.jobDone p) s = .next (answer 0x52 (within jobDone p s) s) := by
  simp only [exec, execJobDone, takeRequest_of_receptive h]

theorem exec_statusRead (h : s.Receptive) (p : Payload) :
    exec (.statusRead p) s = .next (answer 0x02 (within statusRead p s) s) := by
  simp only [exec, execStatusRead, takeRequest_of_receptive h]

theorem exec_statusClear (h : s.Receptive) (p : Payload) :
    exec (.statusClear p) s = .next (answer 0x03 (within statusClear p s) s) := by
  simp only [exec, execStatusClear, takeRequest_of_receptive h]

theorem exec_maskSet (h : s.Receptive) (p : Payload) :
    exec (.maskSet p) s = .next (answer 0x04 (within maskSet p s) s) := by
  simp only [exec, execMaskSet, takeRequest_of_receptive h]

theorem exec_paramSet (h : s.Receptive) (p : Payload) :
    exec (.paramSet p) s = .next (answer 0x05 (within paramSet p s) s) := by
  simp only [exec, execParamSet, takeRequest_of_receptive h]

theorem exec_paramRead (h : s.Receptive) (p : Payload) :
    exec (.paramRead p) s = .next (answer 0x06 (within paramRead p s) s) := by
  simp only [exec, execParamRead, takeRequest_of_receptive h]

theorem exec_countersRead (h : s.Receptive) (p : Payload) :
    exec (.countersRead p) s = .next (answer 0x07 (within countersRead p s) s) := by
  simp only [exec, execCountersRead, takeRequest_of_receptive h]

theorem exec_countersClear (h : s.Receptive) (p : Payload) :
    exec (.countersClear p) s = .next (answer 0x08 (within countersClear p s) s) := by
  simp only [exec, execCountersClear, takeRequest_of_receptive h]

theorem exec_stationSet (h : s.Receptive) (p : Payload) :
    exec (.stationSet p) s = .next (answer 0x48 (within stationSet p s) s) := by
  simp only [exec, execStationSet, takeRequest_of_receptive h]

theorem exec_stationRead (h : s.Receptive) (p : Payload) :
    exec (.stationRead p) s = .next (answer 0x49 (within stationRead p s) s) := by
  simp only [exec, execStationRead, takeRequest_of_receptive h]

theorem exec_calendarSet (h : s.Receptive) (p : Payload) :
    exec (.calendarSet p) s = .next (answer 0x4A (within calendarSet p s) s) := by
  simp only [exec, execCalendarSet, takeRequest_of_receptive h]

theorem exec_lineSet (h : s.Receptive) (p : Payload) :
    exec (.lineSet p) s = .next (answer 0x4B (within lineSet p s) s) := by
  simp only [exec, execLineSet, takeRequest_of_receptive h]

theorem exec_typeSet (h : s.Receptive) (p : Payload) :
    exec (.typeSet p) s = .next (answer 0x28 (within typeSet p s) s) := by
  simp only [exec, execTypeSet, takeRequest_of_receptive h]

theorem exec_typeRead (h : s.Receptive) (p : Payload) :
    exec (.typeRead p) s = .next (answer 0x29 (within typeRead p s) s) := by
  simp only [exec, execTypeRead, takeRequest_of_receptive h]

theorem exec_reqConfirm (h : s.Receptive) (p : Payload) :
    exec (.reqConfirm p) s = .next (answer 0x2A (within reqConfirm p s) s) := by
  simp only [exec, execReqConfirm, takeRequest_of_receptive h]

theorem exec_reqReceive (h : s.Receptive) (p : Payload) :
    exec (.reqReceive p) s = .next (answer 0x2B (within reqReceive p s) s) := by
  simp only [exec, execReqReceive, takeRequest_of_receptive h]

theorem exec_reqCancel (h : s.Receptive) (p : Payload) :
    exec (.reqCancel p) s = .next (answer 0x2C (within reqCancel p s) s) := by
  simp only [exec, execReqCancel, takeRequest_of_receptive h]

theorem exec_reqRead (h : s.Receptive) (p : Payload) :
    exec (.reqRead p) s = .next (answer 0x2D (within reqRead p s) s) := by
  simp only [exec, execReqRead, takeRequest_of_receptive h]

theorem exec_reqNext (h : s.Receptive) (p : Payload) :
    exec (.reqNext p) s = .next (answer 0x2E (within reqNext p s) s) := by
  simp only [exec, execReqNext, takeRequest_of_receptive h]

theorem exec_ticketAck (h : s.Receptive) (p : Payload) :
    exec (.ticketAck p) s = .next (answer 0x18 (within ticketAck p s) s) := by
  simp only [exec, execTicketAck, takeRequest_of_receptive h]

theorem exec_ticketClose (h : s.Receptive) (p : Payload) :
    exec (.ticketClose p) s = .next (answer 0x19 (within ticketClose p s) s) := by
  simp only [exec, execTicketClose, takeRequest_of_receptive h]

theorem exec_ticketRead (h : s.Receptive) (p : Payload) :
    exec (.ticketRead p) s = .next (answer 0x1A (within ticketRead p s) s) := by
  simp only [exec, execTicketRead, takeRequest_of_receptive h]

theorem exec_ticketNext (h : s.Receptive) (p : Payload) :
    exec (.ticketNext p) s = .next (answer 0x1B (within ticketNext p s) s) := by
  simp only [exec, execTicketNext, takeRequest_of_receptive h]

theorem exec_timeSet (h : s.Receptive) (p : Payload) :
    exec (.timeSet p) s = .next (answer 0x09 (within timeSet p s) s) := by
  simp only [exec, execTimeSet, takeRequest_of_receptive h]

theorem exec_timeRead (h : s.Receptive) (p : Payload) :
    exec (.timeRead p) s = .next (answer 0x0A (within timeRead p s) s) := by
  simp only [exec, execTimeRead, takeRequest_of_receptive h]

theorem exec_portReset (h : s.Receptive) (p : Payload) :
    exec (.portReset p) s = .next (if p.length = 0 then beginPortReset s else answer 0x01 (refuse .badLength) s) := by
  simp only [exec, execPortReset, asEvent_of_settled h.settled, atPort_of_receptive h]

/-! ### Events of the part -/

theorem exec_responseStored (h : s.Settled) : exec .responseStored s = .next (storeResponse s) := by
  simp only [exec, execResponseStored, asEvent_of_settled h]

theorem exec_calendarPoll (h : s.Settled) : exec .calendarPoll s = .next (calendarPollEffect s) := by
  simp only [exec, execCalendarPoll, asEvent_of_settled h]

theorem exec_answerPoll (h : s.Settled) : exec .answerPoll s = .next (answerPollEffect s) := by
  simp only [exec, execAnswerPoll, asEvent_of_settled h]

theorem exec_secondEvent (h : s.Settled) : exec .secondEvent s = .next (secondEventEffect s) := by
  simp only [exec, execSecondEvent, asEvent_of_settled h]

theorem exec_sweepPrinterStep (h : s.Settled) : exec .sweepPrinterStep s = .next (printerStepEffect s) := by
  simp only [exec, execSweepPrinterStep, asEvent_of_settled h]

theorem exec_sweepGroupStep (h : s.Settled) : exec .sweepGroupStep s = .next (groupStepEffect s) := by
  simp only [exec, execSweepGroupStep, asEvent_of_settled h]

theorem exec_sweepAccountStep (h : s.Settled) : exec .sweepAccountStep s = .next (accountStepEffect s) := by
  simp only [exec, execSweepAccountStep, asEvent_of_settled h]

theorem exec_sweepTypeStep (h : s.Settled) : exec .sweepTypeStep s = .next (typeStepEffect s) := by
  simp only [exec, execSweepTypeStep, asEvent_of_settled h]

theorem exec_miss (h : s.Settled) : exec .miss s = .next (endWith (fun _ => .miss) s) := by
  simp only [exec, execMiss, asEvent_of_settled h]

theorem exec_stationReply (h : s.Settled) {chars : List Byte} (hc : chars ≠ []) :
    exec (.stationReply chars) s = .next (endWith (fun a => judgeReply a chars) s) := by
  cases chars with
  | nil => exact absurd rfl hc
  | cons c cs => simp only [exec, execStationReply, asEvent_of_settled h, List.isEmpty_cons, Bool.false_eq_true, if_false]

theorem exec_lateReply (h : s.Settled) {chars : List Byte} (hc : chars ≠ []) :
    exec (.lateReply chars) s = .next (endWith (fun _ => .badFrame) s) := by
  cases chars with
  | nil => exact absurd rfl hc
  | cons c cs => simp only [exec, execLateReply, asEvent_of_settled h, List.isEmpty_cons, Bool.false_eq_true, if_false]

/-! ### Timer rows -/

/-- A timer row is `timerRow` of its timer. -/
theorem exec_of_timer {c : Instr} {t : Timer} (h : c.timer? = some t) (s : State) : exec c s = .next (timerRow t s) := by
  cases c <;> simp only [Instr.timer?, reduceCtorEq, Option.some.injEq] at h <;> subst h <;> rfl

/-! ### The taking of a swap -/

/-- What the Stock Unit takes for a swap is `swapTaken`, and the shelf changed exactly when it held one (R71). -/
theorem takeSwap_eq (t : Nat) (s : State) : takeSwap t s = (s.swapTaken t, s.stocked t) := by
  cases h : s.stock.types.get? t with
  | none => simp [takeSwap, State.swapTaken, State.stocked, h]
  | some ty => by_cases hs : 1 ≤ ty.shelf <;> simp [takeSwap, State.swapTaken, State.stocked, h, hs]

end Sys2Proof.Machine
end

