-- ==== Sys2Proof/Laws/State.lean ====
section
/-!
SUPPORT. Laws/State.lean: what each named update of the state does to each field, by definition.
-/

namespace Sys2Proof.Machine

variable (s : State)

/-! setCause changes `port` alone. -/

@[simp] theorem setCause_port (c : Cause) : (setCause c s).port = { s.port with sticky := s.port.sticky ||| c.mask } := rfl
@[simp] theorem setCause_pins (c : Cause) : (setCause c s).pins = s.pins := rfl
@[simp] theorem setCause_time (c : Cause) : (setCause c s).time = s.time := rfl
@[simp] theorem setCause_params (c : Cause) : (setCause c s).params = s.params := rfl
@[simp] theorem setCause_printers (c : Cause) : (setCause c s).printers = s.printers := rfl
@[simp] theorem setCause_callout (c : Cause) : (setCause c s).callout = s.callout := rfl
@[simp] theorem setCause_stock (c : Cause) : (setCause c s).stock = s.stock := rfl
@[simp] theorem setCause_bank (c : Cause) : (setCause c s).bank = s.bank := rfl
@[simp] theorem setCause_store (c : Cause) : (setCause c s).store = s.store := rfl
@[simp] theorem setCause_line (c : Cause) : (setCause c s).line = s.line := rfl
@[simp] theorem setCause_release (c : Cause) : (setCause c s).release = s.release := rfl
@[simp] theorem setCause_second (c : Cause) : (setCause c s).second = s.second := rfl
@[simp] theorem setCause_freeCount (c : Cause) : (setCause c s).freeCount = s.freeCount := rfl
@[simp] theorem setCause_pending (c : Cause) : (setCause c s).pending = s.pending := rfl

/-! setWorking changes `port` alone. -/

@[simp] theorem setWorking_port (r : Response) : (setWorking r s).port = { s.port with phase := .working r } := rfl
@[simp] theorem setWorking_pins (r : Response) : (setWorking r s).pins = s.pins := rfl
@[simp] theorem setWorking_time (r : Response) : (setWorking r s).time = s.time := rfl
@[simp] theorem setWorking_params (r : Response) : (setWorking r s).params = s.params := rfl
@[simp] theorem setWorking_printers (r : Response) : (setWorking r s).printers = s.printers := rfl
@[simp] theorem setWorking_callout (r : Response) : (setWorking r s).callout = s.callout := rfl
@[simp] theorem setWorking_stock (r : Response) : (setWorking r s).stock = s.stock := rfl
@[simp] theorem setWorking_bank (r : Response) : (setWorking r s).bank = s.bank := rfl
@[simp] theorem setWorking_store (r : Response) : (setWorking r s).store = s.store := rfl
@[simp] theorem setWorking_line (r : Response) : (setWorking r s).line = s.line := rfl
@[simp] theorem setWorking_release (r : Response) : (setWorking r s).release = s.release := rfl
@[simp] theorem setWorking_second (r : Response) : (setWorking r s).second = s.second := rfl
@[simp] theorem setWorking_freeCount (r : Response) : (setWorking r s).freeCount = s.freeCount := rfl
@[simp] theorem setWorking_pending (r : Response) : (setWorking r s).pending = s.pending := rfl

/-! updPrinter changes `printers` alone. -/

@[simp] theorem updPrinter_port (n : Nat) (f : Printer → Printer) : (updPrinter n f s).port = s.port := rfl
@[simp] theorem updPrinter_pins (n : Nat) (f : Printer → Printer) : (updPrinter n f s).pins = s.pins := rfl
@[simp] theorem updPrinter_time (n : Nat) (f : Printer → Printer) : (updPrinter n f s).time = s.time := rfl
@[simp] theorem updPrinter_params (n : Nat) (f : Printer → Printer) : (updPrinter n f s).params = s.params := rfl
@[simp] theorem updPrinter_printers (n : Nat) (f : Printer → Printer) :
    (updPrinter n f s).printers = s.printers.modify n f := rfl
@[simp] theorem updPrinter_callout (n : Nat) (f : Printer → Printer) : (updPrinter n f s).callout = s.callout := rfl
@[simp] theorem updPrinter_stock (n : Nat) (f : Printer → Printer) : (updPrinter n f s).stock = s.stock := rfl
@[simp] theorem updPrinter_bank (n : Nat) (f : Printer → Printer) : (updPrinter n f s).bank = s.bank := rfl
@[simp] theorem updPrinter_store (n : Nat) (f : Printer → Printer) : (updPrinter n f s).store = s.store := rfl
@[simp] theorem updPrinter_line (n : Nat) (f : Printer → Printer) : (updPrinter n f s).line = s.line := rfl
@[simp] theorem updPrinter_release (n : Nat) (f : Printer → Printer) : (updPrinter n f s).release = s.release := rfl
@[simp] theorem updPrinter_second (n : Nat) (f : Printer → Printer) : (updPrinter n f s).second = s.second := rfl
@[simp] theorem updPrinter_freeCount (n : Nat) (f : Printer → Printer) : (updPrinter n f s).freeCount = s.freeCount := rfl
@[simp] theorem updPrinter_pending (n : Nat) (f : Printer → Printer) : (updPrinter n f s).pending = s.pending := rfl

/-! updTicket changes `callout` alone. -/

@[simp] theorem updTicket_port (n : Nat) (f : Ticket → Ticket) : (updTicket n f s).port = s.port := rfl
@[simp] theorem updTicket_pins (n : Nat) (f : Ticket → Ticket) : (updTicket n f s).pins = s.pins := rfl
@[simp] theorem updTicket_time (n : Nat) (f : Ticket → Ticket) : (updTicket n f s).time = s.time := rfl
@[simp] theorem updTicket_params (n : Nat) (f : Ticket → Ticket) : (updTicket n f s).params = s.params := rfl
@[simp] theorem updTicket_printers (n : Nat) (f : Ticket → Ticket) : (updTicket n f s).printers = s.printers := rfl
@[simp] theorem updTicket_callout (n : Nat) (f : Ticket → Ticket) :
    (updTicket n f s).callout = { s.callout with tickets := s.callout.tickets.modify n f } := rfl
@[simp] theorem updTicket_stock (n : Nat) (f : Ticket → Ticket) : (updTicket n f s).stock = s.stock := rfl
@[simp] theorem updTicket_bank (n : Nat) (f : Ticket → Ticket) : (updTicket n f s).bank = s.bank := rfl
@[simp] theorem updTicket_store (n : Nat) (f : Ticket → Ticket) : (updTicket n f s).store = s.store := rfl
@[simp] theorem updTicket_line (n : Nat) (f : Ticket → Ticket) : (updTicket n f s).line = s.line := rfl
@[simp] theorem updTicket_release (n : Nat) (f : Ticket → Ticket) : (updTicket n f s).release = s.release := rfl
@[simp] theorem updTicket_second (n : Nat) (f : Ticket → Ticket) : (updTicket n f s).second = s.second := rfl
@[simp] theorem updTicket_freeCount (n : Nat) (f : Ticket → Ticket) : (updTicket n f s).freeCount = s.freeCount := rfl
@[simp] theorem updTicket_pending (n : Nat) (f : Ticket → Ticket) : (updTicket n f s).pending = s.pending := rfl

/-! retireTicket changes `callout` alone. -/

@[simp] theorem retireTicket_port (n : Nat) : (retireTicket n s).port = s.port := rfl
@[simp] theorem retireTicket_pins (n : Nat) : (retireTicket n s).pins = s.pins := rfl
@[simp] theorem retireTicket_time (n : Nat) : (retireTicket n s).time = s.time := rfl
@[simp] theorem retireTicket_params (n : Nat) : (retireTicket n s).params = s.params := rfl
@[simp] theorem retireTicket_printers (n : Nat) : (retireTicket n s).printers = s.printers := rfl
@[simp] theorem retireTicket_callout (n : Nat) :
    (retireTicket n s).callout = { s.callout with tickets := s.callout.tickets.del n } := rfl
@[simp] theorem retireTicket_stock (n : Nat) : (retireTicket n s).stock = s.stock := rfl
@[simp] theorem retireTicket_bank (n : Nat) : (retireTicket n s).bank = s.bank := rfl
@[simp] theorem retireTicket_store (n : Nat) : (retireTicket n s).store = s.store := rfl
@[simp] theorem retireTicket_line (n : Nat) : (retireTicket n s).line = s.line := rfl
@[simp] theorem retireTicket_release (n : Nat) : (retireTicket n s).release = s.release := rfl
@[simp] theorem retireTicket_second (n : Nat) : (retireTicket n s).second = s.second := rfl
@[simp] theorem retireTicket_freeCount (n : Nat) : (retireTicket n s).freeCount = s.freeCount := rfl
@[simp] theorem retireTicket_pending (n : Nat) : (retireTicket n s).pending = s.pending := rfl

/-! updType changes `stock` alone. -/

@[simp] theorem updType_port (n : Nat) (f : CartridgeType → CartridgeType) : (updType n f s).port = s.port := rfl
@[simp] theorem updType_pins (n : Nat) (f : CartridgeType → CartridgeType) : (updType n f s).pins = s.pins := rfl
@[simp] theorem updType_time (n : Nat) (f : CartridgeType → CartridgeType) : (updType n f s).time = s.time := rfl
@[simp] theorem updType_params (n : Nat) (f : CartridgeType → CartridgeType) : (updType n f s).params = s.params := rfl
@[simp] theorem updType_printers (n : Nat) (f : CartridgeType → CartridgeType) : (updType n f s).printers = s.printers := rfl
@[simp] theorem updType_callout (n : Nat) (f : CartridgeType → CartridgeType) : (updType n f s).callout = s.callout := rfl
@[simp] theorem updType_stock (n : Nat) (f : CartridgeType → CartridgeType) :
    (updType n f s).stock = { s.stock with types := s.stock.types.modify n f } := rfl
@[simp] theorem updType_bank (n : Nat) (f : CartridgeType → CartridgeType) : (updType n f s).bank = s.bank := rfl
@[simp] theorem updType_store (n : Nat) (f : CartridgeType → CartridgeType) : (updType n f s).store = s.store := rfl
@[simp] theorem updType_line (n : Nat) (f : CartridgeType → CartridgeType) : (updType n f s).line = s.line := rfl
@[simp] theorem updType_release (n : Nat) (f : CartridgeType → CartridgeType) : (updType n f s).release = s.release := rfl
@[simp] theorem updType_second (n : Nat) (f : CartridgeType → CartridgeType) : (updType n f s).second = s.second := rfl
@[simp] theorem updType_freeCount (n : Nat) (f : CartridgeType → CartridgeType) : (updType n f s).freeCount = s.freeCount := rfl
@[simp] theorem updType_pending (n : Nat) (f : CartridgeType → CartridgeType) : (updType n f s).pending = s.pending := rfl

/-! setTypePending changes `stock` alone. -/

@[simp] theorem setTypePending_port (b : Bool) (n : Nat) : (setTypePending b n s).port = s.port := rfl
@[simp] theorem setTypePending_pins (b : Bool) (n : Nat) : (setTypePending b n s).pins = s.pins := rfl
@[simp] theorem setTypePending_time (b : Bool) (n : Nat) : (setTypePending b n s).time = s.time := rfl
@[simp] theorem setTypePending_params (b : Bool) (n : Nat) : (setTypePending b n s).params = s.params := rfl
@[simp] theorem setTypePending_printers (b : Bool) (n : Nat) : (setTypePending b n s).printers = s.printers := rfl
@[simp] theorem setTypePending_callout (b : Bool) (n : Nat) : (setTypePending b n s).callout = s.callout := rfl
@[simp] theorem setTypePending_stock (b : Bool) (n : Nat) :
    (setTypePending b n s).stock = { s.stock with types := s.stock.types.modify n fun r => { r with pending := b } } := rfl
@[simp] theorem setTypePending_bank (b : Bool) (n : Nat) : (setTypePending b n s).bank = s.bank := rfl
@[simp] theorem setTypePending_store (b : Bool) (n : Nat) : (setTypePending b n s).store = s.store := rfl
@[simp] theorem setTypePending_line (b : Bool) (n : Nat) : (setTypePending b n s).line = s.line := rfl
@[simp] theorem setTypePending_release (b : Bool) (n : Nat) : (setTypePending b n s).release = s.release := rfl
@[simp] theorem setTypePending_second (b : Bool) (n : Nat) : (setTypePending b n s).second = s.second := rfl
@[simp] theorem setTypePending_freeCount (b : Bool) (n : Nat) : (setTypePending b n s).freeCount = s.freeCount := rfl
@[simp] theorem setTypePending_pending (b : Bool) (n : Nat) : (setTypePending b n s).pending = s.pending := rfl

/-! updReq changes `stock` alone. -/

@[simp] theorem updReq_port (n : Nat) (f : Requisition → Requisition) : (updReq n f s).port = s.port := rfl
@[simp] theorem updReq_pins (n : Nat) (f : Requisition → Requisition) : (updReq n f s).pins = s.pins := rfl
@[simp] theorem updReq_time (n : Nat) (f : Requisition → Requisition) : (updReq n f s).time = s.time := rfl
@[simp] theorem updReq_params (n : Nat) (f : Requisition → Requisition) : (updReq n f s).params = s.params := rfl
@[simp] theorem updReq_printers (n : Nat) (f : Requisition → Requisition) : (updReq n f s).printers = s.printers := rfl
@[simp] theorem updReq_callout (n : Nat) (f : Requisition → Requisition) : (updReq n f s).callout = s.callout := rfl
@[simp] theorem updReq_stock (n : Nat) (f : Requisition → Requisition) :
    (updReq n f s).stock = { s.stock with reqs := s.stock.reqs.modify n f } := rfl
@[simp] theorem updReq_bank (n : Nat) (f : Requisition → Requisition) : (updReq n f s).bank = s.bank := rfl
@[simp] theorem updReq_store (n : Nat) (f : Requisition → Requisition) : (updReq n f s).store = s.store := rfl
@[simp] theorem updReq_line (n : Nat) (f : Requisition → Requisition) : (updReq n f s).line = s.line := rfl
@[simp] theorem updReq_release (n : Nat) (f : Requisition → Requisition) : (updReq n f s).release = s.release := rfl
@[simp] theorem updReq_second (n : Nat) (f : Requisition → Requisition) : (updReq n f s).second = s.second := rfl
@[simp] theorem updReq_freeCount (n : Nat) (f : Requisition → Requisition) : (updReq n f s).freeCount = s.freeCount := rfl
@[simp] theorem updReq_pending (n : Nat) (f : Requisition → Requisition) : (updReq n f s).pending = s.pending := rfl

/-! retireReq changes `stock` alone. -/

@[simp] theorem retireReq_port (n : Nat) : (retireReq n s).port = s.port := rfl
@[simp] theorem retireReq_pins (n : Nat) : (retireReq n s).pins = s.pins := rfl
@[simp] theorem retireReq_time (n : Nat) : (retireReq n s).time = s.time := rfl
@[simp] theorem retireReq_params (n : Nat) : (retireReq n s).params = s.params := rfl
@[simp] theorem retireReq_printers (n : Nat) : (retireReq n s).printers = s.printers := rfl
@[simp] theorem retireReq_callout (n : Nat) : (retireReq n s).callout = s.callout := rfl
@[simp] theorem retireReq_stock (n : Nat) : (retireReq n s).stock = { s.stock with reqs := s.stock.reqs.del n } := rfl
@[simp] theorem retireReq_bank (n : Nat) : (retireReq n s).bank = s.bank := rfl
@[simp] theorem retireReq_store (n : Nat) : (retireReq n s).store = s.store := rfl
@[simp] theorem retireReq_line (n : Nat) : (retireReq n s).line = s.line := rfl
@[simp] theorem retireReq_release (n : Nat) : (retireReq n s).release = s.release := rfl
@[simp] theorem retireReq_second (n : Nat) : (retireReq n s).second = s.second := rfl
@[simp] theorem retireReq_freeCount (n : Nat) : (retireReq n s).freeCount = s.freeCount := rfl
@[simp] theorem retireReq_pending (n : Nat) : (retireReq n s).pending = s.pending := rfl

/-! updAccount changes `bank` alone. -/

@[simp] theorem updAccount_port (n : Nat) (f : Account → Account) : (updAccount n f s).port = s.port := rfl
@[simp] theorem updAccount_pins (n : Nat) (f : Account → Account) : (updAccount n f s).pins = s.pins := rfl
@[simp] theorem updAccount_time (n : Nat) (f : Account → Account) : (updAccount n f s).time = s.time := rfl
@[simp] theorem updAccount_params (n : Nat) (f : Account → Account) : (updAccount n f s).params = s.params := rfl
@[simp] theorem updAccount_printers (n : Nat) (f : Account → Account) : (updAccount n f s).printers = s.printers := rfl
@[simp] theorem updAccount_callout (n : Nat) (f : Account → Account) : (updAccount n f s).callout = s.callout := rfl
@[simp] theorem updAccount_stock (n : Nat) (f : Account → Account) : (updAccount n f s).stock = s.stock := rfl
@[simp] theorem updAccount_bank (n : Nat) (f : Account → Account) :
    (updAccount n f s).bank = { s.bank with accounts := s.bank.accounts.modify n f } := rfl
@[simp] theorem updAccount_store (n : Nat) (f : Account → Account) : (updAccount n f s).store = s.store := rfl
@[simp] theorem updAccount_line (n : Nat) (f : Account → Account) : (updAccount n f s).line = s.line := rfl
@[simp] theorem updAccount_release (n : Nat) (f : Account → Account) : (updAccount n f s).release = s.release := rfl
@[simp] theorem updAccount_second (n : Nat) (f : Account → Account) : (updAccount n f s).second = s.second := rfl
@[simp] theorem updAccount_freeCount (n : Nat) (f : Account → Account) : (updAccount n f s).freeCount = s.freeCount := rfl
@[simp] theorem updAccount_pending (n : Nat) (f : Account → Account) : (updAccount n f s).pending = s.pending := rfl

/-! removeAccount changes `bank` alone. -/

@[simp] theorem removeAccount_port (n : Nat) : (removeAccount n s).port = s.port := rfl
@[simp] theorem removeAccount_pins (n : Nat) : (removeAccount n s).pins = s.pins := rfl
@[simp] theorem removeAccount_time (n : Nat) : (removeAccount n s).time = s.time := rfl
@[simp] theorem removeAccount_params (n : Nat) : (removeAccount n s).params = s.params := rfl
@[simp] theorem removeAccount_printers (n : Nat) : (removeAccount n s).printers = s.printers := rfl
@[simp] theorem removeAccount_callout (n : Nat) : (removeAccount n s).callout = s.callout := rfl
@[simp] theorem removeAccount_stock (n : Nat) : (removeAccount n s).stock = s.stock := rfl
@[simp] theorem removeAccount_bank (n : Nat) :
    (removeAccount n s).bank = { s.bank with accounts := s.bank.accounts.del n } := rfl
@[simp] theorem removeAccount_store (n : Nat) : (removeAccount n s).store = s.store := rfl
@[simp] theorem removeAccount_line (n : Nat) : (removeAccount n s).line = s.line := rfl
@[simp] theorem removeAccount_release (n : Nat) : (removeAccount n s).release = s.release := rfl
@[simp] theorem removeAccount_second (n : Nat) : (removeAccount n s).second = s.second := rfl
@[simp] theorem removeAccount_freeCount (n : Nat) : (removeAccount n s).freeCount = s.freeCount := rfl
@[simp] theorem removeAccount_pending (n : Nat) : (removeAccount n s).pending = s.pending := rfl

/-! updGroup changes `bank` alone. -/

@[simp] theorem updGroup_port (n : Nat) (f : BudgetGroup → BudgetGroup) : (updGroup n f s).port = s.port := rfl
@[simp] theorem updGroup_pins (n : Nat) (f : BudgetGroup → BudgetGroup) : (updGroup n f s).pins = s.pins := rfl
@[simp] theorem updGroup_time (n : Nat) (f : BudgetGroup → BudgetGroup) : (updGroup n f s).time = s.time := rfl
@[simp] theorem updGroup_params (n : Nat) (f : BudgetGroup → BudgetGroup) : (updGroup n f s).params = s.params := rfl
@[simp] theorem updGroup_printers (n : Nat) (f : BudgetGroup → BudgetGroup) : (updGroup n f s).printers = s.printers := rfl
@[simp] theorem updGroup_callout (n : Nat) (f : BudgetGroup → BudgetGroup) : (updGroup n f s).callout = s.callout := rfl
@[simp] theorem updGroup_stock (n : Nat) (f : BudgetGroup → BudgetGroup) : (updGroup n f s).stock = s.stock := rfl
@[simp] theorem updGroup_bank (n : Nat) (f : BudgetGroup → BudgetGroup) :
    (updGroup n f s).bank = { s.bank with groups := s.bank.groups.modify n f } := rfl
@[simp] theorem updGroup_store (n : Nat) (f : BudgetGroup → BudgetGroup) : (updGroup n f s).store = s.store := rfl
@[simp] theorem updGroup_line (n : Nat) (f : BudgetGroup → BudgetGroup) : (updGroup n f s).line = s.line := rfl
@[simp] theorem updGroup_release (n : Nat) (f : BudgetGroup → BudgetGroup) : (updGroup n f s).release = s.release := rfl
@[simp] theorem updGroup_second (n : Nat) (f : BudgetGroup → BudgetGroup) : (updGroup n f s).second = s.second := rfl
@[simp] theorem updGroup_freeCount (n : Nat) (f : BudgetGroup → BudgetGroup) : (updGroup n f s).freeCount = s.freeCount := rfl
@[simp] theorem updGroup_pending (n : Nat) (f : BudgetGroup → BudgetGroup) : (updGroup n f s).pending = s.pending := rfl

/-! updJob changes `store` alone. -/

@[simp] theorem updJob_port (n : Nat) (f : Job → Job) : (updJob n f s).port = s.port := rfl
@[simp] theorem updJob_pins (n : Nat) (f : Job → Job) : (updJob n f s).pins = s.pins := rfl
@[simp] theorem updJob_time (n : Nat) (f : Job → Job) : (updJob n f s).time = s.time := rfl
@[simp] theorem updJob_params (n : Nat) (f : Job → Job) : (updJob n f s).params = s.params := rfl
@[simp] theorem updJob_printers (n : Nat) (f : Job → Job) : (updJob n f s).printers = s.printers := rfl
@[simp] theorem updJob_callout (n : Nat) (f : Job → Job) : (updJob n f s).callout = s.callout := rfl
@[simp] theorem updJob_stock (n : Nat) (f : Job → Job) : (updJob n f s).stock = s.stock := rfl
@[simp] theorem updJob_bank (n : Nat) (f : Job → Job) : (updJob n f s).bank = s.bank := rfl
@[simp] theorem updJob_store (n : Nat) (f : Job → Job) :
    (updJob n f s).store = { s.store with records := s.store.records.map fun j => if j.number == n then f j else j } := rfl
@[simp] theorem updJob_line (n : Nat) (f : Job → Job) : (updJob n f s).line = s.line := rfl
@[simp] theorem updJob_release (n : Nat) (f : Job → Job) : (updJob n f s).release = s.release := rfl
@[simp] theorem updJob_second (n : Nat) (f : Job → Job) : (updJob n f s).second = s.second := rfl
@[simp] theorem updJob_freeCount (n : Nat) (f : Job → Job) : (updJob n f s).freeCount = s.freeCount := rfl
@[simp] theorem updJob_pending (n : Nat) (f : Job → Job) : (updJob n f s).pending = s.pending := rfl

/-! retireJob changes `store` alone. -/

@[simp] theorem retireJob_port (n : Nat) : (retireJob n s).port = s.port := rfl
@[simp] theorem retireJob_pins (n : Nat) : (retireJob n s).pins = s.pins := rfl
@[simp] theorem retireJob_time (n : Nat) : (retireJob n s).time = s.time := rfl
@[simp] theorem retireJob_params (n : Nat) : (retireJob n s).params = s.params := rfl
@[simp] theorem retireJob_printers (n : Nat) : (retireJob n s).printers = s.printers := rfl
@[simp] theorem retireJob_callout (n : Nat) : (retireJob n s).callout = s.callout := rfl
@[simp] theorem retireJob_stock (n : Nat) : (retireJob n s).stock = s.stock := rfl
@[simp] theorem retireJob_bank (n : Nat) : (retireJob n s).bank = s.bank := rfl
@[simp] theorem retireJob_store (n : Nat) :
    (retireJob n s).store = { s.store with records := s.store.records.filter fun j => j.number != n, expiry := s.store.expiry.erase n } := rfl
@[simp] theorem retireJob_line (n : Nat) : (retireJob n s).line = s.line := rfl
@[simp] theorem retireJob_release (n : Nat) : (retireJob n s).release = s.release := rfl
@[simp] theorem retireJob_second (n : Nat) : (retireJob n s).second = s.second := rfl
@[simp] theorem retireJob_freeCount (n : Nat) : (retireJob n s).freeCount = s.freeCount := rfl
@[simp] theorem retireJob_pending (n : Nat) : (retireJob n s).pending = s.pending := rfl

/-! storeJob changes `store` alone. -/

@[simp] theorem storeJob_port (j : Job) : (storeJob j s).port = s.port := rfl
@[simp] theorem storeJob_pins (j : Job) : (storeJob j s).pins = s.pins := rfl
@[simp] theorem storeJob_time (j : Job) : (storeJob j s).time = s.time := rfl
@[simp] theorem storeJob_params (j : Job) : (storeJob j s).params = s.params := rfl
@[simp] theorem storeJob_printers (j : Job) : (storeJob j s).printers = s.printers := rfl
@[simp] theorem storeJob_callout (j : Job) : (storeJob j s).callout = s.callout := rfl
@[simp] theorem storeJob_stock (j : Job) : (storeJob j s).stock = s.stock := rfl
@[simp] theorem storeJob_bank (j : Job) : (storeJob j s).bank = s.bank := rfl
@[simp] theorem storeJob_store (j : Job) :
    (storeJob j s).store = ⟨s.store.records ++ [j], j.number, s.store.nextSeq + 1, s.store.expiry ++ [j.number]⟩ := rfl
@[simp] theorem storeJob_line (j : Job) : (storeJob j s).line = s.line := rfl
@[simp] theorem storeJob_release (j : Job) : (storeJob j s).release = s.release := rfl
@[simp] theorem storeJob_second (j : Job) : (storeJob j s).second = s.second := rfl
@[simp] theorem storeJob_freeCount (j : Job) : (storeJob j s).freeCount = s.freeCount := rfl
@[simp] theorem storeJob_pending (j : Job) : (storeJob j s).pending = s.pending := rfl

/-! retargetJobs changes `store` alone. -/

@[simp] theorem retargetJobs_port (pn fl : Nat) : (retargetJobs pn fl s).port = s.port := rfl
@[simp] theorem retargetJobs_pins (pn fl : Nat) : (retargetJobs pn fl s).pins = s.pins := rfl
@[simp] theorem retargetJobs_time (pn fl : Nat) : (retargetJobs pn fl s).time = s.time := rfl
@[simp] theorem retargetJobs_params (pn fl : Nat) : (retargetJobs pn fl s).params = s.params := rfl
@[simp] theorem retargetJobs_printers (pn fl : Nat) : (retargetJobs pn fl s).printers = s.printers := rfl
@[simp] theorem retargetJobs_callout (pn fl : Nat) : (retargetJobs pn fl s).callout = s.callout := rfl
@[simp] theorem retargetJobs_stock (pn fl : Nat) : (retargetJobs pn fl s).stock = s.stock := rfl
@[simp] theorem retargetJobs_bank (pn fl : Nat) : (retargetJobs pn fl s).bank = s.bank := rfl
@[simp] theorem retargetJobs_store (pn fl : Nat) :
    (retargetJobs pn fl s).store = { s.store with records := s.store.records.map (Job.retargeted pn fl) } := rfl
@[simp] theorem retargetJobs_line (pn fl : Nat) : (retargetJobs pn fl s).line = s.line := rfl
@[simp] theorem retargetJobs_release (pn fl : Nat) : (retargetJobs pn fl s).release = s.release := rfl
@[simp] theorem retargetJobs_second (pn fl : Nat) : (retargetJobs pn fl s).second = s.second := rfl
@[simp] theorem retargetJobs_freeCount (pn fl : Nat) : (retargetJobs pn fl s).freeCount = s.freeCount := rfl
@[simp] theorem retargetJobs_pending (pn fl : Nat) : (retargetJobs pn fl s).pending = s.pending := rfl

/-! updStation changes `line` alone. -/

@[simp] theorem updStation_port (n : Nat) (f : Station → Station) : (updStation n f s).port = s.port := rfl
@[simp] theorem updStation_pins (n : Nat) (f : Station → Station) : (updStation n f s).pins = s.pins := rfl
@[simp] theorem updStation_time (n : Nat) (f : Station → Station) : (updStation n f s).time = s.time := rfl
@[simp] theorem updStation_params (n : Nat) (f : Station → Station) : (updStation n f s).params = s.params := rfl
@[simp] theorem updStation_printers (n : Nat) (f : Station → Station) : (updStation n f s).printers = s.printers := rfl
@[simp] theorem updStation_callout (n : Nat) (f : Station → Station) : (updStation n f s).callout = s.callout := rfl
@[simp] theorem updStation_stock (n : Nat) (f : Station → Station) : (updStation n f s).stock = s.stock := rfl
@[simp] theorem updStation_bank (n : Nat) (f : Station → Station) : (updStation n f s).bank = s.bank := rfl
@[simp] theorem updStation_store (n : Nat) (f : Station → Station) : (updStation n f s).store = s.store := rfl
@[simp] theorem updStation_line (n : Nat) (f : Station → Station) :
    (updStation n f s).line = { s.line with stations := s.line.stations.modify n f } := rfl
@[simp] theorem updStation_release (n : Nat) (f : Station → Station) : (updStation n f s).release = s.release := rfl
@[simp] theorem updStation_second (n : Nat) (f : Station → Station) : (updStation n f s).second = s.second := rfl
@[simp] theorem updStation_freeCount (n : Nat) (f : Station → Station) : (updStation n f s).freeCount = s.freeCount := rfl
@[simp] theorem updStation_pending (n : Nat) (f : Station → Station) : (updStation n f s).pending = s.pending := rfl

/-! unbindStations changes `line` alone. -/

@[simp] theorem unbindStations_port (pn : Nat) : (unbindStations pn s).port = s.port := rfl
@[simp] theorem unbindStations_pins (pn : Nat) : (unbindStations pn s).pins = s.pins := rfl
@[simp] theorem unbindStations_time (pn : Nat) : (unbindStations pn s).time = s.time := rfl
@[simp] theorem unbindStations_params (pn : Nat) : (unbindStations pn s).params = s.params := rfl
@[simp] theorem unbindStations_printers (pn : Nat) : (unbindStations pn s).printers = s.printers := rfl
@[simp] theorem unbindStations_callout (pn : Nat) : (unbindStations pn s).callout = s.callout := rfl
@[simp] theorem unbindStations_stock (pn : Nat) : (unbindStations pn s).stock = s.stock := rfl
@[simp] theorem unbindStations_bank (pn : Nat) : (unbindStations pn s).bank = s.bank := rfl
@[simp] theorem unbindStations_store (pn : Nat) : (unbindStations pn s).store = s.store := rfl
@[simp] theorem unbindStations_line (pn : Nat) :
    (unbindStations pn s).line = { s.line with stations := s.line.stations.map fun e => (e.1, e.2.unbound pn) } := rfl
@[simp] theorem unbindStations_release (pn : Nat) : (unbindStations pn s).release = s.release := rfl
@[simp] theorem unbindStations_second (pn : Nat) : (unbindStations pn s).second = s.second := rfl
@[simp] theorem unbindStations_freeCount (pn : Nat) : (unbindStations pn s).freeCount = s.freeCount := rfl
@[simp] theorem unbindStations_pending (pn : Nat) : (unbindStations pn s).pending = s.pending := rfl

/-! undispatch changes `release` alone. -/

@[simp] theorem undispatch_port (n : Nat) : (undispatch n s).port = s.port := rfl
@[simp] theorem undispatch_pins (n : Nat) : (undispatch n s).pins = s.pins := rfl
@[simp] theorem undispatch_time (n : Nat) : (undispatch n s).time = s.time := rfl
@[simp] theorem undispatch_params (n : Nat) : (undispatch n s).params = s.params := rfl
@[simp] theorem undispatch_printers (n : Nat) : (undispatch n s).printers = s.printers := rfl
@[simp] theorem undispatch_callout (n : Nat) : (undispatch n s).callout = s.callout := rfl
@[simp] theorem undispatch_stock (n : Nat) : (undispatch n s).stock = s.stock := rfl
@[simp] theorem undispatch_bank (n : Nat) : (undispatch n s).bank = s.bank := rfl
@[simp] theorem undispatch_store (n : Nat) : (undispatch n s).store = s.store := rfl
@[simp] theorem undispatch_line (n : Nat) : (undispatch n s).line = s.line := rfl
@[simp] theorem undispatch_release (n : Nat) :
    (undispatch n s).release = { s.release with dispatch := s.release.dispatch.erase n } := rfl
@[simp] theorem undispatch_second (n : Nat) : (undispatch n s).second = s.second := rfl
@[simp] theorem undispatch_freeCount (n : Nat) : (undispatch n s).freeCount = s.freeCount := rfl
@[simp] theorem undispatch_pending (n : Nat) : (undispatch n s).pending = s.pending := rfl

/-! setWalk changes `time` alone. -/

@[simp] theorem setWalk_port (w : Option SweepWalk) : (setWalk w s).port = s.port := rfl
@[simp] theorem setWalk_pins (w : Option SweepWalk) : (setWalk w s).pins = s.pins := rfl
@[simp] theorem setWalk_time (w : Option SweepWalk) : (setWalk w s).time = { s.time with sweep := w } := rfl
@[simp] theorem setWalk_params (w : Option SweepWalk) : (setWalk w s).params = s.params := rfl
@[simp] theorem setWalk_printers (w : Option SweepWalk) : (setWalk w s).printers = s.printers := rfl
@[simp] theorem setWalk_callout (w : Option SweepWalk) : (setWalk w s).callout = s.callout := rfl
@[simp] theorem setWalk_stock (w : Option SweepWalk) : (setWalk w s).stock = s.stock := rfl
@[simp] theorem setWalk_bank (w : Option SweepWalk) : (setWalk w s).bank = s.bank := rfl
@[simp] theorem setWalk_store (w : Option SweepWalk) : (setWalk w s).store = s.store := rfl
@[simp] theorem setWalk_line (w : Option SweepWalk) : (setWalk w s).line = s.line := rfl
@[simp] theorem setWalk_release (w : Option SweepWalk) : (setWalk w s).release = s.release := rfl
@[simp] theorem setWalk_second (w : Option SweepWalk) : (setWalk w s).second = s.second := rfl
@[simp] theorem setWalk_freeCount (w : Option SweepWalk) : (setWalk w s).freeCount = s.freeCount := rfl
@[simp] theorem setWalk_pending (w : Option SweepWalk) : (setWalk w s).pending = s.pending := rfl

/-! noteReturned changes `second` alone. -/

@[simp] theorem noteReturned_port (ns : List Nat) : (noteReturned ns s).port = s.port := rfl
@[simp] theorem noteReturned_pins (ns : List Nat) : (noteReturned ns s).pins = s.pins := rfl
@[simp] theorem noteReturned_time (ns : List Nat) : (noteReturned ns s).time = s.time := rfl
@[simp] theorem noteReturned_params (ns : List Nat) : (noteReturned ns s).params = s.params := rfl
@[simp] theorem noteReturned_printers (ns : List Nat) : (noteReturned ns s).printers = s.printers := rfl
@[simp] theorem noteReturned_callout (ns : List Nat) : (noteReturned ns s).callout = s.callout := rfl
@[simp] theorem noteReturned_stock (ns : List Nat) : (noteReturned ns s).stock = s.stock := rfl
@[simp] theorem noteReturned_bank (ns : List Nat) : (noteReturned ns s).bank = s.bank := rfl
@[simp] theorem noteReturned_store (ns : List Nat) : (noteReturned ns s).store = s.store := rfl
@[simp] theorem noteReturned_line (ns : List Nat) : (noteReturned ns s).line = s.line := rfl
@[simp] theorem noteReturned_release (ns : List Nat) : (noteReturned ns s).release = s.release := rfl
@[simp] theorem noteReturned_second (ns : List Nat) :
    (noteReturned ns s).second = { s.second with returned := s.second.returned ++ ns } := rfl
@[simp] theorem noteReturned_freeCount (ns : List Nat) : (noteReturned ns s).freeCount = s.freeCount := rfl
@[simp] theorem noteReturned_pending (ns : List Nat) : (noteReturned ns s).pending = s.pending := rfl

/-! noteUnreconciled changes `second` alone. -/

@[simp] theorem noteUnreconciled_port (ps : List Nat) : (noteUnreconciled ps s).port = s.port := rfl
@[simp] theorem noteUnreconciled_pins (ps : List Nat) : (noteUnreconciled ps s).pins = s.pins := rfl
@[simp] theorem noteUnreconciled_time (ps : List Nat) : (noteUnreconciled ps s).time = s.time := rfl
@[simp] theorem noteUnreconciled_params (ps : List Nat) : (noteUnreconciled ps s).params = s.params := rfl
@[simp] theorem noteUnreconciled_printers (ps : List Nat) : (noteUnreconciled ps s).printers = s.printers := rfl
@[simp] theorem noteUnreconciled_callout (ps : List Nat) : (noteUnreconciled ps s).callout = s.callout := rfl
@[simp] theorem noteUnreconciled_stock (ps : List Nat) : (noteUnreconciled ps s).stock = s.stock := rfl
@[simp] theorem noteUnreconciled_bank (ps : List Nat) : (noteUnreconciled ps s).bank = s.bank := rfl
@[simp] theorem noteUnreconciled_store (ps : List Nat) : (noteUnreconciled ps s).store = s.store := rfl
@[simp] theorem noteUnreconciled_line (ps : List Nat) : (noteUnreconciled ps s).line = s.line := rfl
@[simp] theorem noteUnreconciled_release (ps : List Nat) : (noteUnreconciled ps s).release = s.release := rfl
@[simp] theorem noteUnreconciled_second (ps : List Nat) :
    (noteUnreconciled ps s).second = { s.second with unreconciled := s.second.unreconciled ++ ps } := rfl
@[simp] theorem noteUnreconciled_freeCount (ps : List Nat) : (noteUnreconciled ps s).freeCount = s.freeCount := rfl
@[simp] theorem noteUnreconciled_pending (ps : List Nat) : (noteUnreconciled ps s).pending = s.pending := rfl

end Sys2Proof.Machine
end

