-- ==== Sys2Proof/Laws/Frames.lean ====
section
/-!
SUPPORT. Laws/Frames.lean: the fields of the state that each shared operation leaves as they were.
-/

namespace Sys2Proof.Machine

/-- A fold keeps what each of its steps keeps. -/
theorem foldl_keeps {σ α β : Type} (g : σ → β) (f : σ → α → σ) (h : ∀ s a, g (f s a) = g s) (l : List α) (s : σ) :
    g (l.foldl f s) = g s := by
  induction l generalizing s with
  | nil => rfl
  | cons a l ih => rw [List.foldl_cons, ih, h]

variable (s : State)

/-! setCauseIf touches port. -/

@[simp] theorem setCauseIf_pins (b : Bool) (c : Cause) : (setCauseIf b c s).pins = s.pins := by
  unfold setCauseIf; (repeat' split) <;> simp
@[simp] theorem setCauseIf_time (b : Bool) (c : Cause) : (setCauseIf b c s).time = s.time := by
  unfold setCauseIf; (repeat' split) <;> simp
@[simp] theorem setCauseIf_params (b : Bool) (c : Cause) : (setCauseIf b c s).params = s.params := by
  unfold setCauseIf; (repeat' split) <;> simp
@[simp] theorem setCauseIf_printers (b : Bool) (c : Cause) : (setCauseIf b c s).printers = s.printers := by
  unfold setCauseIf; (repeat' split) <;> simp
@[simp] theorem setCauseIf_callout (b : Bool) (c : Cause) : (setCauseIf b c s).callout = s.callout := by
  unfold setCauseIf; (repeat' split) <;> simp
@[simp] theorem setCauseIf_stock (b : Bool) (c : Cause) : (setCauseIf b c s).stock = s.stock := by
  unfold setCauseIf; (repeat' split) <;> simp
@[simp] theorem setCauseIf_bank (b : Bool) (c : Cause) : (setCauseIf b c s).bank = s.bank := by
  unfold setCauseIf; (repeat' split) <;> simp
@[simp] theorem setCauseIf_store (b : Bool) (c : Cause) : (setCauseIf b c s).store = s.store := by
  unfold setCauseIf; (repeat' split) <;> simp
@[simp] theorem setCauseIf_line (b : Bool) (c : Cause) : (setCauseIf b c s).line = s.line := by
  unfold setCauseIf; (repeat' split) <;> simp
@[simp] theorem setCauseIf_release (b : Bool) (c : Cause) : (setCauseIf b c s).release = s.release := by
  unfold setCauseIf; (repeat' split) <;> simp
@[simp] theorem setCauseIf_second (b : Bool) (c : Cause) : (setCauseIf b c s).second = s.second := by
  unfold setCauseIf; (repeat' split) <;> simp
@[simp] theorem setCauseIf_freeCount (b : Bool) (c : Cause) : (setCauseIf b c s).freeCount = s.freeCount := by
  unfold setCauseIf; (repeat' split) <;> simp
@[simp] theorem setCauseIf_pending (b : Bool) (c : Cause) : (setCauseIf b c s).pending = s.pending := by
  unfold setCauseIf; (repeat' split) <;> simp

/-! growReq touches stock, port. -/

@[simp] theorem growReq_pins (t q n : Nat) (r : Requisition) : (growReq t q n r s).1.pins = s.pins := by
  unfold growReq; (repeat' split) <;> simp
@[simp] theorem growReq_time (t q n : Nat) (r : Requisition) : (growReq t q n r s).1.time = s.time := by
  unfold growReq; (repeat' split) <;> simp
@[simp] theorem growReq_params (t q n : Nat) (r : Requisition) : (growReq t q n r s).1.params = s.params := by
  unfold growReq; (repeat' split) <;> simp
@[simp] theorem growReq_printers (t q n : Nat) (r : Requisition) : (growReq t q n r s).1.printers = s.printers := by
  unfold growReq; (repeat' split) <;> simp
@[simp] theorem growReq_callout (t q n : Nat) (r : Requisition) : (growReq t q n r s).1.callout = s.callout := by
  unfold growReq; (repeat' split) <;> simp
@[simp] theorem growReq_bank (t q n : Nat) (r : Requisition) : (growReq t q n r s).1.bank = s.bank := by
  unfold growReq; (repeat' split) <;> simp
@[simp] theorem growReq_store (t q n : Nat) (r : Requisition) : (growReq t q n r s).1.store = s.store := by
  unfold growReq; (repeat' split) <;> simp
@[simp] theorem growReq_line (t q n : Nat) (r : Requisition) : (growReq t q n r s).1.line = s.line := by
  unfold growReq; (repeat' split) <;> simp
@[simp] theorem growReq_release (t q n : Nat) (r : Requisition) : (growReq t q n r s).1.release = s.release := by
  unfold growReq; (repeat' split) <;> simp
@[simp] theorem growReq_second (t q n : Nat) (r : Requisition) : (growReq t q n r s).1.second = s.second := by
  unfold growReq; (repeat' split) <;> simp
@[simp] theorem growReq_freeCount (t q n : Nat) (r : Requisition) : (growReq t q n r s).1.freeCount = s.freeCount := by
  unfold growReq; (repeat' split) <;> simp
@[simp] theorem growReq_pending (t q n : Nat) (r : Requisition) : (growReq t q n r s).1.pending = s.pending := by
  unfold growReq; (repeat' split) <;> simp

/-! issueReq touches stock, port. -/

@[simp] theorem issueReq_pins (t q : Nat) : (issueReq t q s).1.pins = s.pins := by
  unfold issueReq; simp
@[simp] theorem issueReq_time (t q : Nat) : (issueReq t q s).1.time = s.time := by
  unfold issueReq; simp
@[simp] theorem issueReq_params (t q : Nat) : (issueReq t q s).1.params = s.params := by
  unfold issueReq; simp
@[simp] theorem issueReq_printers (t q : Nat) : (issueReq t q s).1.printers = s.printers := by
  unfold issueReq; simp
@[simp] theorem issueReq_callout (t q : Nat) : (issueReq t q s).1.callout = s.callout := by
  unfold issueReq; simp
@[simp] theorem issueReq_bank (t q : Nat) : (issueReq t q s).1.bank = s.bank := by
  unfold issueReq; simp
@[simp] theorem issueReq_store (t q : Nat) : (issueReq t q s).1.store = s.store := by
  unfold issueReq; simp
@[simp] theorem issueReq_line (t q : Nat) : (issueReq t q s).1.line = s.line := by
  unfold issueReq; simp
@[simp] theorem issueReq_release (t q : Nat) : (issueReq t q s).1.release = s.release := by
  unfold issueReq; simp
@[simp] theorem issueReq_second (t q : Nat) : (issueReq t q s).1.second = s.second := by
  unfold issueReq; simp
@[simp] theorem issueReq_freeCount (t q : Nat) : (issueReq t q s).1.freeCount = s.freeCount := by
  unfold issueReq; simp
@[simp] theorem issueReq_pending (t q : Nat) : (issueReq t q s).1.pending = s.pending := by
  unfold issueReq; simp

/-! reorder touches stock, port. -/

@[simp] theorem reorder_pins (t : Nat) : (reorder t s).1.pins = s.pins := by
  unfold reorder
  split
  · rfl
  · dsimp only
    split
    · simp
    · split
      · simp
      · split <;> simp
@[simp] theorem reorder_time (t : Nat) : (reorder t s).1.time = s.time := by
  unfold reorder
  split
  · rfl
  · dsimp only
    split
    · simp
    · split
      · simp
      · split <;> simp
@[simp] theorem reorder_params (t : Nat) : (reorder t s).1.params = s.params := by
  unfold reorder
  split
  · rfl
  · dsimp only
    split
    · simp
    · split
      · simp
      · split <;> simp
@[simp] theorem reorder_printers (t : Nat) : (reorder t s).1.printers = s.printers := by
  unfold reorder
  split
  · rfl
  · dsimp only
    split
    · simp
    · split
      · simp
      · split <;> simp
@[simp] theorem reorder_callout (t : Nat) : (reorder t s).1.callout = s.callout := by
  unfold reorder
  split
  · rfl
  · dsimp only
    split
    · simp
    · split
      · simp
      · split <;> simp
@[simp] theorem reorder_bank (t : Nat) : (reorder t s).1.bank = s.bank := by
  unfold reorder
  split
  · rfl
  · dsimp only
    split
    · simp
    · split
      · simp
      · split <;> simp
@[simp] theorem reorder_store (t : Nat) : (reorder t s).1.store = s.store := by
  unfold reorder
  split
  · rfl
  · dsimp only
    split
    · simp
    · split
      · simp
      · split <;> simp
@[simp] theorem reorder_line (t : Nat) : (reorder t s).1.line = s.line := by
  unfold reorder
  split
  · rfl
  · dsimp only
    split
    · simp
    · split
      · simp
      · split <;> simp
@[simp] theorem reorder_release (t : Nat) : (reorder t s).1.release = s.release := by
  unfold reorder
  split
  · rfl
  · dsimp only
    split
    · simp
    · split
      · simp
      · split <;> simp
@[simp] theorem reorder_second (t : Nat) : (reorder t s).1.second = s.second := by
  unfold reorder
  split
  · rfl
  · dsimp only
    split
    · simp
    · split
      · simp
      · split <;> simp
@[simp] theorem reorder_freeCount (t : Nat) : (reorder t s).1.freeCount = s.freeCount := by
  unfold reorder
  split
  · rfl
  · dsimp only
    split
    · simp
    · split
      · simp
      · split <;> simp
@[simp] theorem reorder_pending (t : Nat) : (reorder t s).1.pending = s.pending := by
  unfold reorder
  split
  · rfl
  · dsimp only
    split
    · simp
    · split
      · simp
      · split <;> simp

/-! reorderCheck touches stock, port. -/

@[simp] theorem reorderCheck_pins (t : Nat) : (reorderCheck t s).pins = s.pins := reorder_pins s t
@[simp] theorem reorderCheck_time (t : Nat) : (reorderCheck t s).time = s.time := reorder_time s t
@[simp] theorem reorderCheck_params (t : Nat) : (reorderCheck t s).params = s.params := reorder_params s t
@[simp] theorem reorderCheck_printers (t : Nat) : (reorderCheck t s).printers = s.printers := reorder_printers s t
@[simp] theorem reorderCheck_callout (t : Nat) : (reorderCheck t s).callout = s.callout := reorder_callout s t
@[simp] theorem reorderCheck_bank (t : Nat) : (reorderCheck t s).bank = s.bank := reorder_bank s t
@[simp] theorem reorderCheck_store (t : Nat) : (reorderCheck t s).store = s.store := reorder_store s t
@[simp] theorem reorderCheck_line (t : Nat) : (reorderCheck t s).line = s.line := reorder_line s t
@[simp] theorem reorderCheck_release (t : Nat) : (reorderCheck t s).release = s.release := reorder_release s t
@[simp] theorem reorderCheck_second (t : Nat) : (reorderCheck t s).second = s.second := reorder_second s t
@[simp] theorem reorderCheck_freeCount (t : Nat) : (reorderCheck t s).freeCount = s.freeCount := reorder_freeCount s t
@[simp] theorem reorderCheck_pending (t : Nat) : (reorderCheck t s).pending = s.pending := reorder_pending s t

/-! reorderChecks touches stock, port. -/

@[simp] theorem reorderChecks_pins (ts : List Nat) : (reorderChecks ts s).pins = s.pins := by
  unfold reorderChecks; exact foldl_keeps (fun s : State => s.pins) _ (fun s t => reorderCheck_pins s t) _ _
@[simp] theorem reorderChecks_time (ts : List Nat) : (reorderChecks ts s).time = s.time := by
  unfold reorderChecks; exact foldl_keeps (fun s : State => s.time) _ (fun s t => reorderCheck_time s t) _ _
@[simp] theorem reorderChecks_params (ts : List Nat) : (reorderChecks ts s).params = s.params := by
  unfold reorderChecks; exact foldl_keeps (fun s : State => s.params) _ (fun s t => reorderCheck_params s t) _ _
@[simp] theorem reorderChecks_printers (ts : List Nat) : (reorderChecks ts s).printers = s.printers := by
  unfold reorderChecks; exact foldl_keeps (fun s : State => s.printers) _ (fun s t => reorderCheck_printers s t) _ _
@[simp] theorem reorderChecks_callout (ts : List Nat) : (reorderChecks ts s).callout = s.callout := by
  unfold reorderChecks; exact foldl_keeps (fun s : State => s.callout) _ (fun s t => reorderCheck_callout s t) _ _
@[simp] theorem reorderChecks_bank (ts : List Nat) : (reorderChecks ts s).bank = s.bank := by
  unfold reorderChecks; exact foldl_keeps (fun s : State => s.bank) _ (fun s t => reorderCheck_bank s t) _ _
@[simp] theorem reorderChecks_store (ts : List Nat) : (reorderChecks ts s).store = s.store := by
  unfold reorderChecks; exact foldl_keeps (fun s : State => s.store) _ (fun s t => reorderCheck_store s t) _ _
@[simp] theorem reorderChecks_line (ts : List Nat) : (reorderChecks ts s).line = s.line := by
  unfold reorderChecks; exact foldl_keeps (fun s : State => s.line) _ (fun s t => reorderCheck_line s t) _ _
@[simp] theorem reorderChecks_release (ts : List Nat) : (reorderChecks ts s).release = s.release := by
  unfold reorderChecks; exact foldl_keeps (fun s : State => s.release) _ (fun s t => reorderCheck_release s t) _ _
@[simp] theorem reorderChecks_second (ts : List Nat) : (reorderChecks ts s).second = s.second := by
  unfold reorderChecks; exact foldl_keeps (fun s : State => s.second) _ (fun s t => reorderCheck_second s t) _ _
@[simp] theorem reorderChecks_freeCount (ts : List Nat) : (reorderChecks ts s).freeCount = s.freeCount := by
  unfold reorderChecks; exact foldl_keeps (fun s : State => s.freeCount) _ (fun s t => reorderCheck_freeCount s t) _ _
@[simp] theorem reorderChecks_pending (ts : List Nat) : (reorderChecks ts s).pending = s.pending := by
  unfold reorderChecks; exact foldl_keeps (fun s : State => s.pending) _ (fun s t => reorderCheck_pending s t) _ _

/-! servePendingFrom touches stock, port. -/

@[simp] theorem servePendingFrom_pins (ts : List Nat) : (servePendingFrom ts s).pins = s.pins := by
  induction ts generalizing s with
  | nil => rfl
  | cons t ts ih =>
    have h := reorder_pins s t
    unfold servePendingFrom
    split
    · split <;> rename_i heq <;> rw [heq] at h
      · exact h
      · rw [ih]; exact h
    · exact ih s
@[simp] theorem servePendingFrom_time (ts : List Nat) : (servePendingFrom ts s).time = s.time := by
  induction ts generalizing s with
  | nil => rfl
  | cons t ts ih =>
    have h := reorder_time s t
    unfold servePendingFrom
    split
    · split <;> rename_i heq <;> rw [heq] at h
      · exact h
      · rw [ih]; exact h
    · exact ih s
@[simp] theorem servePendingFrom_params (ts : List Nat) : (servePendingFrom ts s).params = s.params := by
  induction ts generalizing s with
  | nil => rfl
  | cons t ts ih =>
    have h := reorder_params s t
    unfold servePendingFrom
    split
    · split <;> rename_i heq <;> rw [heq] at h
      · exact h
      · rw [ih]; exact h
    · exact ih s
@[simp] theorem servePendingFrom_printers (ts : List Nat) : (servePendingFrom ts s).printers = s.printers := by
  induction ts generalizing s with
  | nil => rfl
  | cons t ts ih =>
    have h := reorder_printers s t
    unfold servePendingFrom
    split
    · split <;> rename_i heq <;> rw [heq] at h
      · exact h
      · rw [ih]; exact h
    · exact ih s
@[simp] theorem servePendingFrom_callout (ts : List Nat) : (servePendingFrom ts s).callout = s.callout := by
  induction ts generalizing s with
  | nil => rfl
  | cons t ts ih =>
    have h := reorder_callout s t
    unfold servePendingFrom
    split
    · split <;> rename_i heq <;> rw [heq] at h
      · exact h
      · rw [ih]; exact h
    · exact ih s
@[simp] theorem servePendingFrom_bank (ts : List Nat) : (servePendingFrom ts s).bank = s.bank := by
  induction ts generalizing s with
  | nil => rfl
  | cons t ts ih =>
    have h := reorder_bank s t
    unfold servePendingFrom
    split
    · split <;> rename_i heq <;> rw [heq] at h
      · exact h
      · rw [ih]; exact h
    · exact ih s
@[simp] theorem servePendingFrom_store (ts : List Nat) : (servePendingFrom ts s).store = s.store := by
  induction ts generalizing s with
  | nil => rfl
  | cons t ts ih =>
    have h := reorder_store s t
    unfold servePendingFrom
    split
    · split <;> rename_i heq <;> rw [heq] at h
      · exact h
      · rw [ih]; exact h
    · exact ih s
@[simp] theorem servePendingFrom_line (ts : List Nat) : (servePendingFrom ts s).line = s.line := by
  induction ts generalizing s with
  | nil => rfl
  | cons t ts ih =>
    have h := reorder_line s t
    unfold servePendingFrom
    split
    · split <;> rename_i heq <;> rw [heq] at h
      · exact h
      · rw [ih]; exact h
    · exact ih s
@[simp] theorem servePendingFrom_release (ts : List Nat) : (servePendingFrom ts s).release = s.release := by
  induction ts generalizing s with
  | nil => rfl
  | cons t ts ih =>
    have h := reorder_release s t
    unfold servePendingFrom
    split
    · split <;> rename_i heq <;> rw [heq] at h
      · exact h
      · rw [ih]; exact h
    · exact ih s
@[simp] theorem servePendingFrom_second (ts : List Nat) : (servePendingFrom ts s).second = s.second := by
  induction ts generalizing s with
  | nil => rfl
  | cons t ts ih =>
    have h := reorder_second s t
    unfold servePendingFrom
    split
    · split <;> rename_i heq <;> rw [heq] at h
      · exact h
      · rw [ih]; exact h
    · exact ih s
@[simp] theorem servePendingFrom_freeCount (ts : List Nat) : (servePendingFrom ts s).freeCount = s.freeCount := by
  induction ts generalizing s with
  | nil => rfl
  | cons t ts ih =>
    have h := reorder_freeCount s t
    unfold servePendingFrom
    split
    · split <;> rename_i heq <;> rw [heq] at h
      · exact h
      · rw [ih]; exact h
    · exact ih s
@[simp] theorem servePendingFrom_pending (ts : List Nat) : (servePendingFrom ts s).pending = s.pending := by
  induction ts generalizing s with
  | nil => rfl
  | cons t ts ih =>
    have h := reorder_pending s t
    unfold servePendingFrom
    split
    · split <;> rename_i heq <;> rw [heq] at h
      · exact h
      · rw [ih]; exact h
    · exact ih s

/-! servePending touches stock, port. -/

@[simp] theorem servePending_pins : (servePending s).pins = s.pins := servePendingFrom_pins s _
@[simp] theorem servePending_time : (servePending s).time = s.time := servePendingFrom_time s _
@[simp] theorem servePending_params : (servePending s).params = s.params := servePendingFrom_params s _
@[simp] theorem servePending_printers : (servePending s).printers = s.printers := servePendingFrom_printers s _
@[simp] theorem servePending_callout : (servePending s).callout = s.callout := servePendingFrom_callout s _
@[simp] theorem servePending_bank : (servePending s).bank = s.bank := servePendingFrom_bank s _
@[simp] theorem servePending_store : (servePending s).store = s.store := servePendingFrom_store s _
@[simp] theorem servePending_line : (servePending s).line = s.line := servePendingFrom_line s _
@[simp] theorem servePending_release : (servePending s).release = s.release := servePendingFrom_release s _
@[simp] theorem servePending_second : (servePending s).second = s.second := servePendingFrom_second s _
@[simp] theorem servePending_freeCount : (servePending s).freeCount = s.freeCount := servePendingFrom_freeCount s _
@[simp] theorem servePending_pending : (servePending s).pending = s.pending := servePendingFrom_pending s _

/-! takeSwap touches stock, port. -/

@[simp] theorem takeSwap_pins (t : Nat) : (takeSwap t s).1.pins = s.pins := by
  unfold takeSwap; (repeat' split) <;> simp
@[simp] theorem takeSwap_time (t : Nat) : (takeSwap t s).1.time = s.time := by
  unfold takeSwap; (repeat' split) <;> simp
@[simp] theorem takeSwap_params (t : Nat) : (takeSwap t s).1.params = s.params := by
  unfold takeSwap; (repeat' split) <;> simp
@[simp] theorem takeSwap_printers (t : Nat) : (takeSwap t s).1.printers = s.printers := by
  unfold takeSwap; (repeat' split) <;> simp
@[simp] theorem takeSwap_callout (t : Nat) : (takeSwap t s).1.callout = s.callout := by
  unfold takeSwap; (repeat' split) <;> simp
@[simp] theorem takeSwap_bank (t : Nat) : (takeSwap t s).1.bank = s.bank := by
  unfold takeSwap; (repeat' split) <;> simp
@[simp] theorem takeSwap_store (t : Nat) : (takeSwap t s).1.store = s.store := by
  unfold takeSwap; (repeat' split) <;> simp
@[simp] theorem takeSwap_line (t : Nat) : (takeSwap t s).1.line = s.line := by
  unfold takeSwap; (repeat' split) <;> simp
@[simp] theorem takeSwap_release (t : Nat) : (takeSwap t s).1.release = s.release := by
  unfold takeSwap; (repeat' split) <;> simp
@[simp] theorem takeSwap_second (t : Nat) : (takeSwap t s).1.second = s.second := by
  unfold takeSwap; (repeat' split) <;> simp
@[simp] theorem takeSwap_freeCount (t : Nat) : (takeSwap t s).1.freeCount = s.freeCount := by
  unfold takeSwap; (repeat' split) <;> simp
@[simp] theorem takeSwap_pending (t : Nat) : (takeSwap t s).1.pending = s.pending := by
  unfold takeSwap; (repeat' split) <;> simp

/-! issueTicket touches printers, callout, port. -/

@[simp] theorem issueTicket_pins (n : Nat) : (issueTicket n s).pins = s.pins := by
  unfold issueTicket; (repeat' split) <;> simp
@[simp] theorem issueTicket_time (n : Nat) : (issueTicket n s).time = s.time := by
  unfold issueTicket; (repeat' split) <;> simp
@[simp] theorem issueTicket_params (n : Nat) : (issueTicket n s).params = s.params := by
  unfold issueTicket; (repeat' split) <;> simp
@[simp] theorem issueTicket_stock (n : Nat) : (issueTicket n s).stock = s.stock := by
  unfold issueTicket; (repeat' split) <;> simp
@[simp] theorem issueTicket_bank (n : Nat) : (issueTicket n s).bank = s.bank := by
  unfold issueTicket; (repeat' split) <;> simp
@[simp] theorem issueTicket_store (n : Nat) : (issueTicket n s).store = s.store := by
  unfold issueTicket; (repeat' split) <;> simp
@[simp] theorem issueTicket_line (n : Nat) : (issueTicket n s).line = s.line := by
  unfold issueTicket; (repeat' split) <;> simp
@[simp] theorem issueTicket_release (n : Nat) : (issueTicket n s).release = s.release := by
  unfold issueTicket; (repeat' split) <;> simp
@[simp] theorem issueTicket_second (n : Nat) : (issueTicket n s).second = s.second := by
  unfold issueTicket; (repeat' split) <;> simp
@[simp] theorem issueTicket_freeCount (n : Nat) : (issueTicket n s).freeCount = s.freeCount := by
  unfold issueTicket; (repeat' split) <;> simp
@[simp] theorem issueTicket_pending (n : Nat) : (issueTicket n s).pending = s.pending := by
  unfold issueTicket; (repeat' split) <;> simp

/-! deferCallout touches printers, port. -/

@[simp] theorem deferCallout_pins (n : Nat) : (deferCallout n s).pins = s.pins := rfl
@[simp] theorem deferCallout_time (n : Nat) : (deferCallout n s).time = s.time := rfl
@[simp] theorem deferCallout_params (n : Nat) : (deferCallout n s).params = s.params := rfl
@[simp] theorem deferCallout_callout (n : Nat) : (deferCallout n s).callout = s.callout := rfl
@[simp] theorem deferCallout_stock (n : Nat) : (deferCallout n s).stock = s.stock := rfl
@[simp] theorem deferCallout_bank (n : Nat) : (deferCallout n s).bank = s.bank := rfl
@[simp] theorem deferCallout_store (n : Nat) : (deferCallout n s).store = s.store := rfl
@[simp] theorem deferCallout_line (n : Nat) : (deferCallout n s).line = s.line := rfl
@[simp] theorem deferCallout_release (n : Nat) : (deferCallout n s).release = s.release := rfl
@[simp] theorem deferCallout_second (n : Nat) : (deferCallout n s).second = s.second := rfl
@[simp] theorem deferCallout_freeCount (n : Nat) : (deferCallout n s).freeCount = s.freeCount := rfl
@[simp] theorem deferCallout_pending (n : Nat) : (deferCallout n s).pending = s.pending := rfl

/-! reconcileTicket touches printers, callout, port. -/

@[simp] theorem reconcileTicket_pins (n : Nat) (t : Ticket) (p : Printer) (k : Nat) : (reconcileTicket n t p s k).1.pins = s.pins := by
  unfold reconcileTicket; (repeat' split) <;> simp
@[simp] theorem reconcileTicket_time (n : Nat) (t : Ticket) (p : Printer) (k : Nat) : (reconcileTicket n t p s k).1.time = s.time := by
  unfold reconcileTicket; (repeat' split) <;> simp
@[simp] theorem reconcileTicket_params (n : Nat) (t : Ticket) (p : Printer) (k : Nat) : (reconcileTicket n t p s k).1.params = s.params := by
  unfold reconcileTicket; (repeat' split) <;> simp
@[simp] theorem reconcileTicket_stock (n : Nat) (t : Ticket) (p : Printer) (k : Nat) : (reconcileTicket n t p s k).1.stock = s.stock := by
  unfold reconcileTicket; (repeat' split) <;> simp
@[simp] theorem reconcileTicket_bank (n : Nat) (t : Ticket) (p : Printer) (k : Nat) : (reconcileTicket n t p s k).1.bank = s.bank := by
  unfold reconcileTicket; (repeat' split) <;> simp
@[simp] theorem reconcileTicket_store (n : Nat) (t : Ticket) (p : Printer) (k : Nat) : (reconcileTicket n t p s k).1.store = s.store := by
  unfold reconcileTicket; (repeat' split) <;> simp
@[simp] theorem reconcileTicket_line (n : Nat) (t : Ticket) (p : Printer) (k : Nat) : (reconcileTicket n t p s k).1.line = s.line := by
  unfold reconcileTicket; (repeat' split) <;> simp
@[simp] theorem reconcileTicket_release (n : Nat) (t : Ticket) (p : Printer) (k : Nat) : (reconcileTicket n t p s k).1.release = s.release := by
  unfold reconcileTicket; (repeat' split) <;> simp
@[simp] theorem reconcileTicket_second (n : Nat) (t : Ticket) (p : Printer) (k : Nat) : (reconcileTicket n t p s k).1.second = s.second := by
  unfold reconcileTicket; (repeat' split) <;> simp
@[simp] theorem reconcileTicket_freeCount (n : Nat) (t : Ticket) (p : Printer) (k : Nat) : (reconcileTicket n t p s k).1.freeCount = s.freeCount := by
  unfold reconcileTicket; (repeat' split) <;> simp
@[simp] theorem reconcileTicket_pending (n : Nat) (t : Ticket) (p : Printer) (k : Nat) : (reconcileTicket n t p s k).1.pending = s.pending := by
  unfold reconcileTicket; (repeat' split) <;> simp

variable (a : State × Nat)

/-! reconcile touches printers, callout, port. -/

@[simp] theorem reconcile_pins (n : Nat) : (reconcile a n).1.pins = a.1.pins := by
  unfold reconcile; (repeat' split) <;> simp
@[simp] theorem reconcile_time (n : Nat) : (reconcile a n).1.time = a.1.time := by
  unfold reconcile; (repeat' split) <;> simp
@[simp] theorem reconcile_params (n : Nat) : (reconcile a n).1.params = a.1.params := by
  unfold reconcile; (repeat' split) <;> simp
@[simp] theorem reconcile_stock (n : Nat) : (reconcile a n).1.stock = a.1.stock := by
  unfold reconcile; (repeat' split) <;> simp
@[simp] theorem reconcile_bank (n : Nat) : (reconcile a n).1.bank = a.1.bank := by
  unfold reconcile; (repeat' split) <;> simp
@[simp] theorem reconcile_store (n : Nat) : (reconcile a n).1.store = a.1.store := by
  unfold reconcile; (repeat' split) <;> simp
@[simp] theorem reconcile_line (n : Nat) : (reconcile a n).1.line = a.1.line := by
  unfold reconcile; (repeat' split) <;> simp
@[simp] theorem reconcile_release (n : Nat) : (reconcile a n).1.release = a.1.release := by
  unfold reconcile; (repeat' split) <;> simp
@[simp] theorem reconcile_second (n : Nat) : (reconcile a n).1.second = a.1.second := by
  unfold reconcile; (repeat' split) <;> simp
@[simp] theorem reconcile_freeCount (n : Nat) : (reconcile a n).1.freeCount = a.1.freeCount := by
  unfold reconcile; (repeat' split) <;> simp
@[simp] theorem reconcile_pending (n : Nat) : (reconcile a n).1.pending = a.1.pending := by
  unfold reconcile; (repeat' split) <;> simp

/-! handOver touches printers, callout, port. -/

@[simp] theorem handOver_pins : (handOver s).pins = s.pins := by
  unfold handOver; (repeat' split) <;> simp
@[simp] theorem handOver_time : (handOver s).time = s.time := by
  unfold handOver; (repeat' split) <;> simp
@[simp] theorem handOver_params : (handOver s).params = s.params := by
  unfold handOver; (repeat' split) <;> simp
@[simp] theorem handOver_stock : (handOver s).stock = s.stock := by
  unfold handOver; (repeat' split) <;> simp
@[simp] theorem handOver_bank : (handOver s).bank = s.bank := by
  unfold handOver; (repeat' split) <;> simp
@[simp] theorem handOver_store : (handOver s).store = s.store := by
  unfold handOver; (repeat' split) <;> simp
@[simp] theorem handOver_line : (handOver s).line = s.line := by
  unfold handOver; (repeat' split) <;> simp
@[simp] theorem handOver_release : (handOver s).release = s.release := by
  unfold handOver; (repeat' split) <;> simp
@[simp] theorem handOver_second : (handOver s).second = s.second := by
  unfold handOver; (repeat' split) <;> simp
@[simp] theorem handOver_freeCount : (handOver s).freeCount = s.freeCount := by
  unfold handOver; (repeat' split) <;> simp
@[simp] theorem handOver_pending : (handOver s).pending = s.pending := by
  unfold handOver; (repeat' split) <;> simp

/-! handOvers touches printers, callout, port. -/

@[simp] theorem handOvers_pins (k : Nat) : (handOvers k s).pins = s.pins := by
  induction k generalizing s with
  | zero => rfl
  | succ k ih => rw [handOvers, ih, handOver_pins]
@[simp] theorem handOvers_time (k : Nat) : (handOvers k s).time = s.time := by
  induction k generalizing s with
  | zero => rfl
  | succ k ih => rw [handOvers, ih, handOver_time]
@[simp] theorem handOvers_params (k : Nat) : (handOvers k s).params = s.params := by
  induction k generalizing s with
  | zero => rfl
  | succ k ih => rw [handOvers, ih, handOver_params]
@[simp] theorem handOvers_stock (k : Nat) : (handOvers k s).stock = s.stock := by
  induction k generalizing s with
  | zero => rfl
  | succ k ih => rw [handOvers, ih, handOver_stock]
@[simp] theorem handOvers_bank (k : Nat) : (handOvers k s).bank = s.bank := by
  induction k generalizing s with
  | zero => rfl
  | succ k ih => rw [handOvers, ih, handOver_bank]
@[simp] theorem handOvers_store (k : Nat) : (handOvers k s).store = s.store := by
  induction k generalizing s with
  | zero => rfl
  | succ k ih => rw [handOvers, ih, handOver_store]
@[simp] theorem handOvers_line (k : Nat) : (handOvers k s).line = s.line := by
  induction k generalizing s with
  | zero => rfl
  | succ k ih => rw [handOvers, ih, handOver_line]
@[simp] theorem handOvers_release (k : Nat) : (handOvers k s).release = s.release := by
  induction k generalizing s with
  | zero => rfl
  | succ k ih => rw [handOvers, ih, handOver_release]
@[simp] theorem handOvers_second (k : Nat) : (handOvers k s).second = s.second := by
  induction k generalizing s with
  | zero => rfl
  | succ k ih => rw [handOvers, ih, handOver_second]
@[simp] theorem handOvers_freeCount (k : Nat) : (handOvers k s).freeCount = s.freeCount := by
  induction k generalizing s with
  | zero => rfl
  | succ k ih => rw [handOvers, ih, handOver_freeCount]
@[simp] theorem handOvers_pending (k : Nat) : (handOvers k s).pending = s.pending := by
  induction k generalizing s with
  | zero => rfl
  | succ k ih => rw [handOvers, ih, handOver_pending]

/-! reconcileAll touches printers, callout, port. -/

@[simp] theorem reconcileAll_pins (ps : List Nat) : (reconcileAll ps s).pins = s.pins := by
  unfold reconcileAll
  exact (handOvers_pins _ _).trans (foldl_keeps (fun a : State × Nat => a.1.pins) reconcile (fun a n => reconcile_pins a n) _ _)
@[simp] theorem reconcileAll_time (ps : List Nat) : (reconcileAll ps s).time = s.time := by
  unfold reconcileAll
  exact (handOvers_time _ _).trans (foldl_keeps (fun a : State × Nat => a.1.time) reconcile (fun a n => reconcile_time a n) _ _)
@[simp] theorem reconcileAll_params (ps : List Nat) : (reconcileAll ps s).params = s.params := by
  unfold reconcileAll
  exact (handOvers_params _ _).trans (foldl_keeps (fun a : State × Nat => a.1.params) reconcile (fun a n => reconcile_params a n) _ _)
@[simp] theorem reconcileAll_stock (ps : List Nat) : (reconcileAll ps s).stock = s.stock := by
  unfold reconcileAll
  exact (handOvers_stock _ _).trans (foldl_keeps (fun a : State × Nat => a.1.stock) reconcile (fun a n => reconcile_stock a n) _ _)
@[simp] theorem reconcileAll_bank (ps : List Nat) : (reconcileAll ps s).bank = s.bank := by
  unfold reconcileAll
  exact (handOvers_bank _ _).trans (foldl_keeps (fun a : State × Nat => a.1.bank) reconcile (fun a n => reconcile_bank a n) _ _)
@[simp] theorem reconcileAll_store (ps : List Nat) : (reconcileAll ps s).store = s.store := by
  unfold reconcileAll
  exact (handOvers_store _ _).trans (foldl_keeps (fun a : State × Nat => a.1.store) reconcile (fun a n => reconcile_store a n) _ _)
@[simp] theorem reconcileAll_line (ps : List Nat) : (reconcileAll ps s).line = s.line := by
  unfold reconcileAll
  exact (handOvers_line _ _).trans (foldl_keeps (fun a : State × Nat => a.1.line) reconcile (fun a n => reconcile_line a n) _ _)
@[simp] theorem reconcileAll_release (ps : List Nat) : (reconcileAll ps s).release = s.release := by
  unfold reconcileAll
  exact (handOvers_release _ _).trans (foldl_keeps (fun a : State × Nat => a.1.release) reconcile (fun a n => reconcile_release a n) _ _)
@[simp] theorem reconcileAll_second (ps : List Nat) : (reconcileAll ps s).second = s.second := by
  unfold reconcileAll
  exact (handOvers_second _ _).trans (foldl_keeps (fun a : State × Nat => a.1.second) reconcile (fun a n => reconcile_second a n) _ _)
@[simp] theorem reconcileAll_freeCount (ps : List Nat) : (reconcileAll ps s).freeCount = s.freeCount := by
  unfold reconcileAll
  exact (handOvers_freeCount _ _).trans (foldl_keeps (fun a : State × Nat => a.1.freeCount) reconcile (fun a n => reconcile_freeCount a n) _ _)
@[simp] theorem reconcileAll_pending (ps : List Nat) : (reconcileAll ps s).pending = s.pending := by
  unfold reconcileAll
  exact (handOvers_pending _ _).trans (foldl_keeps (fun a : State × Nat => a.1.pending) reconcile (fun a n => reconcile_pending a n) _ _)

/-! calloutUpdate touches printers, callout, port. -/

@[simp] theorem calloutUpdate_pins (cs ts : List Nat) : (calloutUpdate cs ts s).pins = s.pins := by
  unfold calloutUpdate
  exact (reconcileAll_pins _ _).trans (foldl_keeps (fun s : State => s.pins) judgePrinter (fun _ _ => rfl) _ _)
@[simp] theorem calloutUpdate_time (cs ts : List Nat) : (calloutUpdate cs ts s).time = s.time := by
  unfold calloutUpdate
  exact (reconcileAll_time _ _).trans (foldl_keeps (fun s : State => s.time) judgePrinter (fun _ _ => rfl) _ _)
@[simp] theorem calloutUpdate_params (cs ts : List Nat) : (calloutUpdate cs ts s).params = s.params := by
  unfold calloutUpdate
  exact (reconcileAll_params _ _).trans (foldl_keeps (fun s : State => s.params) judgePrinter (fun _ _ => rfl) _ _)
@[simp] theorem calloutUpdate_stock (cs ts : List Nat) : (calloutUpdate cs ts s).stock = s.stock := by
  unfold calloutUpdate
  exact (reconcileAll_stock _ _).trans (foldl_keeps (fun s : State => s.stock) judgePrinter (fun _ _ => rfl) _ _)
@[simp] theorem calloutUpdate_bank (cs ts : List Nat) : (calloutUpdate cs ts s).bank = s.bank := by
  unfold calloutUpdate
  exact (reconcileAll_bank _ _).trans (foldl_keeps (fun s : State => s.bank) judgePrinter (fun _ _ => rfl) _ _)
@[simp] theorem calloutUpdate_store (cs ts : List Nat) : (calloutUpdate cs ts s).store = s.store := by
  unfold calloutUpdate
  exact (reconcileAll_store _ _).trans (foldl_keeps (fun s : State => s.store) judgePrinter (fun _ _ => rfl) _ _)
@[simp] theorem calloutUpdate_line (cs ts : List Nat) : (calloutUpdate cs ts s).line = s.line := by
  unfold calloutUpdate
  exact (reconcileAll_line _ _).trans (foldl_keeps (fun s : State => s.line) judgePrinter (fun _ _ => rfl) _ _)
@[simp] theorem calloutUpdate_release (cs ts : List Nat) : (calloutUpdate cs ts s).release = s.release := by
  unfold calloutUpdate
  exact (reconcileAll_release _ _).trans (foldl_keeps (fun s : State => s.release) judgePrinter (fun _ _ => rfl) _ _)
@[simp] theorem calloutUpdate_second (cs ts : List Nat) : (calloutUpdate cs ts s).second = s.second := by
  unfold calloutUpdate
  exact (reconcileAll_second _ _).trans (foldl_keeps (fun s : State => s.second) judgePrinter (fun _ _ => rfl) _ _)
@[simp] theorem calloutUpdate_freeCount (cs ts : List Nat) : (calloutUpdate cs ts s).freeCount = s.freeCount := by
  unfold calloutUpdate
  exact (reconcileAll_freeCount _ _).trans (foldl_keeps (fun s : State => s.freeCount) judgePrinter (fun _ _ => rfl) _ _)
@[simp] theorem calloutUpdate_pending (cs ts : List Nat) : (calloutUpdate cs ts s).pending = s.pending := by
  unfold calloutUpdate
  exact (reconcileAll_pending _ _).trans (foldl_keeps (fun s : State => s.pending) judgePrinter (fun _ _ => rfl) _ _)

/-! addReservation touches bank. -/

@[simp] theorem addReservation_port (n u v : Nat) : (addReservation n u v s).port = s.port := by
  unfold addReservation; (repeat' split) <;> simp
@[simp] theorem addReservation_pins (n u v : Nat) : (addReservation n u v s).pins = s.pins := by
  unfold addReservation; (repeat' split) <;> simp
@[simp] theorem addReservation_time (n u v : Nat) : (addReservation n u v s).time = s.time := by
  unfold addReservation; (repeat' split) <;> simp
@[simp] theorem addReservation_params (n u v : Nat) : (addReservation n u v s).params = s.params := by
  unfold addReservation; (repeat' split) <;> simp
@[simp] theorem addReservation_printers (n u v : Nat) : (addReservation n u v s).printers = s.printers := by
  unfold addReservation; (repeat' split) <;> simp
@[simp] theorem addReservation_callout (n u v : Nat) : (addReservation n u v s).callout = s.callout := by
  unfold addReservation; (repeat' split) <;> simp
@[simp] theorem addReservation_stock (n u v : Nat) : (addReservation n u v s).stock = s.stock := by
  unfold addReservation; (repeat' split) <;> simp
@[simp] theorem addReservation_store (n u v : Nat) : (addReservation n u v s).store = s.store := by
  unfold addReservation; (repeat' split) <;> simp
@[simp] theorem addReservation_line (n u v : Nat) : (addReservation n u v s).line = s.line := by
  unfold addReservation; (repeat' split) <;> simp
@[simp] theorem addReservation_release (n u v : Nat) : (addReservation n u v s).release = s.release := by
  unfold addReservation; (repeat' split) <;> simp
@[simp] theorem addReservation_second (n u v : Nat) : (addReservation n u v s).second = s.second := by
  unfold addReservation; (repeat' split) <;> simp
@[simp] theorem addReservation_freeCount (n u v : Nat) : (addReservation n u v s).freeCount = s.freeCount := by
  unfold addReservation; (repeat' split) <;> simp
@[simp] theorem addReservation_pending (n u v : Nat) : (addReservation n u v s).pending = s.pending := by
  unfold addReservation; (repeat' split) <;> simp

/-! markExhausted touches bank, port. -/

@[simp] theorem markExhausted_pins (n : Nat) : (markExhausted n s).pins = s.pins := by
  unfold markExhausted; simp
@[simp] theorem markExhausted_time (n : Nat) : (markExhausted n s).time = s.time := by
  unfold markExhausted; simp
@[simp] theorem markExhausted_params (n : Nat) : (markExhausted n s).params = s.params := by
  unfold markExhausted; simp
@[simp] theorem markExhausted_printers (n : Nat) : (markExhausted n s).printers = s.printers := by
  unfold markExhausted; simp
@[simp] theorem markExhausted_callout (n : Nat) : (markExhausted n s).callout = s.callout := by
  unfold markExhausted; simp
@[simp] theorem markExhausted_stock (n : Nat) : (markExhausted n s).stock = s.stock := by
  unfold markExhausted; simp
@[simp] theorem markExhausted_store (n : Nat) : (markExhausted n s).store = s.store := by
  unfold markExhausted; simp
@[simp] theorem markExhausted_line (n : Nat) : (markExhausted n s).line = s.line := by
  unfold markExhausted; simp
@[simp] theorem markExhausted_release (n : Nat) : (markExhausted n s).release = s.release := by
  unfold markExhausted; simp
@[simp] theorem markExhausted_second (n : Nat) : (markExhausted n s).second = s.second := by
  unfold markExhausted; simp
@[simp] theorem markExhausted_freeCount (n : Nat) : (markExhausted n s).freeCount = s.freeCount := by
  unfold markExhausted; simp
@[simp] theorem markExhausted_pending (n : Nat) : (markExhausted n s).pending = s.pending := by
  unfold markExhausted; simp

/-! settle touches bank. -/

@[simp] theorem settle_port (n : Nat) (r : ReleaseInfo) (c : Nat) : (settle n r c s).port = s.port := by
  unfold settle; (repeat' split) <;> simp
@[simp] theorem settle_pins (n : Nat) (r : ReleaseInfo) (c : Nat) : (settle n r c s).pins = s.pins := by
  unfold settle; (repeat' split) <;> simp
@[simp] theorem settle_time (n : Nat) (r : ReleaseInfo) (c : Nat) : (settle n r c s).time = s.time := by
  unfold settle; (repeat' split) <;> simp
@[simp] theorem settle_params (n : Nat) (r : ReleaseInfo) (c : Nat) : (settle n r c s).params = s.params := by
  unfold settle; (repeat' split) <;> simp
@[simp] theorem settle_printers (n : Nat) (r : ReleaseInfo) (c : Nat) : (settle n r c s).printers = s.printers := by
  unfold settle; (repeat' split) <;> simp
@[simp] theorem settle_callout (n : Nat) (r : ReleaseInfo) (c : Nat) : (settle n r c s).callout = s.callout := by
  unfold settle; (repeat' split) <;> simp
@[simp] theorem settle_stock (n : Nat) (r : ReleaseInfo) (c : Nat) : (settle n r c s).stock = s.stock := by
  unfold settle; (repeat' split) <;> simp
@[simp] theorem settle_store (n : Nat) (r : ReleaseInfo) (c : Nat) : (settle n r c s).store = s.store := by
  unfold settle; (repeat' split) <;> simp
@[simp] theorem settle_line (n : Nat) (r : ReleaseInfo) (c : Nat) : (settle n r c s).line = s.line := by
  unfold settle; (repeat' split) <;> simp
@[simp] theorem settle_release (n : Nat) (r : ReleaseInfo) (c : Nat) : (settle n r c s).release = s.release := by
  unfold settle; (repeat' split) <;> simp
@[simp] theorem settle_second (n : Nat) (r : ReleaseInfo) (c : Nat) : (settle n r c s).second = s.second := by
  unfold settle; (repeat' split) <;> simp
@[simp] theorem settle_freeCount (n : Nat) (r : ReleaseInfo) (c : Nat) : (settle n r c s).freeCount = s.freeCount := by
  unfold settle; (repeat' split) <;> simp
@[simp] theorem settle_pending (n : Nat) (r : ReleaseInfo) (c : Nat) : (settle n r c s).pending = s.pending := by
  unfold settle; (repeat' split) <;> simp

/-! startRelease touches store. -/

@[simp] theorem startRelease_port (n : Nat) (r : ReleaseInfo) : (startRelease n r s).port = s.port := rfl
@[simp] theorem startRelease_pins (n : Nat) (r : ReleaseInfo) : (startRelease n r s).pins = s.pins := rfl
@[simp] theorem startRelease_time (n : Nat) (r : ReleaseInfo) : (startRelease n r s).time = s.time := rfl
@[simp] theorem startRelease_params (n : Nat) (r : ReleaseInfo) : (startRelease n r s).params = s.params := rfl
@[simp] theorem startRelease_printers (n : Nat) (r : ReleaseInfo) : (startRelease n r s).printers = s.printers := rfl
@[simp] theorem startRelease_callout (n : Nat) (r : ReleaseInfo) : (startRelease n r s).callout = s.callout := rfl
@[simp] theorem startRelease_stock (n : Nat) (r : ReleaseInfo) : (startRelease n r s).stock = s.stock := rfl
@[simp] theorem startRelease_bank (n : Nat) (r : ReleaseInfo) : (startRelease n r s).bank = s.bank := rfl
@[simp] theorem startRelease_line (n : Nat) (r : ReleaseInfo) : (startRelease n r s).line = s.line := rfl
@[simp] theorem startRelease_release (n : Nat) (r : ReleaseInfo) : (startRelease n r s).release = s.release := rfl
@[simp] theorem startRelease_second (n : Nat) (r : ReleaseInfo) : (startRelease n r s).second = s.second := rfl
@[simp] theorem startRelease_freeCount (n : Nat) (r : ReleaseInfo) : (startRelease n r s).freeCount = s.freeCount := rfl
@[simp] theorem startRelease_pending (n : Nat) (r : ReleaseInfo) : (startRelease n r s).pending = s.pending := rfl

/-! returnToHeld touches store. -/

@[simp] theorem returnToHeld_port (j : Job) : (returnToHeld j s).port = s.port := rfl
@[simp] theorem returnToHeld_pins (j : Job) : (returnToHeld j s).pins = s.pins := rfl
@[simp] theorem returnToHeld_time (j : Job) : (returnToHeld j s).time = s.time := rfl
@[simp] theorem returnToHeld_params (j : Job) : (returnToHeld j s).params = s.params := rfl
@[simp] theorem returnToHeld_printers (j : Job) : (returnToHeld j s).printers = s.printers := rfl
@[simp] theorem returnToHeld_callout (j : Job) : (returnToHeld j s).callout = s.callout := rfl
@[simp] theorem returnToHeld_stock (j : Job) : (returnToHeld j s).stock = s.stock := rfl
@[simp] theorem returnToHeld_bank (j : Job) : (returnToHeld j s).bank = s.bank := rfl
@[simp] theorem returnToHeld_line (j : Job) : (returnToHeld j s).line = s.line := rfl
@[simp] theorem returnToHeld_release (j : Job) : (returnToHeld j s).release = s.release := rfl
@[simp] theorem returnToHeld_second (j : Job) : (returnToHeld j s).second = s.second := rfl
@[simp] theorem returnToHeld_freeCount (j : Job) : (returnToHeld j s).freeCount = s.freeCount := rfl
@[simp] theorem returnToHeld_pending (j : Job) : (returnToHeld j s).pending = s.pending := rfl

/-! returnUnreleased touches bank, store, release. -/

@[simp] theorem returnUnreleased_port (n : Nat) : (returnUnreleased n s).port = s.port := by
  unfold returnUnreleased; (repeat' split) <;> simp
@[simp] theorem returnUnreleased_pins (n : Nat) : (returnUnreleased n s).pins = s.pins := by
  unfold returnUnreleased; (repeat' split) <;> simp
@[simp] theorem returnUnreleased_time (n : Nat) : (returnUnreleased n s).time = s.time := by
  unfold returnUnreleased; (repeat' split) <;> simp
@[simp] theorem returnUnreleased_params (n : Nat) : (returnUnreleased n s).params = s.params := by
  unfold returnUnreleased; (repeat' split) <;> simp
@[simp] theorem returnUnreleased_printers (n : Nat) : (returnUnreleased n s).printers = s.printers := by
  unfold returnUnreleased; (repeat' split) <;> simp
@[simp] theorem returnUnreleased_callout (n : Nat) : (returnUnreleased n s).callout = s.callout := by
  unfold returnUnreleased; (repeat' split) <;> simp
@[simp] theorem returnUnreleased_stock (n : Nat) : (returnUnreleased n s).stock = s.stock := by
  unfold returnUnreleased; (repeat' split) <;> simp
@[simp] theorem returnUnreleased_line (n : Nat) : (returnUnreleased n s).line = s.line := by
  unfold returnUnreleased; (repeat' split) <;> simp
@[simp] theorem returnUnreleased_second (n : Nat) : (returnUnreleased n s).second = s.second := by
  unfold returnUnreleased; (repeat' split) <;> simp
@[simp] theorem returnUnreleased_freeCount (n : Nat) : (returnUnreleased n s).freeCount = s.freeCount := by
  unfold returnUnreleased; (repeat' split) <;> simp
@[simp] theorem returnUnreleased_pending (n : Nat) : (returnUnreleased n s).pending = s.pending := by
  unfold returnUnreleased; (repeat' split) <;> simp

/-! returnAll touches bank, store, release, port. -/

@[simp] theorem returnAll_pins (ns : List Nat) : (returnAll ns s).pins = s.pins := by
  unfold returnAll
  exact (setCauseIf_pins _ _ _).trans (foldl_keeps (fun s : State => s.pins) _ (fun s n => returnUnreleased_pins s n) _ _)
@[simp] theorem returnAll_time (ns : List Nat) : (returnAll ns s).time = s.time := by
  unfold returnAll
  exact (setCauseIf_time _ _ _).trans (foldl_keeps (fun s : State => s.time) _ (fun s n => returnUnreleased_time s n) _ _)
@[simp] theorem returnAll_params (ns : List Nat) : (returnAll ns s).params = s.params := by
  unfold returnAll
  exact (setCauseIf_params _ _ _).trans (foldl_keeps (fun s : State => s.params) _ (fun s n => returnUnreleased_params s n) _ _)
@[simp] theorem returnAll_printers (ns : List Nat) : (returnAll ns s).printers = s.printers := by
  unfold returnAll
  exact (setCauseIf_printers _ _ _).trans (foldl_keeps (fun s : State => s.printers) _ (fun s n => returnUnreleased_printers s n) _ _)
@[simp] theorem returnAll_callout (ns : List Nat) : (returnAll ns s).callout = s.callout := by
  unfold returnAll
  exact (setCauseIf_callout _ _ _).trans (foldl_keeps (fun s : State => s.callout) _ (fun s n => returnUnreleased_callout s n) _ _)
@[simp] theorem returnAll_stock (ns : List Nat) : (returnAll ns s).stock = s.stock := by
  unfold returnAll
  exact (setCauseIf_stock _ _ _).trans (foldl_keeps (fun s : State => s.stock) _ (fun s n => returnUnreleased_stock s n) _ _)
@[simp] theorem returnAll_line (ns : List Nat) : (returnAll ns s).line = s.line := by
  unfold returnAll
  exact (setCauseIf_line _ _ _).trans (foldl_keeps (fun s : State => s.line) _ (fun s n => returnUnreleased_line s n) _ _)
@[simp] theorem returnAll_second (ns : List Nat) : (returnAll ns s).second = s.second := by
  unfold returnAll
  exact (setCauseIf_second _ _ _).trans (foldl_keeps (fun s : State => s.second) _ (fun s n => returnUnreleased_second s n) _ _)
@[simp] theorem returnAll_freeCount (ns : List Nat) : (returnAll ns s).freeCount = s.freeCount := by
  unfold returnAll
  exact (setCauseIf_freeCount _ _ _).trans (foldl_keeps (fun s : State => s.freeCount) _ (fun s n => returnUnreleased_freeCount s n) _ _)
@[simp] theorem returnAll_pending (ns : List Nat) : (returnAll ns s).pending = s.pending := by
  unfold returnAll
  exact (setCauseIf_pending _ _ _).trans (foldl_keeps (fun s : State => s.pending) _ (fun s n => returnUnreleased_pending s n) _ _)

/-! recallPrinter touches bank, store, release, port. -/

@[simp] theorem recallPrinter_pins (q : Nat) : (recallPrinter q s).pins = s.pins := returnAll_pins s _
@[simp] theorem recallPrinter_time (q : Nat) : (recallPrinter q s).time = s.time := returnAll_time s _
@[simp] theorem recallPrinter_params (q : Nat) : (recallPrinter q s).params = s.params := returnAll_params s _
@[simp] theorem recallPrinter_printers (q : Nat) : (recallPrinter q s).printers = s.printers := returnAll_printers s _
@[simp] theorem recallPrinter_callout (q : Nat) : (recallPrinter q s).callout = s.callout := returnAll_callout s _
@[simp] theorem recallPrinter_stock (q : Nat) : (recallPrinter q s).stock = s.stock := returnAll_stock s _
@[simp] theorem recallPrinter_line (q : Nat) : (recallPrinter q s).line = s.line := returnAll_line s _
@[simp] theorem recallPrinter_second (q : Nat) : (recallPrinter q s).second = s.second := returnAll_second s _
@[simp] theorem recallPrinter_freeCount (q : Nat) : (recallPrinter q s).freeCount = s.freeCount := returnAll_freeCount s _
@[simp] theorem recallPrinter_pending (q : Nat) : (recallPrinter q s).pending = s.pending := returnAll_pending s _

/-! releaseJob touches bank, store, release. -/

@[simp] theorem releaseJob_port (n o : Nat) (r : ReleaseInfo) : (releaseJob n o r s).port = s.port := by
  unfold releaseJob; simp
@[simp] theorem releaseJob_pins (n o : Nat) (r : ReleaseInfo) : (releaseJob n o r s).pins = s.pins := by
  unfold releaseJob; simp
@[simp] theorem releaseJob_time (n o : Nat) (r : ReleaseInfo) : (releaseJob n o r s).time = s.time := by
  unfold releaseJob; simp
@[simp] theorem releaseJob_params (n o : Nat) (r : ReleaseInfo) : (releaseJob n o r s).params = s.params := by
  unfold releaseJob; simp
@[simp] theorem releaseJob_printers (n o : Nat) (r : ReleaseInfo) : (releaseJob n o r s).printers = s.printers := by
  unfold releaseJob; simp
@[simp] theorem releaseJob_callout (n o : Nat) (r : ReleaseInfo) : (releaseJob n o r s).callout = s.callout := by
  unfold releaseJob; simp
@[simp] theorem releaseJob_stock (n o : Nat) (r : ReleaseInfo) : (releaseJob n o r s).stock = s.stock := by
  unfold releaseJob; simp
@[simp] theorem releaseJob_line (n o : Nat) (r : ReleaseInfo) : (releaseJob n o r s).line = s.line := by
  unfold releaseJob; simp
@[simp] theorem releaseJob_second (n o : Nat) (r : ReleaseInfo) : (releaseJob n o r s).second = s.second := by
  unfold releaseJob; simp
@[simp] theorem releaseJob_freeCount (n o : Nat) (r : ReleaseInfo) : (releaseJob n o r s).freeCount = s.freeCount := by
  unfold releaseJob; simp
@[simp] theorem releaseJob_pending (n o : Nat) (r : ReleaseInfo) : (releaseJob n o r s).pending = s.pending := by
  unfold releaseJob; simp

/-! releaseWalk touches bank, store, release, port. -/

@[simp] theorem releaseWalk_pins (t o : Nat) (p : Printer) (js : List Job) (r : Nat) : (releaseWalk t o p js r s).1.pins = s.pins := by
  induction js generalizing s r with
  | nil => rfl
  | cons j js ih => unfold releaseWalk; (repeat' split) <;> simp [ih]
@[simp] theorem releaseWalk_time (t o : Nat) (p : Printer) (js : List Job) (r : Nat) : (releaseWalk t o p js r s).1.time = s.time := by
  induction js generalizing s r with
  | nil => rfl
  | cons j js ih => unfold releaseWalk; (repeat' split) <;> simp [ih]
@[simp] theorem releaseWalk_params (t o : Nat) (p : Printer) (js : List Job) (r : Nat) : (releaseWalk t o p js r s).1.params = s.params := by
  induction js generalizing s r with
  | nil => rfl
  | cons j js ih => unfold releaseWalk; (repeat' split) <;> simp [ih]
@[simp] theorem releaseWalk_printers (t o : Nat) (p : Printer) (js : List Job) (r : Nat) : (releaseWalk t o p js r s).1.printers = s.printers := by
  induction js generalizing s r with
  | nil => rfl
  | cons j js ih => unfold releaseWalk; (repeat' split) <;> simp [ih]
@[simp] theorem releaseWalk_callout (t o : Nat) (p : Printer) (js : List Job) (r : Nat) : (releaseWalk t o p js r s).1.callout = s.callout := by
  induction js generalizing s r with
  | nil => rfl
  | cons j js ih => unfold releaseWalk; (repeat' split) <;> simp [ih]
@[simp] theorem releaseWalk_stock (t o : Nat) (p : Printer) (js : List Job) (r : Nat) : (releaseWalk t o p js r s).1.stock = s.stock := by
  induction js generalizing s r with
  | nil => rfl
  | cons j js ih => unfold releaseWalk; (repeat' split) <;> simp [ih]
@[simp] theorem releaseWalk_line (t o : Nat) (p : Printer) (js : List Job) (r : Nat) : (releaseWalk t o p js r s).1.line = s.line := by
  induction js generalizing s r with
  | nil => rfl
  | cons j js ih => unfold releaseWalk; (repeat' split) <;> simp [ih]
@[simp] theorem releaseWalk_second (t o : Nat) (p : Printer) (js : List Job) (r : Nat) : (releaseWalk t o p js r s).1.second = s.second := by
  induction js generalizing s r with
  | nil => rfl
  | cons j js ih => unfold releaseWalk; (repeat' split) <;> simp [ih]
@[simp] theorem releaseWalk_freeCount (t o : Nat) (p : Printer) (js : List Job) (r : Nat) : (releaseWalk t o p js r s).1.freeCount = s.freeCount := by
  induction js generalizing s r with
  | nil => rfl
  | cons j js ih => unfold releaseWalk; (repeat' split) <;> simp [ih]
@[simp] theorem releaseWalk_pending (t o : Nat) (p : Printer) (js : List Job) (r : Nat) : (releaseWalk t o p js r s).1.pending = s.pending := by
  induction js generalizing s r with
  | nil => rfl
  | cons j js ih => unfold releaseWalk; (repeat' split) <;> simp [ih]

/-! releaseAt touches bank, store, release, port. -/

@[simp] theorem releaseAt_pins (t o : Nat) (p : Printer) (js : List Job) : (releaseAt t o p js s).1.pins = s.pins := by
  have h := releaseWalk_pins s t o p js 0
  unfold releaseAt
  split
  · rfl
  · split; rename_i heq; rw [heq] at h; exact h
@[simp] theorem releaseAt_time (t o : Nat) (p : Printer) (js : List Job) : (releaseAt t o p js s).1.time = s.time := by
  have h := releaseWalk_time s t o p js 0
  unfold releaseAt
  split
  · rfl
  · split; rename_i heq; rw [heq] at h; exact h
@[simp] theorem releaseAt_params (t o : Nat) (p : Printer) (js : List Job) : (releaseAt t o p js s).1.params = s.params := by
  have h := releaseWalk_params s t o p js 0
  unfold releaseAt
  split
  · rfl
  · split; rename_i heq; rw [heq] at h; exact h
@[simp] theorem releaseAt_printers (t o : Nat) (p : Printer) (js : List Job) : (releaseAt t o p js s).1.printers = s.printers := by
  have h := releaseWalk_printers s t o p js 0
  unfold releaseAt
  split
  · rfl
  · split; rename_i heq; rw [heq] at h; exact h
@[simp] theorem releaseAt_callout (t o : Nat) (p : Printer) (js : List Job) : (releaseAt t o p js s).1.callout = s.callout := by
  have h := releaseWalk_callout s t o p js 0
  unfold releaseAt
  split
  · rfl
  · split; rename_i heq; rw [heq] at h; exact h
@[simp] theorem releaseAt_stock (t o : Nat) (p : Printer) (js : List Job) : (releaseAt t o p js s).1.stock = s.stock := by
  have h := releaseWalk_stock s t o p js 0
  unfold releaseAt
  split
  · rfl
  · split; rename_i heq; rw [heq] at h; exact h
@[simp] theorem releaseAt_line (t o : Nat) (p : Printer) (js : List Job) : (releaseAt t o p js s).1.line = s.line := by
  have h := releaseWalk_line s t o p js 0
  unfold releaseAt
  split
  · rfl
  · split; rename_i heq; rw [heq] at h; exact h
@[simp] theorem releaseAt_second (t o : Nat) (p : Printer) (js : List Job) : (releaseAt t o p js s).1.second = s.second := by
  have h := releaseWalk_second s t o p js 0
  unfold releaseAt
  split
  · rfl
  · split; rename_i heq; rw [heq] at h; exact h
@[simp] theorem releaseAt_freeCount (t o : Nat) (p : Printer) (js : List Job) : (releaseAt t o p js s).1.freeCount = s.freeCount := by
  have h := releaseWalk_freeCount s t o p js 0
  unfold releaseAt
  split
  · rfl
  · split; rename_i heq; rw [heq] at h; exact h
@[simp] theorem releaseAt_pending (t o : Nat) (p : Printer) (js : List Job) : (releaseAt t o p js s).1.pending = s.pending := by
  have h := releaseWalk_pending s t o p js 0
  unfold releaseAt
  split
  · rfl
  · split; rename_i heq; rw [heq] at h; exact h

/-! releaseDecision touches bank, store, release, port. -/

@[simp] theorem releaseDecision_pins (o p : Nat) (b : Bool) (n : Option Nat) : (releaseDecision o p b n s).1.pins = s.pins := by
  unfold releaseDecision; (repeat' split) <;> simp
@[simp] theorem releaseDecision_time (o p : Nat) (b : Bool) (n : Option Nat) : (releaseDecision o p b n s).1.time = s.time := by
  unfold releaseDecision; (repeat' split) <;> simp
@[simp] theorem releaseDecision_params (o p : Nat) (b : Bool) (n : Option Nat) : (releaseDecision o p b n s).1.params = s.params := by
  unfold releaseDecision; (repeat' split) <;> simp
@[simp] theorem releaseDecision_printers (o p : Nat) (b : Bool) (n : Option Nat) : (releaseDecision o p b n s).1.printers = s.printers := by
  unfold releaseDecision; (repeat' split) <;> simp
@[simp] theorem releaseDecision_callout (o p : Nat) (b : Bool) (n : Option Nat) : (releaseDecision o p b n s).1.callout = s.callout := by
  unfold releaseDecision; (repeat' split) <;> simp
@[simp] theorem releaseDecision_stock (o p : Nat) (b : Bool) (n : Option Nat) : (releaseDecision o p b n s).1.stock = s.stock := by
  unfold releaseDecision; (repeat' split) <;> simp
@[simp] theorem releaseDecision_line (o p : Nat) (b : Bool) (n : Option Nat) : (releaseDecision o p b n s).1.line = s.line := by
  unfold releaseDecision; (repeat' split) <;> simp
@[simp] theorem releaseDecision_second (o p : Nat) (b : Bool) (n : Option Nat) : (releaseDecision o p b n s).1.second = s.second := by
  unfold releaseDecision; (repeat' split) <;> simp
@[simp] theorem releaseDecision_freeCount (o p : Nat) (b : Bool) (n : Option Nat) : (releaseDecision o p b n s).1.freeCount = s.freeCount := by
  unfold releaseDecision; (repeat' split) <;> simp
@[simp] theorem releaseDecision_pending (o p : Nat) (b : Bool) (n : Option Nat) : (releaseDecision o p b n s).1.pending = s.pending := by
  unfold releaseDecision; (repeat' split) <;> simp

/-! updSlot touches printers. -/

@[simp] theorem updSlot_port (pn i : Nat) (f : Cartridge → Cartridge) : (updSlot pn i f s).port = s.port := rfl
@[simp] theorem updSlot_pins (pn i : Nat) (f : Cartridge → Cartridge) : (updSlot pn i f s).pins = s.pins := rfl
@[simp] theorem updSlot_time (pn i : Nat) (f : Cartridge → Cartridge) : (updSlot pn i f s).time = s.time := rfl
@[simp] theorem updSlot_params (pn i : Nat) (f : Cartridge → Cartridge) : (updSlot pn i f s).params = s.params := rfl
@[simp] theorem updSlot_callout (pn i : Nat) (f : Cartridge → Cartridge) : (updSlot pn i f s).callout = s.callout := rfl
@[simp] theorem updSlot_stock (pn i : Nat) (f : Cartridge → Cartridge) : (updSlot pn i f s).stock = s.stock := rfl
@[simp] theorem updSlot_bank (pn i : Nat) (f : Cartridge → Cartridge) : (updSlot pn i f s).bank = s.bank := rfl
@[simp] theorem updSlot_store (pn i : Nat) (f : Cartridge → Cartridge) : (updSlot pn i f s).store = s.store := rfl
@[simp] theorem updSlot_line (pn i : Nat) (f : Cartridge → Cartridge) : (updSlot pn i f s).line = s.line := rfl
@[simp] theorem updSlot_release (pn i : Nat) (f : Cartridge → Cartridge) : (updSlot pn i f s).release = s.release := rfl
@[simp] theorem updSlot_second (pn i : Nat) (f : Cartridge → Cartridge) : (updSlot pn i f s).second = s.second := rfl
@[simp] theorem updSlot_freeCount (pn i : Nat) (f : Cartridge → Cartridge) : (updSlot pn i f s).freeCount = s.freeCount := rfl
@[simp] theorem updSlot_pending (pn i : Nat) (f : Cartridge → Cartridge) : (updSlot pn i f s).pending = s.pending := rfl

variable (w : Ripple)

/-! retestSlot touches printers. -/

@[simp] theorem retestSlot_port (pn i : Nat) : (retestSlot pn i w).state.port = w.state.port := by
  unfold retestSlot; (repeat' split) <;> simp
@[simp] theorem retestSlot_pins (pn i : Nat) : (retestSlot pn i w).state.pins = w.state.pins := by
  unfold retestSlot; (repeat' split) <;> simp
@[simp] theorem retestSlot_time (pn i : Nat) : (retestSlot pn i w).state.time = w.state.time := by
  unfold retestSlot; (repeat' split) <;> simp
@[simp] theorem retestSlot_params (pn i : Nat) : (retestSlot pn i w).state.params = w.state.params := by
  unfold retestSlot; (repeat' split) <;> simp
@[simp] theorem retestSlot_callout (pn i : Nat) : (retestSlot pn i w).state.callout = w.state.callout := by
  unfold retestSlot; (repeat' split) <;> simp
@[simp] theorem retestSlot_stock (pn i : Nat) : (retestSlot pn i w).state.stock = w.state.stock := by
  unfold retestSlot; (repeat' split) <;> simp
@[simp] theorem retestSlot_bank (pn i : Nat) : (retestSlot pn i w).state.bank = w.state.bank := by
  unfold retestSlot; (repeat' split) <;> simp
@[simp] theorem retestSlot_store (pn i : Nat) : (retestSlot pn i w).state.store = w.state.store := by
  unfold retestSlot; (repeat' split) <;> simp
@[simp] theorem retestSlot_line (pn i : Nat) : (retestSlot pn i w).state.line = w.state.line := by
  unfold retestSlot; (repeat' split) <;> simp
@[simp] theorem retestSlot_release (pn i : Nat) : (retestSlot pn i w).state.release = w.state.release := by
  unfold retestSlot; (repeat' split) <;> simp
@[simp] theorem retestSlot_second (pn i : Nat) : (retestSlot pn i w).state.second = w.state.second := by
  unfold retestSlot; (repeat' split) <;> simp
@[simp] theorem retestSlot_freeCount (pn i : Nat) : (retestSlot pn i w).state.freeCount = w.state.freeCount := by
  unfold retestSlot; (repeat' split) <;> simp
@[simp] theorem retestSlot_pending (pn i : Nat) : (retestSlot pn i w).state.pending = w.state.pending := by
  unfold retestSlot; (repeat' split) <;> simp

/-! swapSlot touches printers, stock, port. -/

@[simp] theorem swapSlot_pins (pn i n : Nat) : (swapSlot pn i n w).state.pins = w.state.pins := by
  unfold swapSlot; (repeat' split) <;> simp
@[simp] theorem swapSlot_time (pn i n : Nat) : (swapSlot pn i n w).state.time = w.state.time := by
  unfold swapSlot; (repeat' split) <;> simp
@[simp] theorem swapSlot_params (pn i n : Nat) : (swapSlot pn i n w).state.params = w.state.params := by
  unfold swapSlot; (repeat' split) <;> simp
@[simp] theorem swapSlot_callout (pn i n : Nat) : (swapSlot pn i n w).state.callout = w.state.callout := by
  unfold swapSlot; (repeat' split) <;> simp
@[simp] theorem swapSlot_bank (pn i n : Nat) : (swapSlot pn i n w).state.bank = w.state.bank := by
  unfold swapSlot; (repeat' split) <;> simp
@[simp] theorem swapSlot_store (pn i n : Nat) : (swapSlot pn i n w).state.store = w.state.store := by
  unfold swapSlot; (repeat' split) <;> simp
@[simp] theorem swapSlot_line (pn i n : Nat) : (swapSlot pn i n w).state.line = w.state.line := by
  unfold swapSlot; (repeat' split) <;> simp
@[simp] theorem swapSlot_release (pn i n : Nat) : (swapSlot pn i n w).state.release = w.state.release := by
  unfold swapSlot; (repeat' split) <;> simp
@[simp] theorem swapSlot_second (pn i n : Nat) : (swapSlot pn i n w).state.second = w.state.second := by
  unfold swapSlot; (repeat' split) <;> simp
@[simp] theorem swapSlot_freeCount (pn i n : Nat) : (swapSlot pn i n w).state.freeCount = w.state.freeCount := by
  unfold swapSlot; (repeat' split) <;> simp
@[simp] theorem swapSlot_pending (pn i n : Nat) : (swapSlot pn i n w).state.pending = w.state.pending := by
  unfold swapSlot; (repeat' split) <;> simp

/-! acceptLevel touches printers. -/

@[simp] theorem acceptLevel_port (pn i n : Nat) : (acceptLevel pn i n w).state.port = w.state.port := by
  unfold acceptLevel; simp
@[simp] theorem acceptLevel_pins (pn i n : Nat) : (acceptLevel pn i n w).state.pins = w.state.pins := by
  unfold acceptLevel; simp
@[simp] theorem acceptLevel_time (pn i n : Nat) : (acceptLevel pn i n w).state.time = w.state.time := by
  unfold acceptLevel; simp
@[simp] theorem acceptLevel_params (pn i n : Nat) : (acceptLevel pn i n w).state.params = w.state.params := by
  unfold acceptLevel; simp
@[simp] theorem acceptLevel_callout (pn i n : Nat) : (acceptLevel pn i n w).state.callout = w.state.callout := by
  unfold acceptLevel; simp
@[simp] theorem acceptLevel_stock (pn i n : Nat) : (acceptLevel pn i n w).state.stock = w.state.stock := by
  unfold acceptLevel; simp
@[simp] theorem acceptLevel_bank (pn i n : Nat) : (acceptLevel pn i n w).state.bank = w.state.bank := by
  unfold acceptLevel; simp
@[simp] theorem acceptLevel_store (pn i n : Nat) : (acceptLevel pn i n w).state.store = w.state.store := by
  unfold acceptLevel; simp
@[simp] theorem acceptLevel_line (pn i n : Nat) : (acceptLevel pn i n w).state.line = w.state.line := by
  unfold acceptLevel; simp
@[simp] theorem acceptLevel_release (pn i n : Nat) : (acceptLevel pn i n w).state.release = w.state.release := by
  unfold acceptLevel; simp
@[simp] theorem acceptLevel_second (pn i n : Nat) : (acceptLevel pn i n w).state.second = w.state.second := by
  unfold acceptLevel; simp
@[simp] theorem acceptLevel_freeCount (pn i n : Nat) : (acceptLevel pn i n w).state.freeCount = w.state.freeCount := by
  unfold acceptLevel; simp
@[simp] theorem acceptLevel_pending (pn i n : Nat) : (acceptLevel pn i n w).state.pending = w.state.pending := by
  unfold acceptLevel; simp

/-! applyLevel touches printers, stock, port. -/

@[simp] theorem applyLevel_pins (pn i : Nat) (l : Option Nat) : (applyLevel pn i l w).state.pins = w.state.pins := by
  unfold applyLevel; (repeat' split) <;> simp
@[simp] theorem applyLevel_time (pn i : Nat) (l : Option Nat) : (applyLevel pn i l w).state.time = w.state.time := by
  unfold applyLevel; (repeat' split) <;> simp
@[simp] theorem applyLevel_params (pn i : Nat) (l : Option Nat) : (applyLevel pn i l w).state.params = w.state.params := by
  unfold applyLevel; (repeat' split) <;> simp
@[simp] theorem applyLevel_callout (pn i : Nat) (l : Option Nat) : (applyLevel pn i l w).state.callout = w.state.callout := by
  unfold applyLevel; (repeat' split) <;> simp
@[simp] theorem applyLevel_bank (pn i : Nat) (l : Option Nat) : (applyLevel pn i l w).state.bank = w.state.bank := by
  unfold applyLevel; (repeat' split) <;> simp
@[simp] theorem applyLevel_store (pn i : Nat) (l : Option Nat) : (applyLevel pn i l w).state.store = w.state.store := by
  unfold applyLevel; (repeat' split) <;> simp
@[simp] theorem applyLevel_line (pn i : Nat) (l : Option Nat) : (applyLevel pn i l w).state.line = w.state.line := by
  unfold applyLevel; (repeat' split) <;> simp
@[simp] theorem applyLevel_release (pn i : Nat) (l : Option Nat) : (applyLevel pn i l w).state.release = w.state.release := by
  unfold applyLevel; (repeat' split) <;> simp
@[simp] theorem applyLevel_second (pn i : Nat) (l : Option Nat) : (applyLevel pn i l w).state.second = w.state.second := by
  unfold applyLevel; (repeat' split) <;> simp
@[simp] theorem applyLevel_freeCount (pn i : Nat) (l : Option Nat) : (applyLevel pn i l w).state.freeCount = w.state.freeCount := by
  unfold applyLevel; (repeat' split) <;> simp
@[simp] theorem applyLevel_pending (pn i : Nat) (l : Option Nat) : (applyLevel pn i l w).state.pending = w.state.pending := by
  unfold applyLevel; (repeat' split) <;> simp

/-! applyLevels touches printers, stock, port. -/

@[simp] theorem applyLevels_pins (pn i : Nat) (ls : List (Option Nat)) : (applyLevels pn i ls w).state.pins = w.state.pins := by
  induction ls generalizing i w with
  | nil => rfl
  | cons l ls ih => rw [applyLevels, ih, applyLevel_pins]
@[simp] theorem applyLevels_time (pn i : Nat) (ls : List (Option Nat)) : (applyLevels pn i ls w).state.time = w.state.time := by
  induction ls generalizing i w with
  | nil => rfl
  | cons l ls ih => rw [applyLevels, ih, applyLevel_time]
@[simp] theorem applyLevels_params (pn i : Nat) (ls : List (Option Nat)) : (applyLevels pn i ls w).state.params = w.state.params := by
  induction ls generalizing i w with
  | nil => rfl
  | cons l ls ih => rw [applyLevels, ih, applyLevel_params]
@[simp] theorem applyLevels_callout (pn i : Nat) (ls : List (Option Nat)) : (applyLevels pn i ls w).state.callout = w.state.callout := by
  induction ls generalizing i w with
  | nil => rfl
  | cons l ls ih => rw [applyLevels, ih, applyLevel_callout]
@[simp] theorem applyLevels_bank (pn i : Nat) (ls : List (Option Nat)) : (applyLevels pn i ls w).state.bank = w.state.bank := by
  induction ls generalizing i w with
  | nil => rfl
  | cons l ls ih => rw [applyLevels, ih, applyLevel_bank]
@[simp] theorem applyLevels_store (pn i : Nat) (ls : List (Option Nat)) : (applyLevels pn i ls w).state.store = w.state.store := by
  induction ls generalizing i w with
  | nil => rfl
  | cons l ls ih => rw [applyLevels, ih, applyLevel_store]
@[simp] theorem applyLevels_line (pn i : Nat) (ls : List (Option Nat)) : (applyLevels pn i ls w).state.line = w.state.line := by
  induction ls generalizing i w with
  | nil => rfl
  | cons l ls ih => rw [applyLevels, ih, applyLevel_line]
@[simp] theorem applyLevels_release (pn i : Nat) (ls : List (Option Nat)) : (applyLevels pn i ls w).state.release = w.state.release := by
  induction ls generalizing i w with
  | nil => rfl
  | cons l ls ih => rw [applyLevels, ih, applyLevel_release]
@[simp] theorem applyLevels_second (pn i : Nat) (ls : List (Option Nat)) : (applyLevels pn i ls w).state.second = w.state.second := by
  induction ls generalizing i w with
  | nil => rfl
  | cons l ls ih => rw [applyLevels, ih, applyLevel_second]
@[simp] theorem applyLevels_freeCount (pn i : Nat) (ls : List (Option Nat)) : (applyLevels pn i ls w).state.freeCount = w.state.freeCount := by
  induction ls generalizing i w with
  | nil => rfl
  | cons l ls ih => rw [applyLevels, ih, applyLevel_freeCount]
@[simp] theorem applyLevels_pending (pn i : Nat) (ls : List (Option Nat)) : (applyLevels pn i ls w).state.pending = w.state.pending := by
  induction ls generalizing i w with
  | nil => rfl
  | cons l ls ih => rw [applyLevels, ih, applyLevel_pending]

/-! changeType touches printers. -/

@[simp] theorem changeType_port (pn i t : Nat) : (changeType pn i t w).state.port = w.state.port := by
  unfold changeType; (repeat' split) <;> simp
@[simp] theorem changeType_pins (pn i t : Nat) : (changeType pn i t w).state.pins = w.state.pins := by
  unfold changeType; (repeat' split) <;> simp
@[simp] theorem changeType_time (pn i t : Nat) : (changeType pn i t w).state.time = w.state.time := by
  unfold changeType; (repeat' split) <;> simp
@[simp] theorem changeType_params (pn i t : Nat) : (changeType pn i t w).state.params = w.state.params := by
  unfold changeType; (repeat' split) <;> simp
@[simp] theorem changeType_callout (pn i t : Nat) : (changeType pn i t w).state.callout = w.state.callout := by
  unfold changeType; (repeat' split) <;> simp
@[simp] theorem changeType_stock (pn i t : Nat) : (changeType pn i t w).state.stock = w.state.stock := by
  unfold changeType; (repeat' split) <;> simp
@[simp] theorem changeType_bank (pn i t : Nat) : (changeType pn i t w).state.bank = w.state.bank := by
  unfold changeType; (repeat' split) <;> simp
@[simp] theorem changeType_store (pn i t : Nat) : (changeType pn i t w).state.store = w.state.store := by
  unfold changeType; (repeat' split) <;> simp
@[simp] theorem changeType_line (pn i t : Nat) : (changeType pn i t w).state.line = w.state.line := by
  unfold changeType; (repeat' split) <;> simp
@[simp] theorem changeType_release (pn i t : Nat) : (changeType pn i t w).state.release = w.state.release := by
  unfold changeType; (repeat' split) <;> simp
@[simp] theorem changeType_second (pn i t : Nat) : (changeType pn i t w).state.second = w.state.second := by
  unfold changeType; (repeat' split) <;> simp
@[simp] theorem changeType_freeCount (pn i t : Nat) : (changeType pn i t w).state.freeCount = w.state.freeCount := by
  unfold changeType; (repeat' split) <;> simp
@[simp] theorem changeType_pending (pn i t : Nat) : (changeType pn i t w).state.pending = w.state.pending := by
  unfold changeType; (repeat' split) <;> simp

/-! changeTypes touches printers. -/

@[simp] theorem changeTypes_port (pn i : Nat) (ts : List Nat) : (changeTypes pn i ts w).state.port = w.state.port := by
  induction ts generalizing i w with
  | nil => rfl
  | cons t ts ih => rw [changeTypes, ih, changeType_port]
@[simp] theorem changeTypes_pins (pn i : Nat) (ts : List Nat) : (changeTypes pn i ts w).state.pins = w.state.pins := by
  induction ts generalizing i w with
  | nil => rfl
  | cons t ts ih => rw [changeTypes, ih, changeType_pins]
@[simp] theorem changeTypes_time (pn i : Nat) (ts : List Nat) : (changeTypes pn i ts w).state.time = w.state.time := by
  induction ts generalizing i w with
  | nil => rfl
  | cons t ts ih => rw [changeTypes, ih, changeType_time]
@[simp] theorem changeTypes_params (pn i : Nat) (ts : List Nat) : (changeTypes pn i ts w).state.params = w.state.params := by
  induction ts generalizing i w with
  | nil => rfl
  | cons t ts ih => rw [changeTypes, ih, changeType_params]
@[simp] theorem changeTypes_callout (pn i : Nat) (ts : List Nat) : (changeTypes pn i ts w).state.callout = w.state.callout := by
  induction ts generalizing i w with
  | nil => rfl
  | cons t ts ih => rw [changeTypes, ih, changeType_callout]
@[simp] theorem changeTypes_stock (pn i : Nat) (ts : List Nat) : (changeTypes pn i ts w).state.stock = w.state.stock := by
  induction ts generalizing i w with
  | nil => rfl
  | cons t ts ih => rw [changeTypes, ih, changeType_stock]
@[simp] theorem changeTypes_bank (pn i : Nat) (ts : List Nat) : (changeTypes pn i ts w).state.bank = w.state.bank := by
  induction ts generalizing i w with
  | nil => rfl
  | cons t ts ih => rw [changeTypes, ih, changeType_bank]
@[simp] theorem changeTypes_store (pn i : Nat) (ts : List Nat) : (changeTypes pn i ts w).state.store = w.state.store := by
  induction ts generalizing i w with
  | nil => rfl
  | cons t ts ih => rw [changeTypes, ih, changeType_store]
@[simp] theorem changeTypes_line (pn i : Nat) (ts : List Nat) : (changeTypes pn i ts w).state.line = w.state.line := by
  induction ts generalizing i w with
  | nil => rfl
  | cons t ts ih => rw [changeTypes, ih, changeType_line]
@[simp] theorem changeTypes_release (pn i : Nat) (ts : List Nat) : (changeTypes pn i ts w).state.release = w.state.release := by
  induction ts generalizing i w with
  | nil => rfl
  | cons t ts ih => rw [changeTypes, ih, changeType_release]
@[simp] theorem changeTypes_second (pn i : Nat) (ts : List Nat) : (changeTypes pn i ts w).state.second = w.state.second := by
  induction ts generalizing i w with
  | nil => rfl
  | cons t ts ih => rw [changeTypes, ih, changeType_second]
@[simp] theorem changeTypes_freeCount (pn i : Nat) (ts : List Nat) : (changeTypes pn i ts w).state.freeCount = w.state.freeCount := by
  induction ts generalizing i w with
  | nil => rfl
  | cons t ts ih => rw [changeTypes, ih, changeType_freeCount]
@[simp] theorem changeTypes_pending (pn i : Nat) (ts : List Nat) : (changeTypes pn i ts w).state.pending = w.state.pending := by
  induction ts generalizing i w with
  | nil => rfl
  | cons t ts ih => rw [changeTypes, ih, changeType_pending]

/-! Ripple.checked touches stock, port. -/

@[simp] theorem checked_pins : w.checked.pins = w.state.pins := reorderChecks_pins _ _
@[simp] theorem checked_time : w.checked.time = w.state.time := reorderChecks_time _ _
@[simp] theorem checked_params : w.checked.params = w.state.params := reorderChecks_params _ _
@[simp] theorem checked_printers : w.checked.printers = w.state.printers := reorderChecks_printers _ _
@[simp] theorem checked_callout : w.checked.callout = w.state.callout := reorderChecks_callout _ _
@[simp] theorem checked_bank : w.checked.bank = w.state.bank := reorderChecks_bank _ _
@[simp] theorem checked_store : w.checked.store = w.state.store := reorderChecks_store _ _
@[simp] theorem checked_line : w.checked.line = w.state.line := reorderChecks_line _ _
@[simp] theorem checked_release : w.checked.release = w.state.release := reorderChecks_release _ _
@[simp] theorem checked_second : w.checked.second = w.state.second := reorderChecks_second _ _
@[simp] theorem checked_freeCount : w.checked.freeCount = w.state.freeCount := reorderChecks_freeCount _ _
@[simp] theorem checked_pending : w.checked.pending = w.state.pending := reorderChecks_pending _ _

/-! sweepPrinter touches printers, stock, port. -/

@[simp] theorem sweepPrinter_pins (pn : Nat) (p : Printer) : (sweepPrinter pn p s).pins = s.pins := by
  unfold sweepPrinter; simp
@[simp] theorem sweepPrinter_time (pn : Nat) (p : Printer) : (sweepPrinter pn p s).time = s.time := by
  unfold sweepPrinter; simp
@[simp] theorem sweepPrinter_params (pn : Nat) (p : Printer) : (sweepPrinter pn p s).params = s.params := by
  unfold sweepPrinter; simp
@[simp] theorem sweepPrinter_callout (pn : Nat) (p : Printer) : (sweepPrinter pn p s).callout = s.callout := by
  unfold sweepPrinter; simp
@[simp] theorem sweepPrinter_bank (pn : Nat) (p : Printer) : (sweepPrinter pn p s).bank = s.bank := by
  unfold sweepPrinter; simp
@[simp] theorem sweepPrinter_store (pn : Nat) (p : Printer) : (sweepPrinter pn p s).store = s.store := by
  unfold sweepPrinter; simp
@[simp] theorem sweepPrinter_line (pn : Nat) (p : Printer) : (sweepPrinter pn p s).line = s.line := by
  unfold sweepPrinter; simp
@[simp] theorem sweepPrinter_release (pn : Nat) (p : Printer) : (sweepPrinter pn p s).release = s.release := by
  unfold sweepPrinter; simp
@[simp] theorem sweepPrinter_second (pn : Nat) (p : Printer) : (sweepPrinter pn p s).second = s.second := by
  unfold sweepPrinter; simp
@[simp] theorem sweepPrinter_freeCount (pn : Nat) (p : Printer) : (sweepPrinter pn p s).freeCount = s.freeCount := by
  unfold sweepPrinter; simp
@[simp] theorem sweepPrinter_pending (pn : Nat) (p : Printer) : (sweepPrinter pn p s).pending = s.pending := by
  unfold sweepPrinter; simp

/-! setServiceState touches bank, store, release, port, printers. -/

@[simp] theorem setServiceState_pins (pn : Nat) (st : ServiceState) : (setServiceState pn st s).pins = s.pins := by
  unfold setServiceState; (repeat' split) <;> simp
@[simp] theorem setServiceState_time (pn : Nat) (st : ServiceState) : (setServiceState pn st s).time = s.time := by
  unfold setServiceState; (repeat' split) <;> simp
@[simp] theorem setServiceState_params (pn : Nat) (st : ServiceState) : (setServiceState pn st s).params = s.params := by
  unfold setServiceState; (repeat' split) <;> simp
@[simp] theorem setServiceState_callout (pn : Nat) (st : ServiceState) : (setServiceState pn st s).callout = s.callout := by
  unfold setServiceState; (repeat' split) <;> simp
@[simp] theorem setServiceState_stock (pn : Nat) (st : ServiceState) : (setServiceState pn st s).stock = s.stock := by
  unfold setServiceState; (repeat' split) <;> simp
@[simp] theorem setServiceState_line (pn : Nat) (st : ServiceState) : (setServiceState pn st s).line = s.line := by
  unfold setServiceState; (repeat' split) <;> simp
@[simp] theorem setServiceState_second (pn : Nat) (st : ServiceState) : (setServiceState pn st s).second = s.second := by
  unfold setServiceState; (repeat' split) <;> simp
@[simp] theorem setServiceState_freeCount (pn : Nat) (st : ServiceState) : (setServiceState pn st s).freeCount = s.freeCount := by
  unfold setServiceState; (repeat' split) <;> simp
@[simp] theorem setServiceState_pending (pn : Nat) (st : ServiceState) : (setServiceState pn st s).pending = s.pending := by
  unfold setServiceState; (repeat' split) <;> simp

/-! deriveState touches bank, store, release, port, printers. -/

@[simp] theorem deriveState_pins (pn : Nat) : (deriveState pn s).pins = s.pins := by
  unfold deriveState; (repeat' split) <;> simp
@[simp] theorem deriveState_time (pn : Nat) : (deriveState pn s).time = s.time := by
  unfold deriveState; (repeat' split) <;> simp
@[simp] theorem deriveState_params (pn : Nat) : (deriveState pn s).params = s.params := by
  unfold deriveState; (repeat' split) <;> simp
@[simp] theorem deriveState_callout (pn : Nat) : (deriveState pn s).callout = s.callout := by
  unfold deriveState; (repeat' split) <;> simp
@[simp] theorem deriveState_stock (pn : Nat) : (deriveState pn s).stock = s.stock := by
  unfold deriveState; (repeat' split) <;> simp
@[simp] theorem deriveState_line (pn : Nat) : (deriveState pn s).line = s.line := by
  unfold deriveState; (repeat' split) <;> simp
@[simp] theorem deriveState_second (pn : Nat) : (deriveState pn s).second = s.second := by
  unfold deriveState; (repeat' split) <;> simp
@[simp] theorem deriveState_freeCount (pn : Nat) : (deriveState pn s).freeCount = s.freeCount := by
  unfold deriveState; (repeat' split) <;> simp
@[simp] theorem deriveState_pending (pn : Nat) : (deriveState pn s).pending = s.pending := by
  unfold deriveState; (repeat' split) <;> simp

/-! rederiveState touches bank, store, release, port, printers. -/

@[simp] theorem rederiveState_pins (pn : Nat) : (rederiveState pn s).pins = s.pins := by
  unfold rederiveState; (repeat' split) <;> simp
@[simp] theorem rederiveState_time (pn : Nat) : (rederiveState pn s).time = s.time := by
  unfold rederiveState; (repeat' split) <;> simp
@[simp] theorem rederiveState_params (pn : Nat) : (rederiveState pn s).params = s.params := by
  unfold rederiveState; (repeat' split) <;> simp
@[simp] theorem rederiveState_callout (pn : Nat) : (rederiveState pn s).callout = s.callout := by
  unfold rederiveState; (repeat' split) <;> simp
@[simp] theorem rederiveState_stock (pn : Nat) : (rederiveState pn s).stock = s.stock := by
  unfold rederiveState; (repeat' split) <;> simp
@[simp] theorem rederiveState_line (pn : Nat) : (rederiveState pn s).line = s.line := by
  unfold rederiveState; (repeat' split) <;> simp
@[simp] theorem rederiveState_second (pn : Nat) : (rederiveState pn s).second = s.second := by
  unfold rederiveState; (repeat' split) <;> simp
@[simp] theorem rederiveState_freeCount (pn : Nat) : (rederiveState pn s).freeCount = s.freeCount := by
  unfold rederiveState; (repeat' split) <;> simp
@[simp] theorem rederiveState_pending (pn : Nat) : (rederiveState pn s).pending = s.pending := by
  unfold rederiveState; (repeat' split) <;> simp

/-! applyCounters touches printers, port. -/

@[simp] theorem applyCounters_pins (pn : Nat) (m c : Word) (dm dc : CounterDelta) : (applyCounters pn m c dm dc s).pins = s.pins := by
  unfold applyCounters; simp
@[simp] theorem applyCounters_time (pn : Nat) (m c : Word) (dm dc : CounterDelta) : (applyCounters pn m c dm dc s).time = s.time := by
  unfold applyCounters; simp
@[simp] theorem applyCounters_params (pn : Nat) (m c : Word) (dm dc : CounterDelta) : (applyCounters pn m c dm dc s).params = s.params := by
  unfold applyCounters; simp
@[simp] theorem applyCounters_callout (pn : Nat) (m c : Word) (dm dc : CounterDelta) : (applyCounters pn m c dm dc s).callout = s.callout := by
  unfold applyCounters; simp
@[simp] theorem applyCounters_stock (pn : Nat) (m c : Word) (dm dc : CounterDelta) : (applyCounters pn m c dm dc s).stock = s.stock := by
  unfold applyCounters; simp
@[simp] theorem applyCounters_bank (pn : Nat) (m c : Word) (dm dc : CounterDelta) : (applyCounters pn m c dm dc s).bank = s.bank := by
  unfold applyCounters; simp
@[simp] theorem applyCounters_store (pn : Nat) (m c : Word) (dm dc : CounterDelta) : (applyCounters pn m c dm dc s).store = s.store := by
  unfold applyCounters; simp
@[simp] theorem applyCounters_line (pn : Nat) (m c : Word) (dm dc : CounterDelta) : (applyCounters pn m c dm dc s).line = s.line := by
  unfold applyCounters; simp
@[simp] theorem applyCounters_release (pn : Nat) (m c : Word) (dm dc : CounterDelta) : (applyCounters pn m c dm dc s).release = s.release := by
  unfold applyCounters; simp
@[simp] theorem applyCounters_second (pn : Nat) (m c : Word) (dm dc : CounterDelta) : (applyCounters pn m c dm dc s).second = s.second := by
  unfold applyCounters; simp
@[simp] theorem applyCounters_freeCount (pn : Nat) (m c : Word) (dm dc : CounterDelta) : (applyCounters pn m c dm dc s).freeCount = s.freeCount := by
  unfold applyCounters; simp
@[simp] theorem applyCounters_pending (pn : Nat) (m c : Word) (dm dc : CounterDelta) : (applyCounters pn m c dm dc s).pending = s.pending := by
  unfold applyCounters; simp

/-! applyReport touches bank, store, release, port, printers, stock, callout. -/

@[simp] theorem applyReport_pins (pn : Nat) (p : Printer) (ks ls : List Nat) (m c : Word) : (applyReport pn p ks ls m c s).pins = s.pins := by
  unfold applyReport; simp
@[simp] theorem applyReport_time (pn : Nat) (p : Printer) (ks ls : List Nat) (m c : Word) : (applyReport pn p ks ls m c s).time = s.time := by
  unfold applyReport; simp
@[simp] theorem applyReport_params (pn : Nat) (p : Printer) (ks ls : List Nat) (m c : Word) : (applyReport pn p ks ls m c s).params = s.params := by
  unfold applyReport; simp
@[simp] theorem applyReport_line (pn : Nat) (p : Printer) (ks ls : List Nat) (m c : Word) : (applyReport pn p ks ls m c s).line = s.line := by
  unfold applyReport; simp
@[simp] theorem applyReport_second (pn : Nat) (p : Printer) (ks ls : List Nat) (m c : Word) : (applyReport pn p ks ls m c s).second = s.second := by
  unfold applyReport; simp
@[simp] theorem applyReport_freeCount (pn : Nat) (p : Printer) (ks ls : List Nat) (m c : Word) : (applyReport pn p ks ls m c s).freeCount = s.freeCount := by
  unfold applyReport; simp
@[simp] theorem applyReport_pending (pn : Nat) (p : Printer) (ks ls : List Nat) (m c : Word) : (applyReport pn p ks ls m c s).pending = s.pending := by
  unfold applyReport; simp

/-! postMessage touches line. -/

@[simp] theorem postMessage_port (a : Nat) (m : Message) : (postMessage a m s).port = s.port := rfl
@[simp] theorem postMessage_pins (a : Nat) (m : Message) : (postMessage a m s).pins = s.pins := rfl
@[simp] theorem postMessage_time (a : Nat) (m : Message) : (postMessage a m s).time = s.time := rfl
@[simp] theorem postMessage_params (a : Nat) (m : Message) : (postMessage a m s).params = s.params := rfl
@[simp] theorem postMessage_printers (a : Nat) (m : Message) : (postMessage a m s).printers = s.printers := rfl
@[simp] theorem postMessage_callout (a : Nat) (m : Message) : (postMessage a m s).callout = s.callout := rfl
@[simp] theorem postMessage_stock (a : Nat) (m : Message) : (postMessage a m s).stock = s.stock := rfl
@[simp] theorem postMessage_bank (a : Nat) (m : Message) : (postMessage a m s).bank = s.bank := rfl
@[simp] theorem postMessage_store (a : Nat) (m : Message) : (postMessage a m s).store = s.store := rfl
@[simp] theorem postMessage_release (a : Nat) (m : Message) : (postMessage a m s).release = s.release := rfl
@[simp] theorem postMessage_second (a : Nat) (m : Message) : (postMessage a m s).second = s.second := rfl
@[simp] theorem postMessage_freeCount (a : Nat) (m : Message) : (postMessage a m s).freeCount = s.freeCount := rfl
@[simp] theorem postMessage_pending (a : Nat) (m : Message) : (postMessage a m s).pending = s.pending := rfl

/-! servicePresentation touches printers, callout, port. -/

@[simp] theorem servicePresentation_pins (p : Nat) : (servicePresentation p s).1.pins = s.pins := by
  unfold servicePresentation; (repeat' split) <;> simp
@[simp] theorem servicePresentation_time (p : Nat) : (servicePresentation p s).1.time = s.time := by
  unfold servicePresentation; (repeat' split) <;> simp
@[simp] theorem servicePresentation_params (p : Nat) : (servicePresentation p s).1.params = s.params := by
  unfold servicePresentation; (repeat' split) <;> simp
@[simp] theorem servicePresentation_stock (p : Nat) : (servicePresentation p s).1.stock = s.stock := by
  unfold servicePresentation; (repeat' split) <;> simp
@[simp] theorem servicePresentation_bank (p : Nat) : (servicePresentation p s).1.bank = s.bank := by
  unfold servicePresentation; (repeat' split) <;> simp
@[simp] theorem servicePresentation_store (p : Nat) : (servicePresentation p s).1.store = s.store := by
  unfold servicePresentation; (repeat' split) <;> simp
@[simp] theorem servicePresentation_line (p : Nat) : (servicePresentation p s).1.line = s.line := by
  unfold servicePresentation; (repeat' split) <;> simp
@[simp] theorem servicePresentation_release (p : Nat) : (servicePresentation p s).1.release = s.release := by
  unfold servicePresentation; (repeat' split) <;> simp
@[simp] theorem servicePresentation_second (p : Nat) : (servicePresentation p s).1.second = s.second := by
  unfold servicePresentation; (repeat' split) <;> simp
@[simp] theorem servicePresentation_freeCount (p : Nat) : (servicePresentation p s).1.freeCount = s.freeCount := by
  unfold servicePresentation; (repeat' split) <;> simp
@[simp] theorem servicePresentation_pending (p : Nat) : (servicePresentation p s).1.pending = s.pending := by
  unfold servicePresentation; (repeat' split) <;> simp

/-! userPresentation touches bank, store, release, port. -/

@[simp] theorem userPresentation_pins (o p : Nat) (b : Bool) : (userPresentation o p b s).1.pins = s.pins := by
  unfold userPresentation; simp
@[simp] theorem userPresentation_time (o p : Nat) (b : Bool) : (userPresentation o p b s).1.time = s.time := by
  unfold userPresentation; simp
@[simp] theorem userPresentation_params (o p : Nat) (b : Bool) : (userPresentation o p b s).1.params = s.params := by
  unfold userPresentation; simp
@[simp] theorem userPresentation_printers (o p : Nat) (b : Bool) : (userPresentation o p b s).1.printers = s.printers := by
  unfold userPresentation; simp
@[simp] theorem userPresentation_callout (o p : Nat) (b : Bool) : (userPresentation o p b s).1.callout = s.callout := by
  unfold userPresentation; simp
@[simp] theorem userPresentation_stock (o p : Nat) (b : Bool) : (userPresentation o p b s).1.stock = s.stock := by
  unfold userPresentation; simp
@[simp] theorem userPresentation_line (o p : Nat) (b : Bool) : (userPresentation o p b s).1.line = s.line := by
  unfold userPresentation; simp
@[simp] theorem userPresentation_second (o p : Nat) (b : Bool) : (userPresentation o p b s).1.second = s.second := by
  unfold userPresentation; simp
@[simp] theorem userPresentation_freeCount (o p : Nat) (b : Bool) : (userPresentation o p b s).1.freeCount = s.freeCount := by
  unfold userPresentation; simp
@[simp] theorem userPresentation_pending (o p : Nat) (b : Bool) : (userPresentation o p b s).1.pending = s.pending := by
  unfold userPresentation; simp

/-! routePresentation touches bank, store, release, port, printers, callout. -/

@[simp] theorem routePresentation_pins (st : Station) (b : Word) : (routePresentation st b s).1.pins = s.pins := by
  unfold routePresentation; (repeat' split) <;> simp
@[simp] theorem routePresentation_time (st : Station) (b : Word) : (routePresentation st b s).1.time = s.time := by
  unfold routePresentation; (repeat' split) <;> simp
@[simp] theorem routePresentation_params (st : Station) (b : Word) : (routePresentation st b s).1.params = s.params := by
  unfold routePresentation; (repeat' split) <;> simp
@[simp] theorem routePresentation_stock (st : Station) (b : Word) : (routePresentation st b s).1.stock = s.stock := by
  unfold routePresentation; (repeat' split) <;> simp
@[simp] theorem routePresentation_line (st : Station) (b : Word) : (routePresentation st b s).1.line = s.line := by
  unfold routePresentation; (repeat' split) <;> simp
@[simp] theorem routePresentation_second (st : Station) (b : Word) : (routePresentation st b s).1.second = s.second := by
  unfold routePresentation; (repeat' split) <;> simp
@[simp] theorem routePresentation_freeCount (st : Station) (b : Word) : (routePresentation st b s).1.freeCount = s.freeCount := by
  unfold routePresentation; (repeat' split) <;> simp
@[simp] theorem routePresentation_pending (st : Station) (b : Word) : (routePresentation st b s).1.pending = s.pending := by
  unfold routePresentation; (repeat' split) <;> simp

/-! takePresentation touches bank, store, release, port, printers, callout, line. -/

@[simp] theorem takePresentation_pins (a : Nat) (b : Word) : (takePresentation a b s).pins = s.pins := by
  unfold takePresentation
  dsimp only
  split <;> simp
@[simp] theorem takePresentation_time (a : Nat) (b : Word) : (takePresentation a b s).time = s.time := by
  unfold takePresentation
  dsimp only
  split <;> simp
@[simp] theorem takePresentation_params (a : Nat) (b : Word) : (takePresentation a b s).params = s.params := by
  unfold takePresentation
  dsimp only
  split <;> simp
@[simp] theorem takePresentation_stock (a : Nat) (b : Word) : (takePresentation a b s).stock = s.stock := by
  unfold takePresentation
  dsimp only
  split <;> simp
@[simp] theorem takePresentation_second (a : Nat) (b : Word) : (takePresentation a b s).second = s.second := by
  unfold takePresentation
  dsimp only
  split <;> simp
@[simp] theorem takePresentation_freeCount (a : Nat) (b : Word) : (takePresentation a b s).freeCount = s.freeCount := by
  unfold takePresentation
  dsimp only
  split <;> simp
@[simp] theorem takePresentation_pending (a : Nat) (b : Word) : (takePresentation a b s).pending = s.pending := by
  unfold takePresentation
  dsimp only
  split <;> simp

/-! judgeExchange touches bank, store, release, port, printers, callout, line. -/

@[simp] theorem judgeExchange_pins (ex : Exchange) (v : Verdict) : (judgeExchange ex v s).pins = s.pins := by
  unfold judgeExchange; (repeat' split) <;> simp
@[simp] theorem judgeExchange_time (ex : Exchange) (v : Verdict) : (judgeExchange ex v s).time = s.time := by
  unfold judgeExchange; (repeat' split) <;> simp
@[simp] theorem judgeExchange_params (ex : Exchange) (v : Verdict) : (judgeExchange ex v s).params = s.params := by
  unfold judgeExchange; (repeat' split) <;> simp
@[simp] theorem judgeExchange_stock (ex : Exchange) (v : Verdict) : (judgeExchange ex v s).stock = s.stock := by
  unfold judgeExchange; (repeat' split) <;> simp
@[simp] theorem judgeExchange_second (ex : Exchange) (v : Verdict) : (judgeExchange ex v s).second = s.second := by
  unfold judgeExchange; (repeat' split) <;> simp
@[simp] theorem judgeExchange_freeCount (ex : Exchange) (v : Verdict) : (judgeExchange ex v s).freeCount = s.freeCount := by
  unfold judgeExchange; (repeat' split) <;> simp
@[simp] theorem judgeExchange_pending (ex : Exchange) (v : Verdict) : (judgeExchange ex v s).pending = s.pending := by
  unfold judgeExchange; (repeat' split) <;> simp

/-! endExchange touches bank, store, release, port, printers, callout, line. -/

@[simp] theorem endExchange_pins (ex : Exchange) (v : Verdict) : (endExchange ex v s).pins = s.pins := by
  unfold endExchange; (repeat' split) <;> simp
@[simp] theorem endExchange_time (ex : Exchange) (v : Verdict) : (endExchange ex v s).time = s.time := by
  unfold endExchange; (repeat' split) <;> simp
@[simp] theorem endExchange_params (ex : Exchange) (v : Verdict) : (endExchange ex v s).params = s.params := by
  unfold endExchange; (repeat' split) <;> simp
@[simp] theorem endExchange_stock (ex : Exchange) (v : Verdict) : (endExchange ex v s).stock = s.stock := by
  unfold endExchange; (repeat' split) <;> simp
@[simp] theorem endExchange_second (ex : Exchange) (v : Verdict) : (endExchange ex v s).second = s.second := by
  unfold endExchange; (repeat' split) <;> simp
@[simp] theorem endExchange_freeCount (ex : Exchange) (v : Verdict) : (endExchange ex v s).freeCount = s.freeCount := by
  unfold endExchange; (repeat' split) <;> simp
@[simp] theorem endExchange_pending (ex : Exchange) (v : Verdict) : (endExchange ex v s).pending = s.pending := by
  unfold endExchange; (repeat' split) <;> simp

/-! beginPoll touches line. -/

@[simp] theorem beginPoll_port (a : Nat) (b : Bool) : (beginPoll a b s).port = s.port := rfl
@[simp] theorem beginPoll_pins (a : Nat) (b : Bool) : (beginPoll a b s).pins = s.pins := rfl
@[simp] theorem beginPoll_time (a : Nat) (b : Bool) : (beginPoll a b s).time = s.time := rfl
@[simp] theorem beginPoll_params (a : Nat) (b : Bool) : (beginPoll a b s).params = s.params := rfl
@[simp] theorem beginPoll_printers (a : Nat) (b : Bool) : (beginPoll a b s).printers = s.printers := rfl
@[simp] theorem beginPoll_callout (a : Nat) (b : Bool) : (beginPoll a b s).callout = s.callout := rfl
@[simp] theorem beginPoll_stock (a : Nat) (b : Bool) : (beginPoll a b s).stock = s.stock := rfl
@[simp] theorem beginPoll_bank (a : Nat) (b : Bool) : (beginPoll a b s).bank = s.bank := rfl
@[simp] theorem beginPoll_store (a : Nat) (b : Bool) : (beginPoll a b s).store = s.store := rfl
@[simp] theorem beginPoll_release (a : Nat) (b : Bool) : (beginPoll a b s).release = s.release := rfl
@[simp] theorem beginPoll_second (a : Nat) (b : Bool) : (beginPoll a b s).second = s.second := rfl
@[simp] theorem beginPoll_freeCount (a : Nat) (b : Bool) : (beginPoll a b s).freeCount = s.freeCount := rfl
@[simp] theorem beginPoll_pending (a : Nat) (b : Bool) : (beginPoll a b s).pending = s.pending := rfl

/-! installCalendar touches line. -/

@[simp] theorem installCalendar_port (cal : List Nat) : (installCalendar cal s).port = s.port := rfl
@[simp] theorem installCalendar_pins (cal : List Nat) : (installCalendar cal s).pins = s.pins := rfl
@[simp] theorem installCalendar_time (cal : List Nat) : (installCalendar cal s).time = s.time := rfl
@[simp] theorem installCalendar_params (cal : List Nat) : (installCalendar cal s).params = s.params := rfl
@[simp] theorem installCalendar_printers (cal : List Nat) : (installCalendar cal s).printers = s.printers := rfl
@[simp] theorem installCalendar_callout (cal : List Nat) : (installCalendar cal s).callout = s.callout := rfl
@[simp] theorem installCalendar_stock (cal : List Nat) : (installCalendar cal s).stock = s.stock := rfl
@[simp] theorem installCalendar_bank (cal : List Nat) : (installCalendar cal s).bank = s.bank := rfl
@[simp] theorem installCalendar_store (cal : List Nat) : (installCalendar cal s).store = s.store := rfl
@[simp] theorem installCalendar_release (cal : List Nat) : (installCalendar cal s).release = s.release := rfl
@[simp] theorem installCalendar_second (cal : List Nat) : (installCalendar cal s).second = s.second := rfl
@[simp] theorem installCalendar_freeCount (cal : List Nat) : (installCalendar cal s).freeCount = s.freeCount := rfl
@[simp] theorem installCalendar_pending (cal : List Nat) : (installCalendar cal s).pending = s.pending := rfl

/-! groupStep touches bank. -/

@[simp] theorem groupStep_port (n : Nat) : (groupStep n s).port = s.port := rfl
@[simp] theorem groupStep_pins (n : Nat) : (groupStep n s).pins = s.pins := rfl
@[simp] theorem groupStep_time (n : Nat) : (groupStep n s).time = s.time := rfl
@[simp] theorem groupStep_params (n : Nat) : (groupStep n s).params = s.params := rfl
@[simp] theorem groupStep_printers (n : Nat) : (groupStep n s).printers = s.printers := rfl
@[simp] theorem groupStep_callout (n : Nat) : (groupStep n s).callout = s.callout := rfl
@[simp] theorem groupStep_stock (n : Nat) : (groupStep n s).stock = s.stock := rfl
@[simp] theorem groupStep_store (n : Nat) : (groupStep n s).store = s.store := rfl
@[simp] theorem groupStep_line (n : Nat) : (groupStep n s).line = s.line := rfl
@[simp] theorem groupStep_release (n : Nat) : (groupStep n s).release = s.release := rfl
@[simp] theorem groupStep_second (n : Nat) : (groupStep n s).second = s.second := rfl
@[simp] theorem groupStep_freeCount (n : Nat) : (groupStep n s).freeCount = s.freeCount := rfl
@[simp] theorem groupStep_pending (n : Nat) : (groupStep n s).pending = s.pending := rfl

/-! accountStep touches bank. -/

@[simp] theorem accountStep_port (n : Nat) : (accountStep n s).port = s.port := rfl
@[simp] theorem accountStep_pins (n : Nat) : (accountStep n s).pins = s.pins := rfl
@[simp] theorem accountStep_time (n : Nat) : (accountStep n s).time = s.time := rfl
@[simp] theorem accountStep_params (n : Nat) : (accountStep n s).params = s.params := rfl
@[simp] theorem accountStep_printers (n : Nat) : (accountStep n s).printers = s.printers := rfl
@[simp] theorem accountStep_callout (n : Nat) : (accountStep n s).callout = s.callout := rfl
@[simp] theorem accountStep_stock (n : Nat) : (accountStep n s).stock = s.stock := rfl
@[simp] theorem accountStep_store (n : Nat) : (accountStep n s).store = s.store := rfl
@[simp] theorem accountStep_line (n : Nat) : (accountStep n s).line = s.line := rfl
@[simp] theorem accountStep_release (n : Nat) : (accountStep n s).release = s.release := rfl
@[simp] theorem accountStep_second (n : Nat) : (accountStep n s).second = s.second := rfl
@[simp] theorem accountStep_freeCount (n : Nat) : (accountStep n s).freeCount = s.freeCount := rfl
@[simp] theorem accountStep_pending (n : Nat) : (accountStep n s).pending = s.pending := rfl

/-! checkOverdue touches stock, port. -/

@[simp] theorem checkOverdue_pins (t : Nat) : (checkOverdue t s).pins = s.pins := by
  unfold checkOverdue; (repeat' split) <;> simp
@[simp] theorem checkOverdue_time (t : Nat) : (checkOverdue t s).time = s.time := by
  unfold checkOverdue; (repeat' split) <;> simp
@[simp] theorem checkOverdue_params (t : Nat) : (checkOverdue t s).params = s.params := by
  unfold checkOverdue; (repeat' split) <;> simp
@[simp] theorem checkOverdue_printers (t : Nat) : (checkOverdue t s).printers = s.printers := by
  unfold checkOverdue; (repeat' split) <;> simp
@[simp] theorem checkOverdue_callout (t : Nat) : (checkOverdue t s).callout = s.callout := by
  unfold checkOverdue; (repeat' split) <;> simp
@[simp] theorem checkOverdue_bank (t : Nat) : (checkOverdue t s).bank = s.bank := by
  unfold checkOverdue; (repeat' split) <;> simp
@[simp] theorem checkOverdue_store (t : Nat) : (checkOverdue t s).store = s.store := by
  unfold checkOverdue; (repeat' split) <;> simp
@[simp] theorem checkOverdue_line (t : Nat) : (checkOverdue t s).line = s.line := by
  unfold checkOverdue; (repeat' split) <;> simp
@[simp] theorem checkOverdue_release (t : Nat) : (checkOverdue t s).release = s.release := by
  unfold checkOverdue; (repeat' split) <;> simp
@[simp] theorem checkOverdue_second (t : Nat) : (checkOverdue t s).second = s.second := by
  unfold checkOverdue; (repeat' split) <;> simp
@[simp] theorem checkOverdue_freeCount (t : Nat) : (checkOverdue t s).freeCount = s.freeCount := by
  unfold checkOverdue; (repeat' split) <;> simp
@[simp] theorem checkOverdue_pending (t : Nat) : (checkOverdue t s).pending = s.pending := by
  unfold checkOverdue; (repeat' split) <;> simp

/-! typeStep touches stock, port. -/

@[simp] theorem typeStep_pins (t : Nat) : (typeStep t s).pins = s.pins := by
  unfold typeStep; simp
@[simp] theorem typeStep_time (t : Nat) : (typeStep t s).time = s.time := by
  unfold typeStep; simp
@[simp] theorem typeStep_params (t : Nat) : (typeStep t s).params = s.params := by
  unfold typeStep; simp
@[simp] theorem typeStep_printers (t : Nat) : (typeStep t s).printers = s.printers := by
  unfold typeStep; simp
@[simp] theorem typeStep_callout (t : Nat) : (typeStep t s).callout = s.callout := by
  unfold typeStep; simp
@[simp] theorem typeStep_bank (t : Nat) : (typeStep t s).bank = s.bank := by
  unfold typeStep; simp
@[simp] theorem typeStep_store (t : Nat) : (typeStep t s).store = s.store := by
  unfold typeStep; simp
@[simp] theorem typeStep_line (t : Nat) : (typeStep t s).line = s.line := by
  unfold typeStep; simp
@[simp] theorem typeStep_release (t : Nat) : (typeStep t s).release = s.release := by
  unfold typeStep; simp
@[simp] theorem typeStep_second (t : Nat) : (typeStep t s).second = s.second := by
  unfold typeStep; simp
@[simp] theorem typeStep_freeCount (t : Nat) : (typeStep t s).freeCount = s.freeCount := by
  unfold typeStep; simp
@[simp] theorem typeStep_pending (t : Nat) : (typeStep t s).pending = s.pending := by
  unfold typeStep; simp

/-! completeSweep touches time, port. -/

@[simp] theorem completeSweep_pins : (completeSweep s).pins = s.pins := rfl
@[simp] theorem completeSweep_params : (completeSweep s).params = s.params := rfl
@[simp] theorem completeSweep_printers : (completeSweep s).printers = s.printers := rfl
@[simp] theorem completeSweep_callout : (completeSweep s).callout = s.callout := rfl
@[simp] theorem completeSweep_stock : (completeSweep s).stock = s.stock := rfl
@[simp] theorem completeSweep_bank : (completeSweep s).bank = s.bank := rfl
@[simp] theorem completeSweep_store : (completeSweep s).store = s.store := rfl
@[simp] theorem completeSweep_line : (completeSweep s).line = s.line := rfl
@[simp] theorem completeSweep_release : (completeSweep s).release = s.release := rfl
@[simp] theorem completeSweep_second : (completeSweep s).second = s.second := rfl
@[simp] theorem completeSweep_freeCount : (completeSweep s).freeCount = s.freeCount := rfl
@[simp] theorem completeSweep_pending : (completeSweep s).pending = s.pending := rfl

/-! takeTimeouts touches bank, store, release, port, second. -/

@[simp] theorem takeTimeouts_pins : (takeTimeouts s).pins = s.pins := by
  unfold takeTimeouts; simp
@[simp] theorem takeTimeouts_time : (takeTimeouts s).time = s.time := by
  unfold takeTimeouts; simp
@[simp] theorem takeTimeouts_params : (takeTimeouts s).params = s.params := by
  unfold takeTimeouts; simp
@[simp] theorem takeTimeouts_printers : (takeTimeouts s).printers = s.printers := by
  unfold takeTimeouts; simp
@[simp] theorem takeTimeouts_callout : (takeTimeouts s).callout = s.callout := by
  unfold takeTimeouts; simp
@[simp] theorem takeTimeouts_stock : (takeTimeouts s).stock = s.stock := by
  unfold takeTimeouts; simp
@[simp] theorem takeTimeouts_line : (takeTimeouts s).line = s.line := by
  unfold takeTimeouts; simp
@[simp] theorem takeTimeouts_freeCount : (takeTimeouts s).freeCount = s.freeCount := by
  unfold takeTimeouts; simp
@[simp] theorem takeTimeouts_pending : (takeTimeouts s).pending = s.pending := by
  unfold takeTimeouts; simp

/-! silencePrinter touches bank, store, release, port, printers, second. -/

@[simp] theorem silencePrinter_pins (n : Nat) : (silencePrinter s n).pins = s.pins := by
  unfold silencePrinter; simp
@[simp] theorem silencePrinter_time (n : Nat) : (silencePrinter s n).time = s.time := by
  unfold silencePrinter; simp
@[simp] theorem silencePrinter_params (n : Nat) : (silencePrinter s n).params = s.params := by
  unfold silencePrinter; simp
@[simp] theorem silencePrinter_callout (n : Nat) : (silencePrinter s n).callout = s.callout := by
  unfold silencePrinter; simp
@[simp] theorem silencePrinter_stock (n : Nat) : (silencePrinter s n).stock = s.stock := by
  unfold silencePrinter; simp
@[simp] theorem silencePrinter_line (n : Nat) : (silencePrinter s n).line = s.line := by
  unfold silencePrinter; simp
@[simp] theorem silencePrinter_freeCount (n : Nat) : (silencePrinter s n).freeCount = s.freeCount := by
  unfold silencePrinter; simp
@[simp] theorem silencePrinter_pending (n : Nat) : (silencePrinter s n).pending = s.pending := by
  unfold silencePrinter; simp

/-! silenceExamination touches bank, store, release, port, printers, second. -/

@[simp] theorem silenceExamination_pins : (silenceExamination s).pins = s.pins := by
  unfold silenceExamination
  exact (noteUnreconciled_pins _ _).trans ((foldl_keeps (fun s : State => s.pins) judgePrinter (fun _ _ => rfl) _ _).trans
    (foldl_keeps (fun s : State => s.pins) _ (fun s n => silencePrinter_pins s n) _ _))
@[simp] theorem silenceExamination_time : (silenceExamination s).time = s.time := by
  unfold silenceExamination
  exact (noteUnreconciled_time _ _).trans ((foldl_keeps (fun s : State => s.time) judgePrinter (fun _ _ => rfl) _ _).trans
    (foldl_keeps (fun s : State => s.time) _ (fun s n => silencePrinter_time s n) _ _))
@[simp] theorem silenceExamination_params : (silenceExamination s).params = s.params := by
  unfold silenceExamination
  exact (noteUnreconciled_params _ _).trans ((foldl_keeps (fun s : State => s.params) judgePrinter (fun _ _ => rfl) _ _).trans
    (foldl_keeps (fun s : State => s.params) _ (fun s n => silencePrinter_params s n) _ _))
@[simp] theorem silenceExamination_callout : (silenceExamination s).callout = s.callout := by
  unfold silenceExamination
  exact (noteUnreconciled_callout _ _).trans ((foldl_keeps (fun s : State => s.callout) judgePrinter (fun _ _ => rfl) _ _).trans
    (foldl_keeps (fun s : State => s.callout) _ (fun s n => silencePrinter_callout s n) _ _))
@[simp] theorem silenceExamination_stock : (silenceExamination s).stock = s.stock := by
  unfold silenceExamination
  exact (noteUnreconciled_stock _ _).trans ((foldl_keeps (fun s : State => s.stock) judgePrinter (fun _ _ => rfl) _ _).trans
    (foldl_keeps (fun s : State => s.stock) _ (fun s n => silencePrinter_stock s n) _ _))
@[simp] theorem silenceExamination_line : (silenceExamination s).line = s.line := by
  unfold silenceExamination
  exact (noteUnreconciled_line _ _).trans ((foldl_keeps (fun s : State => s.line) judgePrinter (fun _ _ => rfl) _ _).trans
    (foldl_keeps (fun s : State => s.line) _ (fun s n => silencePrinter_line s n) _ _))
@[simp] theorem silenceExamination_freeCount : (silenceExamination s).freeCount = s.freeCount := by
  unfold silenceExamination
  exact (noteUnreconciled_freeCount _ _).trans ((foldl_keeps (fun s : State => s.freeCount) judgePrinter (fun _ _ => rfl) _ _).trans
    (foldl_keeps (fun s : State => s.freeCount) _ (fun s n => silencePrinter_freeCount s n) _ _))
@[simp] theorem silenceExamination_pending : (silenceExamination s).pending = s.pending := by
  unfold silenceExamination
  exact (noteUnreconciled_pending _ _).trans ((foldl_keeps (fun s : State => s.pending) judgePrinter (fun _ _ => rfl) _ _).trans
    (foldl_keeps (fun s : State => s.pending) _ (fun s n => silencePrinter_pending s n) _ _))

/-! classTickEffect touches printers, second. -/

@[simp] theorem classTickEffect_port (n : Nat) : (classTickEffect n s).port = s.port := rfl
@[simp] theorem classTickEffect_pins (n : Nat) : (classTickEffect n s).pins = s.pins := rfl
@[simp] theorem classTickEffect_time (n : Nat) : (classTickEffect n s).time = s.time := rfl
@[simp] theorem classTickEffect_params (n : Nat) : (classTickEffect n s).params = s.params := rfl
@[simp] theorem classTickEffect_callout (n : Nat) : (classTickEffect n s).callout = s.callout := rfl
@[simp] theorem classTickEffect_stock (n : Nat) : (classTickEffect n s).stock = s.stock := rfl
@[simp] theorem classTickEffect_bank (n : Nat) : (classTickEffect n s).bank = s.bank := rfl
@[simp] theorem classTickEffect_store (n : Nat) : (classTickEffect n s).store = s.store := rfl
@[simp] theorem classTickEffect_line (n : Nat) : (classTickEffect n s).line = s.line := rfl
@[simp] theorem classTickEffect_release (n : Nat) : (classTickEffect n s).release = s.release := rfl
@[simp] theorem classTickEffect_freeCount (n : Nat) : (classTickEffect n s).freeCount = s.freeCount := rfl
@[simp] theorem classTickEffect_pending (n : Nat) : (classTickEffect n s).pending = s.pending := rfl

/-! reconcileSecond touches printers, callout, port, second. -/

@[simp] theorem reconcileSecond_pins : (reconcileSecond s).pins = s.pins := by
  unfold reconcileSecond; simp
@[simp] theorem reconcileSecond_time : (reconcileSecond s).time = s.time := by
  unfold reconcileSecond; simp
@[simp] theorem reconcileSecond_params : (reconcileSecond s).params = s.params := by
  unfold reconcileSecond; simp
@[simp] theorem reconcileSecond_stock : (reconcileSecond s).stock = s.stock := by
  unfold reconcileSecond; simp
@[simp] theorem reconcileSecond_bank : (reconcileSecond s).bank = s.bank := by
  unfold reconcileSecond; simp
@[simp] theorem reconcileSecond_store : (reconcileSecond s).store = s.store := by
  unfold reconcileSecond; simp
@[simp] theorem reconcileSecond_line : (reconcileSecond s).line = s.line := by
  unfold reconcileSecond; simp
@[simp] theorem reconcileSecond_release : (reconcileSecond s).release = s.release := by
  unfold reconcileSecond; simp
@[simp] theorem reconcileSecond_freeCount : (reconcileSecond s).freeCount = s.freeCount := by
  unfold reconcileSecond; simp
@[simp] theorem reconcileSecond_pending : (reconcileSecond s).pending = s.pending := by
  unfold reconcileSecond; simp

/-! escalations touches callout, port. -/

@[simp] theorem escalations_pins : (escalations s).pins = s.pins := by
  unfold escalations; simp
@[simp] theorem escalations_time : (escalations s).time = s.time := by
  unfold escalations; simp
@[simp] theorem escalations_params : (escalations s).params = s.params := by
  unfold escalations; simp
@[simp] theorem escalations_printers : (escalations s).printers = s.printers := by
  unfold escalations; simp
@[simp] theorem escalations_stock : (escalations s).stock = s.stock := by
  unfold escalations; simp
@[simp] theorem escalations_bank : (escalations s).bank = s.bank := by
  unfold escalations; simp
@[simp] theorem escalations_store : (escalations s).store = s.store := by
  unfold escalations; simp
@[simp] theorem escalations_line : (escalations s).line = s.line := by
  unfold escalations; simp
@[simp] theorem escalations_release : (escalations s).release = s.release := by
  unfold escalations; simp
@[simp] theorem escalations_second : (escalations s).second = s.second := by
  unfold escalations; simp
@[simp] theorem escalations_freeCount : (escalations s).freeCount = s.freeCount := by
  unfold escalations; simp
@[simp] theorem escalations_pending : (escalations s).pending = s.pending := by
  unfold escalations; simp

/-! abandonJob touches bank, store, printers. -/

@[simp] theorem abandonJob_port (j : Job) : (abandonJob s j).port = s.port := by
  unfold abandonJob; (repeat' split) <;> simp
@[simp] theorem abandonJob_pins (j : Job) : (abandonJob s j).pins = s.pins := by
  unfold abandonJob; (repeat' split) <;> simp
@[simp] theorem abandonJob_time (j : Job) : (abandonJob s j).time = s.time := by
  unfold abandonJob; (repeat' split) <;> simp
@[simp] theorem abandonJob_params (j : Job) : (abandonJob s j).params = s.params := by
  unfold abandonJob; (repeat' split) <;> simp
@[simp] theorem abandonJob_callout (j : Job) : (abandonJob s j).callout = s.callout := by
  unfold abandonJob; (repeat' split) <;> simp
@[simp] theorem abandonJob_stock (j : Job) : (abandonJob s j).stock = s.stock := by
  unfold abandonJob; (repeat' split) <;> simp
@[simp] theorem abandonJob_line (j : Job) : (abandonJob s j).line = s.line := by
  unfold abandonJob; (repeat' split) <;> simp
@[simp] theorem abandonJob_release (j : Job) : (abandonJob s j).release = s.release := by
  unfold abandonJob; (repeat' split) <;> simp
@[simp] theorem abandonJob_second (j : Job) : (abandonJob s j).second = s.second := by
  unfold abandonJob; (repeat' split) <;> simp
@[simp] theorem abandonJob_freeCount (j : Job) : (abandonJob s j).freeCount = s.freeCount := by
  unfold abandonJob; (repeat' split) <;> simp
@[simp] theorem abandonJob_pending (j : Job) : (abandonJob s j).pending = s.pending := by
  unfold abandonJob; (repeat' split) <;> simp

/-! abandonments touches bank, store, printers, port. -/

@[simp] theorem abandonments_pins : (abandonments s).pins = s.pins := by
  unfold abandonments
  exact (setCauseIf_pins _ _ _).trans (foldl_keeps (fun s : State => s.pins) _ (fun s j => abandonJob_pins s j) _ _)
@[simp] theorem abandonments_time : (abandonments s).time = s.time := by
  unfold abandonments
  exact (setCauseIf_time _ _ _).trans (foldl_keeps (fun s : State => s.time) _ (fun s j => abandonJob_time s j) _ _)
@[simp] theorem abandonments_params : (abandonments s).params = s.params := by
  unfold abandonments
  exact (setCauseIf_params _ _ _).trans (foldl_keeps (fun s : State => s.params) _ (fun s j => abandonJob_params s j) _ _)
@[simp] theorem abandonments_callout : (abandonments s).callout = s.callout := by
  unfold abandonments
  exact (setCauseIf_callout _ _ _).trans (foldl_keeps (fun s : State => s.callout) _ (fun s j => abandonJob_callout s j) _ _)
@[simp] theorem abandonments_stock : (abandonments s).stock = s.stock := by
  unfold abandonments
  exact (setCauseIf_stock _ _ _).trans (foldl_keeps (fun s : State => s.stock) _ (fun s j => abandonJob_stock s j) _ _)
@[simp] theorem abandonments_line : (abandonments s).line = s.line := by
  unfold abandonments
  exact (setCauseIf_line _ _ _).trans (foldl_keeps (fun s : State => s.line) _ (fun s j => abandonJob_line s j) _ _)
@[simp] theorem abandonments_release : (abandonments s).release = s.release := by
  unfold abandonments
  exact (setCauseIf_release _ _ _).trans (foldl_keeps (fun s : State => s.release) _ (fun s j => abandonJob_release s j) _ _)
@[simp] theorem abandonments_second : (abandonments s).second = s.second := by
  unfold abandonments
  exact (setCauseIf_second _ _ _).trans (foldl_keeps (fun s : State => s.second) _ (fun s j => abandonJob_second s j) _ _)
@[simp] theorem abandonments_freeCount : (abandonments s).freeCount = s.freeCount := by
  unfold abandonments
  exact (setCauseIf_freeCount _ _ _).trans (foldl_keeps (fun s : State => s.freeCount) _ (fun s j => abandonJob_freeCount s j) _ _)
@[simp] theorem abandonments_pending : (abandonments s).pending = s.pending := by
  unfold abandonments
  exact (setCauseIf_pending _ _ _).trans (foldl_keeps (fun s : State => s.pending) _ (fun s j => abandonJob_pending s j) _ _)

/-! holdExpiries touches store, port. -/

@[simp] theorem holdExpiries_pins : (holdExpiries s).pins = s.pins := by
  unfold holdExpiries
  exact (setCauseIf_pins _ _ _).trans
    (foldl_keeps (fun s : State => s.pins) (fun s n => retireJob n s) (fun _ _ => rfl) _ _)
@[simp] theorem holdExpiries_time : (holdExpiries s).time = s.time := by
  unfold holdExpiries
  exact (setCauseIf_time _ _ _).trans
    (foldl_keeps (fun s : State => s.time) (fun s n => retireJob n s) (fun _ _ => rfl) _ _)
@[simp] theorem holdExpiries_params : (holdExpiries s).params = s.params := by
  unfold holdExpiries
  exact (setCauseIf_params _ _ _).trans
    (foldl_keeps (fun s : State => s.params) (fun s n => retireJob n s) (fun _ _ => rfl) _ _)
@[simp] theorem holdExpiries_printers : (holdExpiries s).printers = s.printers := by
  unfold holdExpiries
  exact (setCauseIf_printers _ _ _).trans
    (foldl_keeps (fun s : State => s.printers) (fun s n => retireJob n s) (fun _ _ => rfl) _ _)
@[simp] theorem holdExpiries_callout : (holdExpiries s).callout = s.callout := by
  unfold holdExpiries
  exact (setCauseIf_callout _ _ _).trans
    (foldl_keeps (fun s : State => s.callout) (fun s n => retireJob n s) (fun _ _ => rfl) _ _)
@[simp] theorem holdExpiries_stock : (holdExpiries s).stock = s.stock := by
  unfold holdExpiries
  exact (setCauseIf_stock _ _ _).trans
    (foldl_keeps (fun s : State => s.stock) (fun s n => retireJob n s) (fun _ _ => rfl) _ _)
@[simp] theorem holdExpiries_bank : (holdExpiries s).bank = s.bank := by
  unfold holdExpiries
  exact (setCauseIf_bank _ _ _).trans
    (foldl_keeps (fun s : State => s.bank) (fun s n => retireJob n s) (fun _ _ => rfl) _ _)
@[simp] theorem holdExpiries_line : (holdExpiries s).line = s.line := by
  unfold holdExpiries
  exact (setCauseIf_line _ _ _).trans
    (foldl_keeps (fun s : State => s.line) (fun s n => retireJob n s) (fun _ _ => rfl) _ _)
@[simp] theorem holdExpiries_release : (holdExpiries s).release = s.release := by
  unfold holdExpiries
  exact (setCauseIf_release _ _ _).trans
    (foldl_keeps (fun s : State => s.release) (fun s n => retireJob n s) (fun _ _ => rfl) _ _)
@[simp] theorem holdExpiries_second : (holdExpiries s).second = s.second := by
  unfold holdExpiries
  exact (setCauseIf_second _ _ _).trans
    (foldl_keeps (fun s : State => s.second) (fun s n => retireJob n s) (fun _ _ => rfl) _ _)
@[simp] theorem holdExpiries_freeCount : (holdExpiries s).freeCount = s.freeCount := by
  unfold holdExpiries
  exact (setCauseIf_freeCount _ _ _).trans
    (foldl_keeps (fun s : State => s.freeCount) (fun s n => retireJob n s) (fun _ _ => rfl) _ _)
@[simp] theorem holdExpiries_pending : (holdExpiries s).pending = s.pending := by
  unfold holdExpiries
  exact (setCauseIf_pending _ _ _).trans
    (foldl_keeps (fun s : State => s.pending) (fun s n => retireJob n s) (fun _ _ => rfl) _ _)

/-! quietTimer touches line. -/

@[simp] theorem quietTimer_port : (quietTimer s).port = s.port := by
  unfold quietTimer; (repeat' split) <;> simp
@[simp] theorem quietTimer_pins : (quietTimer s).pins = s.pins := by
  unfold quietTimer; (repeat' split) <;> simp
@[simp] theorem quietTimer_time : (quietTimer s).time = s.time := by
  unfold quietTimer; (repeat' split) <;> simp
@[simp] theorem quietTimer_params : (quietTimer s).params = s.params := by
  unfold quietTimer; (repeat' split) <;> simp
@[simp] theorem quietTimer_printers : (quietTimer s).printers = s.printers := by
  unfold quietTimer; (repeat' split) <;> simp
@[simp] theorem quietTimer_callout : (quietTimer s).callout = s.callout := by
  unfold quietTimer; (repeat' split) <;> simp
@[simp] theorem quietTimer_stock : (quietTimer s).stock = s.stock := by
  unfold quietTimer; (repeat' split) <;> simp
@[simp] theorem quietTimer_bank : (quietTimer s).bank = s.bank := by
  unfold quietTimer; (repeat' split) <;> simp
@[simp] theorem quietTimer_store : (quietTimer s).store = s.store := by
  unfold quietTimer; (repeat' split) <;> simp
@[simp] theorem quietTimer_release : (quietTimer s).release = s.release := by
  unfold quietTimer; (repeat' split) <;> simp
@[simp] theorem quietTimer_second : (quietTimer s).second = s.second := by
  unfold quietTimer; (repeat' split) <;> simp
@[simp] theorem quietTimer_freeCount : (quietTimer s).freeCount = s.freeCount := by
  unfold quietTimer; (repeat' split) <;> simp
@[simp] theorem quietTimer_pending : (quietTimer s).pending = s.pending := by
  unfold quietTimer; (repeat' split) <;> simp

/-! dayBoundaryEffect touches time. -/

@[simp] theorem dayBoundaryEffect_port : (dayBoundaryEffect s).port = s.port := rfl
@[simp] theorem dayBoundaryEffect_pins : (dayBoundaryEffect s).pins = s.pins := rfl
@[simp] theorem dayBoundaryEffect_params : (dayBoundaryEffect s).params = s.params := rfl
@[simp] theorem dayBoundaryEffect_printers : (dayBoundaryEffect s).printers = s.printers := rfl
@[simp] theorem dayBoundaryEffect_callout : (dayBoundaryEffect s).callout = s.callout := rfl
@[simp] theorem dayBoundaryEffect_stock : (dayBoundaryEffect s).stock = s.stock := rfl
@[simp] theorem dayBoundaryEffect_bank : (dayBoundaryEffect s).bank = s.bank := rfl
@[simp] theorem dayBoundaryEffect_store : (dayBoundaryEffect s).store = s.store := rfl
@[simp] theorem dayBoundaryEffect_line : (dayBoundaryEffect s).line = s.line := rfl
@[simp] theorem dayBoundaryEffect_release : (dayBoundaryEffect s).release = s.release := rfl
@[simp] theorem dayBoundaryEffect_second : (dayBoundaryEffect s).second = s.second := rfl
@[simp] theorem dayBoundaryEffect_freeCount : (dayBoundaryEffect s).freeCount = s.freeCount := rfl
@[simp] theorem dayBoundaryEffect_pending : (dayBoundaryEffect s).pending = s.pending := rfl

/-! runTimer touches bank, store, release, port, printers, callout, line, second, time. -/

@[simp] theorem runTimer_pins (t : Timer) : (runTimer t s).pins = s.pins := by
  cases t <;> simp [runTimer]
@[simp] theorem runTimer_params (t : Timer) : (runTimer t s).params = s.params := by
  cases t <;> simp [runTimer]
@[simp] theorem runTimer_stock (t : Timer) : (runTimer t s).stock = s.stock := by
  cases t <;> simp [runTimer]
@[simp] theorem runTimer_freeCount (t : Timer) : (runTimer t s).freeCount = s.freeCount := by
  cases t <;> simp [runTimer]
@[simp] theorem runTimer_pending (t : Timer) : (runTimer t s).pending = s.pending := by
  cases t <;> simp [runTimer]

/-! closeTimer touches second. -/

@[simp] theorem closeTimer_port (t : Timer) : (closeTimer t s).port = s.port := rfl
@[simp] theorem closeTimer_pins (t : Timer) : (closeTimer t s).pins = s.pins := rfl
@[simp] theorem closeTimer_time (t : Timer) : (closeTimer t s).time = s.time := rfl
@[simp] theorem closeTimer_params (t : Timer) : (closeTimer t s).params = s.params := rfl
@[simp] theorem closeTimer_printers (t : Timer) : (closeTimer t s).printers = s.printers := rfl
@[simp] theorem closeTimer_callout (t : Timer) : (closeTimer t s).callout = s.callout := rfl
@[simp] theorem closeTimer_stock (t : Timer) : (closeTimer t s).stock = s.stock := rfl
@[simp] theorem closeTimer_bank (t : Timer) : (closeTimer t s).bank = s.bank := rfl
@[simp] theorem closeTimer_store (t : Timer) : (closeTimer t s).store = s.store := rfl
@[simp] theorem closeTimer_line (t : Timer) : (closeTimer t s).line = s.line := rfl
@[simp] theorem closeTimer_release (t : Timer) : (closeTimer t s).release = s.release := rfl
@[simp] theorem closeTimer_freeCount (t : Timer) : (closeTimer t s).freeCount = s.freeCount := rfl
@[simp] theorem closeTimer_pending (t : Timer) : (closeTimer t s).pending = s.pending := rfl

/-! passTimer touches bank, store, release, port, printers, callout, line, second, time. -/

@[simp] theorem passTimer_pins (t : Timer) : (passTimer s t).pins = s.pins := by
  unfold passTimer; dsimp only; split <;> simp
@[simp] theorem passTimer_params (t : Timer) : (passTimer s t).params = s.params := by
  unfold passTimer; dsimp only; split <;> simp
@[simp] theorem passTimer_stock (t : Timer) : (passTimer s t).stock = s.stock := by
  unfold passTimer; dsimp only; split <;> simp
@[simp] theorem passTimer_freeCount (t : Timer) : (passTimer s t).freeCount = s.freeCount := by
  unfold passTimer; dsimp only; split <;> simp
@[simp] theorem passTimer_pending (t : Timer) : (passTimer s t).pending = s.pending := by
  unfold passTimer; dsimp only; split <;> simp

/-! finishSecond touches bank, store, release, port, printers, callout, line, second, time. -/

@[simp] theorem finishSecond_pins : (finishSecond s).pins = s.pins := by
  unfold finishSecond
  exact foldl_keeps (fun s : State => s.pins) _ (fun s t => passTimer_pins s t) _ _
@[simp] theorem finishSecond_params : (finishSecond s).params = s.params := by
  unfold finishSecond
  exact foldl_keeps (fun s : State => s.params) _ (fun s t => passTimer_params s t) _ _
@[simp] theorem finishSecond_stock : (finishSecond s).stock = s.stock := by
  unfold finishSecond
  exact foldl_keeps (fun s : State => s.stock) _ (fun s t => passTimer_stock s t) _ _
@[simp] theorem finishSecond_freeCount : (finishSecond s).freeCount = s.freeCount := by
  unfold finishSecond
  exact foldl_keeps (fun s : State => s.freeCount) _ (fun s t => passTimer_freeCount s t) _ _
@[simp] theorem finishSecond_pending : (finishSecond s).pending = s.pending := by
  unfold finishSecond
  exact foldl_keeps (fun s : State => s.pending) _ (fun s t => passTimer_pending s t) _ _

/-! beginSecond touches time, second. -/

@[simp] theorem beginSecond_port : (beginSecond s).port = s.port := rfl
@[simp] theorem beginSecond_pins : (beginSecond s).pins = s.pins := rfl
@[simp] theorem beginSecond_params : (beginSecond s).params = s.params := rfl
@[simp] theorem beginSecond_printers : (beginSecond s).printers = s.printers := rfl
@[simp] theorem beginSecond_callout : (beginSecond s).callout = s.callout := rfl
@[simp] theorem beginSecond_stock : (beginSecond s).stock = s.stock := rfl
@[simp] theorem beginSecond_bank : (beginSecond s).bank = s.bank := rfl
@[simp] theorem beginSecond_store : (beginSecond s).store = s.store := rfl
@[simp] theorem beginSecond_line : (beginSecond s).line = s.line := rfl
@[simp] theorem beginSecond_release : (beginSecond s).release = s.release := rfl
@[simp] theorem beginSecond_freeCount : (beginSecond s).freeCount = s.freeCount := rfl
@[simp] theorem beginSecond_pending : (beginSecond s).pending = s.pending := rfl

/-! dividerPeriod touches time, second. -/

@[simp] theorem dividerPeriod_port : (dividerPeriod s).port = s.port := by
  unfold dividerPeriod; (repeat' split) <;> simp
@[simp] theorem dividerPeriod_pins : (dividerPeriod s).pins = s.pins := by
  unfold dividerPeriod; (repeat' split) <;> simp
@[simp] theorem dividerPeriod_params : (dividerPeriod s).params = s.params := by
  unfold dividerPeriod; (repeat' split) <;> simp
@[simp] theorem dividerPeriod_printers : (dividerPeriod s).printers = s.printers := by
  unfold dividerPeriod; (repeat' split) <;> simp
@[simp] theorem dividerPeriod_callout : (dividerPeriod s).callout = s.callout := by
  unfold dividerPeriod; (repeat' split) <;> simp
@[simp] theorem dividerPeriod_stock : (dividerPeriod s).stock = s.stock := by
  unfold dividerPeriod; (repeat' split) <;> simp
@[simp] theorem dividerPeriod_bank : (dividerPeriod s).bank = s.bank := by
  unfold dividerPeriod; (repeat' split) <;> simp
@[simp] theorem dividerPeriod_store : (dividerPeriod s).store = s.store := by
  unfold dividerPeriod; (repeat' split) <;> simp
@[simp] theorem dividerPeriod_line : (dividerPeriod s).line = s.line := by
  unfold dividerPeriod; (repeat' split) <;> simp
@[simp] theorem dividerPeriod_release : (dividerPeriod s).release = s.release := by
  unfold dividerPeriod; (repeat' split) <;> simp
@[simp] theorem dividerPeriod_freeCount : (dividerPeriod s).freeCount = s.freeCount := by
  unfold dividerPeriod; (repeat' split) <;> simp
@[simp] theorem dividerPeriod_pending : (dividerPeriod s).pending = s.pending := by
  unfold dividerPeriod; (repeat' split) <;> simp

/-! linePeriod touches line. -/

@[simp] theorem linePeriod_port : (linePeriod s).port = s.port := rfl
@[simp] theorem linePeriod_pins : (linePeriod s).pins = s.pins := rfl
@[simp] theorem linePeriod_time : (linePeriod s).time = s.time := rfl
@[simp] theorem linePeriod_params : (linePeriod s).params = s.params := rfl
@[simp] theorem linePeriod_printers : (linePeriod s).printers = s.printers := rfl
@[simp] theorem linePeriod_callout : (linePeriod s).callout = s.callout := rfl
@[simp] theorem linePeriod_stock : (linePeriod s).stock = s.stock := rfl
@[simp] theorem linePeriod_bank : (linePeriod s).bank = s.bank := rfl
@[simp] theorem linePeriod_store : (linePeriod s).store = s.store := rfl
@[simp] theorem linePeriod_release : (linePeriod s).release = s.release := rfl
@[simp] theorem linePeriod_second : (linePeriod s).second = s.second := rfl
@[simp] theorem linePeriod_freeCount : (linePeriod s).freeCount = s.freeCount := rfl
@[simp] theorem linePeriod_pending : (linePeriod s).pending = s.pending := rfl

/-! clockPeriod touches time, second, line. -/

@[simp] theorem clockPeriod_port : (clockPeriod s).port = s.port := by
  unfold clockPeriod; simp
@[simp] theorem clockPeriod_pins : (clockPeriod s).pins = s.pins := by
  unfold clockPeriod; simp
@[simp] theorem clockPeriod_params : (clockPeriod s).params = s.params := by
  unfold clockPeriod; simp
@[simp] theorem clockPeriod_printers : (clockPeriod s).printers = s.printers := by
  unfold clockPeriod; simp
@[simp] theorem clockPeriod_callout : (clockPeriod s).callout = s.callout := by
  unfold clockPeriod; simp
@[simp] theorem clockPeriod_stock : (clockPeriod s).stock = s.stock := by
  unfold clockPeriod; simp
@[simp] theorem clockPeriod_bank : (clockPeriod s).bank = s.bank := by
  unfold clockPeriod; simp
@[simp] theorem clockPeriod_store : (clockPeriod s).store = s.store := by
  unfold clockPeriod; simp
@[simp] theorem clockPeriod_release : (clockPeriod s).release = s.release := by
  unfold clockPeriod; simp
@[simp] theorem clockPeriod_freeCount : (clockPeriod s).freeCount = s.freeCount := by
  unfold clockPeriod; simp
@[simp] theorem clockPeriod_pending : (clockPeriod s).pending = s.pending := by
  unfold clockPeriod; simp

/-! storeParam touches params, printers, callout, port. -/

@[simp] theorem storeParam_pins (i : ParamId) (v : Nat) : (storeParam i v s).pins = s.pins := by
  unfold storeParam; (repeat' split) <;> simp
@[simp] theorem storeParam_time (i : ParamId) (v : Nat) : (storeParam i v s).time = s.time := by
  unfold storeParam; (repeat' split) <;> simp
@[simp] theorem storeParam_stock (i : ParamId) (v : Nat) : (storeParam i v s).stock = s.stock := by
  unfold storeParam; (repeat' split) <;> simp
@[simp] theorem storeParam_bank (i : ParamId) (v : Nat) : (storeParam i v s).bank = s.bank := by
  unfold storeParam; (repeat' split) <;> simp
@[simp] theorem storeParam_store (i : ParamId) (v : Nat) : (storeParam i v s).store = s.store := by
  unfold storeParam; (repeat' split) <;> simp
@[simp] theorem storeParam_line (i : ParamId) (v : Nat) : (storeParam i v s).line = s.line := by
  unfold storeParam; (repeat' split) <;> simp
@[simp] theorem storeParam_release (i : ParamId) (v : Nat) : (storeParam i v s).release = s.release := by
  unfold storeParam; (repeat' split) <;> simp
@[simp] theorem storeParam_second (i : ParamId) (v : Nat) : (storeParam i v s).second = s.second := by
  unfold storeParam; (repeat' split) <;> simp
@[simp] theorem storeParam_freeCount (i : ParamId) (v : Nat) : (storeParam i v s).freeCount = s.freeCount := by
  unfold storeParam; (repeat' split) <;> simp
@[simp] theorem storeParam_pending (i : ParamId) (v : Nat) : (storeParam i v s).pending = s.pending := by
  unfold storeParam; (repeat' split) <;> simp

end Sys2Proof.Machine
end

