-- ==== Sys2Proof/Laws/Operands.lean ====
section
/-!
SUPPORT. Laws/Operands.lean: the ranges of request fields, the lengths of response fields, and the kind tables.
-/

namespace Sys2Proof.Machine

/-! ### Request fields -/

theorem byteAt_lt (p : Payload) (i : Nat) : byteAt p i < 256 := (p.getD i 0).isLt

theorem u16_lt (p : Payload) (i : Nat) : u16 p i < 65536 := by
  have h₁ := byteAt_lt p i
  have h₂ := byteAt_lt p (i + 1)
  unfold u16
  omega

theorem u32_lt (p : Payload) (i : Nat) : u32 p i < 4294967296 := by
  have h₁ := u16_lt p i
  have h₂ := u16_lt p (i + 2)
  unfold u32
  omega

theorem toNat_word (p : Payload) (i : Nat) : (word p i).toNat = u32 p i := by
  simpa [word] using u32_lt p i

/-! ### Response fields -/

@[simp] theorem length_le (n x : Nat) : (le n x).length = n := by
  induction n generalizing x with
  | zero => rfl
  | succ n ih => simp [le, ih]

@[simp] theorem length_leInt (n : Nat) (x : Int) : (leInt n x).length = n := length_le n _

/-- A character takes 10 bit times (R117). -/
@[simp] theorem length_charBits (b : Byte) : (charBits b).length = 10 := by simp [charBits]

theorem lineBits_cons (b : Byte) (l : List Byte) : lineBits (b :: l) = charBits b ++ lineBits l := rfl

@[simp] theorem length_lineBits (l : List Byte) : (lineBits l).length = 10 * l.length := by
  induction l with
  | nil => rfl
  | cons b l ih => rw [lineBits_cons, List.length_append, ih, length_charBits, List.length_cons]; omega

@[simp] theorem length_flag (b : Bool) : (flag b).length = 1 := rfl

@[simp] theorem length_optional (w : Nat) (o : Option Nat) : (optional w o).length = w + 1 := by
  cases o <;> simp [optional]

/-! ### A field written is the field read -/

theorem byteAt_le_one {n : Nat} (h : n ≤ 255) (rest : Payload) : byteAt (le 1 n ++ rest) 0 = n := by
  simp [byteAt, le]
  omega

theorem u16_le_two {n : Nat} (h : n ≤ 65535) (rest : Payload) : u16 (le 2 n ++ rest) 0 = n := by
  simp [u16, byteAt, le]
  omega

theorem u32_le_four {n : Nat} (h : n < 4294967296) (rest : Payload) : u32 (le 4 n ++ rest) 0 = n := by
  simp [u32, u16, byteAt, le]
  omega

/-! ### Kinds and kind tables -/

theorem FaultKind.mem_all (k : FaultKind) : k ∈ FaultKind.all := by cases k <;> decide

@[simp] theorem FaultKind.getD_all (k : FaultKind) : FaultKind.all.getD k.index.val .noContact = k := by cases k <;> rfl

theorem FaultKind.index_injective {j k : FaultKind} (h : j.index = k.index) : j = k := by
  rw [← FaultKind.getD_all j, h, FaultKind.getD_all]

theorem FaultKind.ofNumber?_number (k : FaultKind) : FaultKind.ofNumber? k.number = some k := by cases k <;> rfl

@[simp] theorem KindTable.at_of {α : Type} (f : FaultKind → α) (k : FaultKind) : (KindTable.of f).at k = f k := by
  have h : (KindTable.of f).at k = f (FaultKind.all.getD k.index.val .noContact) := by
    unfold KindTable.at KindTable.of
    rw [Vector.get_eq_getElem]
    exact Vector.getElem_ofFn _
  rw [h, FaultKind.getD_all]

theorem KindTable.at_upd {α : Type} (t : KindTable α) (j k : FaultKind) (x : α) :
    (t.upd j x).at k = if k = j then x else t.at k := by
  unfold KindTable.at KindTable.upd
  rw [Vector.get_eq_getElem, Vector.get_eq_getElem, Vector.getElem_set]
  by_cases h : k = j
  · simp [h]
  · have : j.index.val ≠ k.index.val := fun e => h (FaultKind.index_injective (Fin.ext e.symm))
    simp [h, this]

end Sys2Proof.Machine
end

