-- ==== Sys2Proof/Laws/Ops.lean ====
section
/-!
SUPPORT. Laws/Ops.lean: each shared operation's effect said once. A `_cases` lemma lists everything its operation can do; an
`_induct` lemma carries a property of states through an operation that repeats others, so that no later proof
repeats that induction.
-/

namespace Sys2Proof.Machine

variable {s : State} {P : State → Prop}

/-! ### Accounts -/

theorem addReservation_of_get? {n u v : Nat} {a : Account} (h : s.bank.accounts.get? n = some a) :
    addReservation n u v s = updGroup a.group (fun g => { g with reserved := g.reserved + v })
      (updAccount n (fun a => { a with reserved := a.reserved + u }) s) := by
  simp only [addReservation, h]

theorem settle_of_get? {n c : Nat} {r : ReleaseInfo} {a : Account} (h : s.bank.accounts.get? n = some a) :
    settle n r c s = updGroup a.group (fun g =>
        { g with pool := g.pool - poolCharge r c, reserved := g.reserved - r.poolPortion })
      (updAccount n (fun x => { x with balance := max Config.balanceMin (x.balance - accountCharge r c),
                                       reserved := x.reserved - r.accountPortion }) s) := by
  simp only [settle, h]

/-- All `settle` does: nothing without the account, else one update of the account and one of its group (R94). -/
theorem settle_cases (n c : Nat) (r : ReleaseInfo) (s : State) :
    (s.bank.accounts.get? n = none ∧ settle n r c s = s)
    ∨ ∃ (a : Account) (f : Account → Account) (g : BudgetGroup → BudgetGroup), s.bank.accounts.get? n = some a
        ∧ settle n r c s = updGroup a.group g (updAccount n f s) := by
  cases h : s.bank.accounts.get? n with
  | none => exact .inl ⟨rfl, by simp only [settle, h]⟩
  | some a => exact .inr ⟨a, _, _, rfl, settle_of_get? h⟩

/-- All `portions` can answer (R93). -/
theorem portions_cases {a : Account} {c : Nat} {uv : Nat × Nat} (h : s.portions a c = some uv) :
    ((c : Int) ≤ s.accountAvailable a ∧ uv = (c, 0))
    ∨ (s.accountAvailable a < c ∧ a.poolDraw = true ∧ 0 ≤ s.accountAvailable a
        ∧ (c : Int) - s.accountAvailable a ≤ (s.groupAt a.group).available
        ∧ uv = ((s.accountAvailable a).toNat, c - (s.accountAvailable a).toNat)) := by
  unfold State.portions at h
  simp only at h
  split at h
  · next hc => exact .inl ⟨hc, (Option.some.inj h).symm⟩
  · split at h
    · next hc h' => exact .inr ⟨not_le.1 hc, h'.1, h'.2.1, h'.2.2, (Option.some.inj h).symm⟩
    · cases h

/-! ### The Stock Unit -/

/-- All a reorder check does (R69). -/
theorem reorder_cases (t : Nat) (s : State) :
    (s.stock.types.get? t = none ∧ reorder t s = (s, .none))
    ∨ ∃ ty, s.stock.types.get? t = some ty
      ∧ (((ty.holdOff = true ∨ s.wantedCount t + ty.reserve ≤ ty.shelf + s.onOrder t)
            ∧ reorder t s = (setTypePending false t s, .none))
        ∨ (ty.holdOff = false ∧ ty.shelf + s.onOrder t < s.wantedCount t + ty.reserve
            ∧ ((∃ n r, s.openReq t = some (n, r)
                  ∧ reorder t s = growReq t (orderQuantity ty.pack (s.wantedCount t + ty.reserve - (ty.shelf + s.onOrder t))) n r s)
              ∨ (s.openReq t = none ∧ s.stock.reqs.length < Config.requisitionEntries
                  ∧ reorder t s = issueReq t (orderQuantity ty.pack (s.wantedCount t + ty.reserve - (ty.shelf + s.onOrder t))) s)
              ∨ (s.openReq t = none ∧ Config.requisitionEntries ≤ s.stock.reqs.length
                  ∧ reorder t s = (setTypePending true t (setCauseIf (!ty.pending) .reqTableFull s), .tableFull))))) := by
  unfold reorder
  cases hty : s.stock.types.get? t with
  | none => exact .inl ⟨rfl, rfl⟩
  | some ty =>
    refine .inr ⟨ty, rfl, ?_⟩
    simp only
    by_cases hc : (ty.holdOff || decide (s.wantedCount t + ty.reserve ≤ ty.shelf + s.onOrder t)) = true
    · refine .inl ⟨by simpa using hc, ?_⟩
      rw [if_pos hc]
    · rw [if_neg hc]
      simp only [Bool.or_eq_true, decide_eq_true_eq, not_or, Bool.not_eq_true, not_le] at hc
      refine .inr ⟨hc.1, hc.2, ?_⟩
      cases ho : s.openReq t with
      | some e => exact .inl ⟨e.1, e.2, rfl, rfl⟩
      | none =>
        by_cases hl : s.stock.reqs.length < Config.requisitionEntries
        · exact .inr (.inl ⟨rfl, hl, by simp only [hl, if_true]⟩)
        · exact .inr (.inr ⟨rfl, not_lt.1 hl, by simp only [hl, if_false]⟩)

theorem reorderChecks_induct (ts : List Nat) (h : ∀ t s, P s → P (reorderCheck t s)) (hs : P s) :
    P (reorderChecks ts s) := by
  unfold reorderChecks
  generalize (List.range 64).filter (fun t => t ∈ ts) = l
  induction l generalizing s with
  | nil => exact hs
  | cons t l ih => exact ih (h t s hs)

theorem servePendingFrom_induct (ts : List Nat) (h : ∀ t s, P s → P (reorderCheck t s)) (hs : P s) :
    P (servePendingFrom ts s) := by
  induction ts generalizing s with
  | nil => exact hs
  | cons t ts ih =>
    unfold servePendingFrom
    split
    · have hr := h t s hs
      unfold reorderCheck at hr
      split
      · next heq => simpa [heq] using hr
      · next heq => exact ih (by simpa [heq] using hr)
    · exact ih hs

theorem servePending_induct (h : ∀ t s, P s → P (reorderCheck t s)) (hs : P s) : P (servePending s) :=
  servePendingFrom_induct _ h hs

/-- All a swap does to the stock (R71). -/
theorem takeSwap_cases (t : Nat) (s : State) :
    (s.stocked t = true ∧ takeSwap t s = (reorderCheck t (updType t (fun r => { r with shelf := r.shelf - 1 }) s), true))
    ∨ (s.stocked t = false ∧ takeSwap t s = (reorderCheck t (setCause .stockMismatch s), false)) := by
  unfold takeSwap
  cases s.stocked t <;> simp

/-! ### The Callout Unit -/

/-- All a reconciliation of one printer does (R30 to R35). -/
theorem reconcile_cases (acc : State × Nat) (q : Nat) :
    (acc.1.printers.get? q = none ∧ reconcile acc q = acc)
    ∨ ∃ p, acc.1.printers.get? q = some p
      ∧ ((∃ n t, acc.1.ticketOf q = some (n, t) ∧ reconcile acc q = reconcileTicket n t p acc.1 acc.2)
        ∨ (acc.1.ticketOf q = none
          ∧ ((currentCauses acc.1 p = []
                ∧ reconcile acc q = (updPrinter q (fun p => { p with deferred := false }) acc.1, acc.2))
            ∨ (currentCauses acc.1 p ≠ []
              ∧ ((p.deferred = true ∧ reconcile acc q = acc)
                ∨ (p.deferred = false ∧ acc.1.callout.tickets.length + acc.2 < Config.ticketEntries
                    ∧ reconcile acc q = (issueTicket q acc.1, acc.2))
                ∨ (p.deferred = false ∧ Config.ticketEntries ≤ acc.1.callout.tickets.length + acc.2
                    ∧ reconcile acc q = (deferCallout q acc.1, acc.2))))))) := by
  unfold reconcile
  cases hp : acc.1.printers.get? q with
  | none => exact .inl ⟨rfl, rfl⟩
  | some p =>
    refine .inr ⟨p, rfl, ?_⟩
    cases ht : acc.1.ticketOf q with
    | some e => exact .inl ⟨e.1, e.2, rfl, rfl⟩
    | none =>
      refine .inr ⟨rfl, ?_⟩
      by_cases hc : currentCauses acc.1 p = []
      · exact .inl ⟨hc, by simp only [hc, List.isEmpty_nil, if_true]⟩
      · refine .inr ⟨hc, ?_⟩
        have hc' : (currentCauses acc.1 p).isEmpty = false := by simpa using hc
        simp only [hc', Bool.false_eq_true, if_false]
        cases hd : p.deferred
        · by_cases hl : acc.1.callout.tickets.length + acc.2 < Config.ticketEntries
          · exact .inr (.inl ⟨rfl, hl, by simp only [hl, Bool.false_eq_true, if_false, if_true]⟩)
          · exact .inr (.inr ⟨rfl, not_lt.1 hl, by simp only [hl, Bool.false_eq_true, if_false]⟩)
        · exact .inl ⟨rfl, rfl⟩

/-- All a reconciliation does to a ticket (R32, R33). -/
theorem reconcileTicket_cases (n : Nat) (t : Ticket) (p : Printer) (s : State) (freed : Nat) :
    (t.reconciled (fun k => !(s.kindOf k).autoclose) s.now (currentCauses s p) = .retired
        ∧ reconcileTicket n t p s freed = (retireTicket n s, freed + 1))
    ∨ ∃ t' b, t.reconciled (fun k => !(s.kindOf k).autoclose) s.now (currentCauses s p) = .kept t' b
        ∧ reconcileTicket n t p s freed = (setCauseIf b .calloutRaised (updTicket n (fun _ => t') s), freed) := by
  unfold reconcileTicket
  cases h : t.reconciled (fun k => !(s.kindOf k).autoclose) s.now (currentCauses s p) with
  | retired => exact .inl ⟨rfl, rfl⟩
  | kept t' b => exact .inr ⟨t', b, rfl, rfl⟩

/-- All a hand-over does (R36). -/
theorem handOver_cases (s : State) :
    (bestCandidate (handOverCandidates s) = none ∧ handOver s = s)
    ∨ ∃ q, bestCandidate (handOverCandidates s) = some q ∧ handOver s = issueTicket q s := by
  unfold handOver
  cases h : bestCandidate (handOverCandidates s) with
  | none => exact .inl ⟨rfl, rfl⟩
  | some q => exact .inr ⟨q, rfl, rfl⟩

theorem handOvers_induct (n : Nat) (h : ∀ s, P s → P (handOver s)) (hs : P s) : P (handOvers n s) := by
  induction n generalizing s with
  | zero => exact hs
  | succ n ih => exact ih (h s hs)

/-- A property of a state and the entries freed so far that every reconciliation keeps, and that every hand-over of one freed
entry keeps, holds after a reconciliation of several printers (R30, R36). -/
theorem reconcileAll_induct {Q : State → Nat → Prop} (ps : List Nat)
    (hr : ∀ acc : State × Nat, ∀ q, Q acc.1 acc.2 → Q (reconcile acc q).1 (reconcile acc q).2)
    (hh : ∀ s n, Q s (n + 1) → Q (handOver s) n) (hs : Q s 0) : Q (reconcileAll ps s) 0 := by
  have h₁ : Q (ps.foldl reconcile (s, 0)).1 (ps.foldl reconcile (s, 0)).2 := by
    have : ∀ acc : State × Nat, Q acc.1 acc.2 → Q (ps.foldl reconcile acc).1 (ps.foldl reconcile acc).2 := by
      induction ps with
      | nil => exact fun _ h => h
      | cons q ps ih => exact fun acc h => ih _ (hr acc q h)
    exact this (s, 0) hs
  have h₂ : ∀ n s, Q s n → Q (handOvers n s) 0 := by
    intro n
    induction n with
    | zero => exact fun _ h => h
    | succ n ih => exact fun s h => ih _ (hh s n h)
  exact h₂ _ _ h₁

/-- What a condition event does, by parts: the class-0 judgments, then a reconciliation of several printers (R27, R30). -/
theorem calloutUpdate_induct (conds types : List Nat) (hj : ∀ s n, P s → P (judgePrinter s n))
    (hr : ∀ ps s, P s → P (reconcileAll ps s)) (hs : P s) : P (calloutUpdate conds types s) := by
  unfold calloutUpdate
  refine hr _ _ ?_
  induction conds generalizing s with
  | nil => exact hs
  | cons n conds ih => exact ih (hj s n hs)

/-! ### Jobs and releases -/

/-- All the return of a job does (R148, R149). -/
theorem returnUnreleased_cases (n : Nat) (s : State) :
    returnUnreleased n s = s
    ∨ ∃ j r, s.jobAt n = some j ∧ j.phase = .releasing r
        ∧ returnUnreleased n s = { returnToHeld j (settle j.owner r 0 (undispatch n s)) with
            release := { (undispatch n s).release with recalls := s.release.recalls + 1 } } := by
  unfold returnUnreleased
  cases hj : s.jobAt n with
  | none => exact .inl rfl
  | some j =>
    cases hp : j.phase with
    | releasing r => exact .inr ⟨j, r, rfl, hp, by simp [hp, undispatch]⟩
    | held => exact .inl (by simp [hp])
    | printing r u => exact .inl (by simp [hp])

theorem returnAll_induct (ns : List Nat) (hr : ∀ n s, P s → P (returnUnreleased n s))
    (hc : ∀ s, P s → P (setCause .jobRecalled s)) (hs : P s) : P (returnAll ns s) := by
  have h : ∀ (l : List Nat) (s : State), P s → P (l.foldl (fun s n => returnUnreleased n s) s) := by
    intro l
    induction l with
    | nil => exact fun _ h => h
    | cons n l ih => exact fun s h => ih _ (hr n s h)
  unfold returnAll setCauseIf
  split
  · exact hc _ (h _ _ hs)
  · exact h _ _ hs

/-- All a change of service state does (R5). -/
theorem setServiceState_cases (q : Nat) (st : ServiceState) (s : State) :
    (s.printers.get? q = none ∧ setServiceState q st s = s)
    ∨ ∃ p, s.printers.get? q = some p
      ∧ ((p.state ≠ st ∧ (st = .down ∨ st = .silent)
            ∧ setServiceState q st s = recallPrinter q (updPrinter q (fun p => { p with state := st }) s))
        ∨ (¬ (p.state ≠ st ∧ (st = .down ∨ st = .silent))
            ∧ setServiceState q st s = updPrinter q (fun p => { p with state := st }) s)) := by
  unfold setServiceState
  cases h : s.printers.get? q with
  | none => exact .inl ⟨rfl, rfl⟩
  | some p =>
    refine .inr ⟨p, rfl, ?_⟩
    by_cases hc : p.state ≠ st ∧ (st = .down ∨ st = .silent)
    · exact .inl ⟨hc.1, hc.2, by simp only [hc, if_true, ne_eq, not_false_eq_true, and_self]⟩
    · exact .inr ⟨hc, by simp only [hc, if_false]⟩

/-- A property every release of a job and a refused reservation keep holds after a release walk (R143). -/
theorem releaseWalk_induct (t owner : Nat) (p : Printer) (cands : List Job) (r : Nat)
    (hr : ∀ s j info, P s → s.offer t owner p j = some info → s.inflightCount t < s.params.printerInflight →
      P (releaseJob j.number owner info s))
    (hm : ∀ s, P s → P (markExhausted owner s)) (hs : P s) : P (releaseWalk t owner p cands r s).1 := by
  induction cands generalizing r s with
  | nil => exact hs
  | cons j js ih =>
    unfold releaseWalk
    split
    · exact hs
    · split
      · exact hs
      · next hi =>
        cases ho : s.offer t owner p j with
        | none => exact hm s hs
        | some info => exact ih _ (hr s j info hs ho (not_le.1 hi))

/-- All a release decision does (R139 to R144). -/
theorem releaseDecision_cases (owner q : Nat) (redirect : Bool) (only : Option Nat) (s : State) :
    (∃ m, releaseDecision owner q redirect only s = (s, m))
    ∨ ∃ t pr cands, s.releaseTarget q redirect = some t ∧ s.printers.get? t = some pr ∧ cands ≠ []
        ∧ cands = (s.jobsOf owner).filter (fun j => j.candidate t pr && only.all fun n => n == j.number)
        ∧ (releaseDecision owner q redirect only s).1 = (releaseWalk t owner pr cands 0 s).1 := by
  unfold releaseDecision
  split
  · exact .inl ⟨_, rfl⟩
  · cases ht : s.releaseTarget q redirect with
    | none => exact .inl ⟨_, rfl⟩
    | some t =>
      cases hp : s.printers.get? t with
      | none => simp only [hp]; exact .inl ⟨_, rfl⟩
      | some pr =>
        simp only [hp]
        unfold releaseAt
        split
        · exact .inl ⟨_, rfl⟩
        · next he => exact .inr ⟨t, pr, _, rfl, hp, by simpa [List.isEmpty_iff] using he, rfl, rfl⟩

/-! ### The second event -/

/-- All a due timer does when it is run and taken off: its own work, and after the last judgment of the second event the
reconciliation (R28, R30). -/
theorem passTimer_cases (s : State) (t : Timer) :
    passTimer s t = closeTimer t (runTimer t s)
    ∨ t.judges = true ∧ (∀ u ∈ (closeTimer t (runTimer t s)).second.due, u.judges = false)
      ∧ passTimer s t = reconcileSecond (closeTimer t (runTimer t s)) := by
  unfold passTimer
  dsimp only
  split
  · next h =>
    rw [Bool.and_eq_true, Bool.not_eq_true', List.any_eq_false] at h
    exact .inr ⟨h.1, fun u hu => by simpa using h.2 u hu, rfl⟩
  · exact .inl rfl

/-- A property that every timer, the record of the second event and the reconciliations keep is kept by a timer that is run and
taken off. -/
theorem passTimer_induct (t : Timer) (hr : ∀ t s, P s → P (runTimer t s)) (hc : ∀ s w, P s → P { s with second := w })
    (ha : ∀ ps s, P s → P (reconcileAll ps s)) (hs : P s) : P (passTimer s t) := by
  have h : P (closeTimer t (runTimer t s)) := hc _ _ (hr t s hs)
  obtain he | ⟨-, -, he⟩ := passTimer_cases s t <;> rw [he]
  · exact h
  · exact hc _ _ (ha _ _ h)

theorem foldl_passTimer_induct (l : List Timer) (hr : ∀ t s, P s → P (runTimer t s))
    (hc : ∀ s w, P s → P { s with second := w }) (ha : ∀ ps s, P s → P (reconcileAll ps s)) (hs : P s) :
    P (l.foldl passTimer s) := by
  induction l generalizing s with
  | nil => exact hs
  | cons t l ih => exact ih (passTimer_induct t hr hc ha hs)

theorem finishSecond_induct (hr : ∀ t s, P s → P (runTimer t s)) (hc : ∀ s w, P s → P { s with second := w })
    (ha : ∀ ps s, P s → P (reconcileAll ps s)) (hs : P s) : P (finishSecond s) :=
  hc _ _ (foldl_passTimer_induct _ hr hc ha hs)

/-- A property every timer keeps, whatever the second event in progress, holds after a timer row. -/
theorem timerRow_induct (t : Timer) (hr : ∀ t s, P s → P (runTimer t s)) (hc : ∀ s w, P s → P { s with second := w })
    (ha : ∀ ps s, P s → P (reconcileAll ps s)) (hs : P s) : P (timerRow t s) := by
  unfold timerRow
  split
  · exact hs
  · split
    · exact passTimer_induct t hr hc ha (foldl_passTimer_induct _ hr hc ha hs)
    · exact hs

/-- A property every timer keeps and the event itself keeps holds after an event. -/
theorem asEvent_induct {f : State → State} (hr : ∀ t s, P s → P (runTimer t s)) (hc : ∀ s w, P s → P { s with second := w })
    (ha : ∀ ps s, P s → P (reconcileAll ps s)) (hf : ∀ s, P s → P (f s)) (hs : P s) : P (asEvent f s) := by
  unfold asEvent
  split
  · exact hs
  · exact hf _ (finishSecond_induct hr hc ha hs)

/-- A property that no change of the port touches, that every timer keeps and that the block's work keeps when it answers OK,
holds after a request. -/
theorem takeRequest_induct {code : Byte} {body : Payload → State → Reply} {p : Payload}
    (hr : ∀ t s, P s → P (runTimer t s)) (hc : ∀ s w, P s → P { s with second := w })
    (ha : ∀ ps s, P s → P (reconcileAll ps s)) (hport : ∀ (s : State) (x : Port), P s → P { s with port := x })
    (hb : ∀ s t q, P s → body p s = .ok (t, q) → P t) (hs : P s) : P (takeRequest code body p s) := by
  refine asEvent_induct hr hc ha (fun s hs => ?_) hs
  unfold atPort
  split
  · exact hport _ _ hs
  · exact hs
  · refine hport _ _ ?_
    split
    · exact hs
    · unfold stateOf
      split
      · exact hs
      · next r hq => exact hb s r.1 r.2 hs hq

end Sys2Proof.Machine
end

