-- ==== Sys2Proof/Tests/Slice0.lean ====
section
/-!
SUPPORT. Tests/Slice0.lean: the smoke test of WellFormed, the manual's worked examples as single steps, and for every obligation
that has hypotheses a witness: a concrete state and operands that meet them, clause by clause.
-/

set_option Elab.async false
set_option maxRecDepth 20000

namespace Sys2Proof.Tests

open Sys2Proof Sys2Proof.Machine

/-! ### Helpers -/

/-- Bytes from numbers. -/
def bytes (l : List Nat) : Payload := l.map (BitVec.ofNat 8)

/-- The state an outcome leaves. -/
def after : Host.Outcome State Fault Refusal → State
  | .next t => t
  | .fault _ => State.reset
  | .refused _ => State.reset

/-- One command, with the response stored afterwards. -/
def request (c : Instr) (s : State) : State := after (exec .responseStored (after (exec c s)))

/-- A cartridge of a type at a level. -/
def cart (type level : Nat) : Cartridge := ⟨type, level, level, false, false, 0, false, 0, false, 999, false⟩

/-- A READY mono printer with one slot of type 0, on floor 1 in class 0. -/
def mono : Printer :=
  ⟨1, 0, ⟨false, true, false⟩, [cart 0 700], .ready, [], some 100, some 50, 20, 0, 99900, false, false, 0, 0, 0,
    KindTable.of fun _ => .clear⟩

/-- A READY colour printer with four slots of types 0 and 1, on floor 1 in class 2. -/
def colour : Printer :=
  { mono with costClass := 2, caps := ⟨true, true, true⟩, slots := [cart 0 640, cart 1 410, cart 1 380, cart 1 900] }

/-- A DOWN printer with a confirmed jam, deferred. -/
def jammed : Printer :=
  { mono with state := .down, reported := [.paperJam], deferred := true,
              filters := (KindTable.of fun _ => .clear).upd .paperJam .confirmed }

/-- A USER account with a token. -/
def user (token : Word) : Account := ⟨some token, 0, .user, false, true, true, 1000, 0, 100, 5000, false⟩

/-- A held job of account 1. -/
def held (n : Nat) (seq : Word) (t : Target) : Job :=
  ⟨n, seq, 1, 77, 2, 3, .colour, .colour, false, .a4, true, t, 90000, 500, .held⟩

/-- What job 12 carries: mono, simplex, cost 6, the whole of it from the account. -/
def info : ReleaseInfo := ⟨1, .mono, false, 6, 6, 0, 99950⟩

/-- What job 13 carries: colour on printer 2, cost 40, 10 of it from the pool. -/
def info₂ : ReleaseInfo := ⟨2, .colour, false, 40, 30, 10, 99900⟩

/-- A state with something in every table: printers 1, 2 and 3, tickets 5 and 7, types 0 and 1, requisitions 3 and 4, accounts 1
to 3, jobs 11 HELD, 12 RELEASING on printer 1 and 13 PRINTING on printer 2, a FULL line over stations 1 and 2. -/
def demo : State :=
  { State.reset with
    time := ⟨.running, 5, 100000, 86390, 10, some 10, none, false, 1, 10, 9⟩,
    printers := [(1, mono), (2, colour), (3, jammed)],
    callout := ⟨[(5, ⟨1, [(.paperJam, 2)], false, .raised, 0, 90000, 99000⟩), (7, ⟨2, [], true, .resolved, 1, 90000, 95000⟩)], 7⟩,
    stock := ⟨[(0, ⟨5, 2, 4, 10, 5, false, false⟩), (1, ⟨0, 0, 1, 10, 5, false, false⟩)],
              [(3, ⟨0, 8, 8, none, false⟩), (4, ⟨1, 4, 5, some 6, false⟩)], 4⟩,
    bank := { resetBank with
      accounts := [(1, { user 0xAABB with reserved := 36 }), (2, { user 0x1234 with role := .service }),
                   (3, { user 0x77 with suspended := true })],
      groups := resetBank.groups.modify 0 fun g => { g with pool := 500, reserved := 10, allowance := 100, cap := 1000 } },
    store := ⟨[held 11 0 (.specific 1), { held 12 1 .any with phase := .releasing info },
               { held 13 2 (.floor 1) with phase := .printing info₂ 99910 }], 13, 3, [11]⟩,
    line := { resetLine with
      enabled := true, regime := .full, calendar := [1, 2, 1], quietStamp := 99000,
      stations := (resetLine.stations.modify 1 fun st => { st with state := .alive, bound := some 1 }).modify 2
        fun st => { st with state := .unknown } },
    release := { resetRelease with dispatch := [12] } }

/-- `demo` in the middle of a second event with every timer due. -/
def demoSecond : State :=
  { demo with second := ⟨[.dayBoundary, .takeTimeout, .silence, .tick 1, .escalation, .abandonment, .holdExpiry, .quiet], [], []⟩ }

/-- `demo` in a second event whose one judgment still to make is the class-1 tick. -/
def demoLast : State := { demo with second := ⟨[.tick 1, .quiet], [], [2]⟩ }

/-- `demo` with every callout in line: printer 1 has the jam that its ticket lists, printer 3 is deferred with one. -/
def callouts : State := { demo with printers := [(1, { jammed with deferred := false }), (2, colour), (3, jammed)] }

/-- `demo` with a sweep at a walk position. -/
def sweeping (w : SweepWalk) : State := { demo with time := { demo.time with sweep := some w } }

/-- `demo` with an exchange in progress with station 1. -/
def polling : State := after (exec .calendarPoll demo)

/-- `polling` after some CLKIN periods of its poll. -/
def pollAt (k : Nat) : State :=
  { polling with line := { polling.line with exchange := polling.line.exchange.map fun ex => { ex with sending := some k } } }

/-- `demo` while a request is worked on. -/
def busy : State := after (exec (.statusRead []) demo)

theorem test_demo_receptive : demo.Receptive := by decide +kernel

theorem test_demo_tables : TablesOrdered demo ∧ BudgetsInRange demo ∧ BadgesUnique demo := by decide +kernel

theorem test_demo_clean : CauseWordClean demo := by decide +kernel
theorem test_demo_printers : PrintersInRange demo := by decide +kernel
theorem test_demo_tickets : TicketsSound demo := by decide +kernel
theorem test_demo_stock : StockSound demo := by decide +kernel
theorem test_demo_orders : JobOrdersSound demo := by decide +kernel
theorem test_demo_owners : OwnersSound demo := by decide +kernel
theorem test_demo_balance : ReservationsBalance demo := by decide +kernel
theorem test_demo_flights : FlightsSound demo := by decide +kernel
theorem test_demo_line : LineSound demo := by decide +kernel
theorem test_demo_bindings : BindingsSound demo := by decide +kernel
theorem test_demo_sweep : SweepSound demo := by decide +kernel
theorem test_demo_order : SequencesNear demo ∧ SubmissionOrderKept demo := by decide +kernel
theorem test_callouts_complete : TablesOrdered callouts ∧ TicketsSound callouts ∧ CalloutsComplete callouts := by decide +kernel

theorem test_demo_params : ParamsInRange demo := by
  intro i
  cases i <;> first | decide | (rename_i k; cases k <;> decide)

/-! ### WellFormed refuses an ill-formed term of each check -/

theorem test_wellFormed_refuses_known_code : (Instr.unknownRequest 0x02 []).wellFormed = false := by decide
theorem test_wellFormed_refuses_code_zero : (Instr.unknownRequest 0 []).wellFormed = false := by decide
theorem test_wellFormed_refuses_long_unknown : (Instr.unknownRequest 0x7F (List.replicate 61 0)).wellFormed = false := by decide
theorem test_wellFormed_refuses_good_malformed : (Instr.malformedRequestFrame [2, 0]).wellFormed = false := by decide
theorem test_wellFormed_refuses_read_as_malformed : (Instr.malformedRequestFrame [0, 1]).wellFormed = false := by decide
theorem test_wellFormed_refuses_empty_early : (Instr.earlyRequest []).wellFormed = false := by decide
theorem test_wellFormed_refuses_class_zero : (Instr.classTick 0).wellFormed = false := by decide
theorem test_wellFormed_refuses_class_eight : (Instr.classTick 8).wellFormed = false := by decide
theorem test_wellFormed_refuses_empty_reply : (Instr.stationReply []).wellFormed = false := by decide
theorem test_wellFormed_refuses_empty_late_reply : (Instr.lateReply []).wellFormed = false := by decide
theorem test_wellFormed_refuses_long_payload : (Instr.printerAdd (List.replicate 61 0)).wellFormed = false := by decide
theorem test_wellFormed_admits : (Instr.unknownRequest 0x7F []).wellFormed = true ∧ (Instr.malformedRequestFrame [2]).wellFormed = true
    ∧ (Instr.earlyRequest [2]).wellFormed = true ∧ (Instr.classTick 7).wellFormed = true
    ∧ (Instr.printerAdd (List.replicate 60 0)).wellFormed = true := by decide

/-! ### Frames -/

/-- R169: code, length, payload. -/
theorem test_frame_of_request : decodeFrame [0x18, 2, 41, 0] = some (.ticketAck [41, 0]) := by decide
theorem test_frame_read_transaction : decodeFrame [0x00, 0, 0] = none := by decide
theorem test_frame_unknown : decodeFrame [0x7F, 0] = some (.unknownRequest 0x7F []) := by decide
theorem test_frame_malformed : decodeFrame [0x18, 2, 41] = some (.malformedRequestFrame [0x18, 2, 41]) := by decide

/-- R118: the CRC of the nine characters 1 to 9. -/
theorem test_crc_check_value : crc16 (bytes [0x31, 0x32, 0x33, 0x34, 0x35, 0x36, 0x37, 0x38, 0x39]) = 0x29B1#16 := by decide +kernel

/-! ### The manual's worked examples -/

/-- Section 5.4, the four cases of cost. -/
theorem test_cost_duplex_exact : sidesCost 12 12 true 21 = 189 := by decide
theorem test_cost_duplex_rounded_up : sidesCost 12 7 true 5 = 27 := by decide
theorem test_cost_simplex : sidesCost 12 7 false 5 = 35 := by decide
theorem test_cost_limited : sidesCost 12 1000 false 9989001 = 2000000 := by decide

/-- Section 3.3: the sweep of the black cartridge at L0 620, L 585, E 230, Q 1,300 and 1,400 sides gives E 235, Q 1,325, F 18. -/
theorem test_sweep_black_cartridge :
    let c : Cartridge := ⟨0, 585, 620, false, false, 230, true, 1300, true, 0, false⟩
    demo.sweepCartridge 1400 c = ⟨0, 585, 585, false, false, 235, true, 1325, true, 18, false⟩ := by decide +kernel

/-- Section 3.4, step 4: E 573, Q 418, F 15, and the cartridge becomes WANTED. Step 7: void, so E stays and Q becomes 409. -/
theorem test_sweep_colour_cartridge :
    demo.sweepCartridge 410 ⟨0, 365, 400, false, false, 480, true, 420, true, 18, false⟩
      = ⟨0, 365, 365, false, false, 573, true, 418, true, 15, true⟩
    ∧ demo.sweepCartridge 380 ⟨0, 990, 990, false, true, 573, true, 418, true, 41, false⟩
      = ⟨0, 990, 990, false, false, 573, true, 409, true, 42, false⟩ := by decide +kernel

/-- Section 1.4, steps 5 and 7: a counter below its baseline, and one clamped. -/
theorem test_counter_delta : counterDelta 20000 (some 182700) 40 = ⟨0, true, false⟩
    ∧ counterDelta 20000 (some 40) 25100 = ⟨20000, false, true⟩ ∧ counterDelta 20000 (some 182400) 182652 = ⟨252, false, false⟩ := by
  decide

/-- Section 5.5, step 3 of the split: an available 740 and a cost of 4,000 take 3,260 from the pool. -/
theorem test_portions_split :
    let g : BudgetGroup := ⟨20000, 0, 10000, 30000, 500, 7, 3⟩
    let s := { demo with bank := { demo.bank with groups := demo.bank.groups.modify 4 fun _ => g } }
    let a : Account := ⟨none, 4, .user, false, true, true, 1200, 960, 1000, 5000, false⟩
    s.portions a 4000 = some (740, 3260) ∧ s.portions a 720 = some (720, 0) ∧ s.portions { a with poolDraw := false } 4000 = none := by
  decide +kernel

/-- Section 5.6: a weekly group of phase 3 is refilled by the span that ends with day 416 and not by the one that ends with 417. -/
theorem test_weekly_refill :
    let g : BudgetGroup := ⟨0, 0, 0, 0, 0, 7, 3⟩
    g.refilledBy 412 1 = false ∧ g.refilledBy 416 4 = true ∧ g.refilledBy 417 1 = false ∧ g.refilledBy 423 6 = true
      ∧ g.refilledBy 438 15 = true := by decide +kernel

/-- Section 9.6, step 1: the boundary of 06:00 makes day 413 and starts a sweep of one day that closes with 412. -/
theorem test_day_boundary :
    let s := { State.reset with params := { defaultParams with dayStart := 21600 },
                                time := ⟨.running, 5, 100, 1296021599, 412, some 412, none, false, 7, 1, 1⟩ }
    (after (exec .dayBoundary (after (exec .secondEvent s)))).time
      = ⟨.running, 0, 101, 1296021600, 413, some 413, some (.printers 0), false, 1, 413, 412⟩ := by decide +kernel

/-- Section 9.6, steps 2 and 4: ahead while SWEEPING is queued, and a day set back is declared swept. -/
theorem test_time_set_queues :
    let s := { State.reset with time := ⟨.running, 5, 0, 0, 413, some 413, some (.printers 140), false, 1, 413, 412⟩ }
    (after (exec (.timeSet (bytes [1, 1, 0, 0, 0, 0, 0x9F, 1])) s)).time
      = ⟨.running, 0, 0, 0, 415, some 413, some (.printers 140), true, 1, 413, 412⟩ := by decide +kernel
theorem test_time_set_back :
    let s := { State.reset with time := ⟨.running, 5, 0, 0, 415, some 415, some (.groups 3), false, 2, 415, 414⟩ }
    (after (exec (.timeSet (bytes [1, 1, 0, 0, 0, 0, 0x9A, 1])) s)).time
      = ⟨.running, 0, 0, 0, 410, some 410, some (.groups 3), false, 2, 415, 414⟩ := by decide +kernel

/-- Section 10.2, the example of an early request. -/
theorem test_early_request :
    let s := after (exec (.earlyRequest [0x41, 2, 0xD9, 0x17]) (after (exec (.ticketAck (bytes [5, 0])) demo)))
    s.ready = false ∧ s.hasCause .portOverrun = true
      ∧ (after (exec .responseStored s)).readTransaction = some [0x00, 0x18, 2, 1, 2] := by decide +kernel

/-- Section 2.7, the hand-over of a freed entry: of two deferred printers of equal severity the lower number is served. -/
theorem test_hand_over_order : bestCandidate [(9, 2), (150, 4), (200, 4)] = some 150 := by decide

/-- Section 7.10, steps 2 and 5: a PRESENT is judged with its token, a wrong CRC is a bad frame. -/
theorem test_present_judged : judgeReply 9 (lineFrame 9 2 (bytes [0, 0, 0xAA, 0xBB])) = .present 0xAABB := by decide +kernel
theorem test_bad_crc_judged : judgeReply 12 (bytes [0xC3, 12, 1, 0, 0, 0]) = .badFrame := by decide +kernel

/-- Section 11.8: PARAM_SET 0x0116 with value 2 sets FAULT_CLASS of FUSER_FAULT to class 2. -/
theorem test_param_fault_class :
    ((after (exec (.paramSet (bytes [0x16, 1, 2, 0, 0, 0])) demo)).params.kinds.at .fuserFault).cls = 2 := by decide +kernel

/-- Section 6.10, steps 1 and 2: numbers and sequences follow one another, and a colour job without permission is forced to mono. -/
theorem test_job_submit_forced_mono :
    let s := { demo with bank := { demo.bank with accounts := [(7, { user 1 with colour := false })] }, store := ⟨[], 6105, 88432, []⟩ }
    let t := after (exec (.jobSubmit (bytes [7, 0, 1, 0, 0, 0, 2, 0, 1, 0, 1, 0, 0, 1, 12])) s)
    (t.store.records.map fun j => (j.number, j.seq, j.colour, j.forcedMono, j.target)) = [(6106, 88432, .mono, true, .floor 12)]
      ∧ t.store.expiry = [6106] := by decide +kernel

/-- Section 4.4 of the scope and R31: a number wraps from 65535 to 1 and passes over live numbers. -/
theorem test_issue_number_wraps : issueNumber [1, 2, 65535] 65534 = 3 := by decide

/-- R28: the moves of a filter. -/
theorem test_filter_moves : FilterState.tick true .clear = .onset ∧ FilterState.tick true .onset = .confirmed
    ∧ FilterState.tick false .confirmed = .easing ∧ FilterState.tick true .easing = .confirmed := by decide

/-- Section 4.7, step 1: need 3 and have 2 with packs of 4 orders 4. -/
theorem test_order_quantity : orderQuantity 4 1 = 4 ∧ orderQuantity 4 4 = 4 ∧ orderQuantity 4 5 = 8 := by decide

/-! ### Single steps of the manual's worked sequences -/

/-- Section 1.4, steps 2 to 5: printer 37 READY with baselines 182,700 and 51,301 takes the report of step 5. -/
theorem test_report_down :
    let p : Printer := { colour with slots := [cart 0 633, cart 0 408, cart 0 379, cart 0 989], monoBase := some 182700,
                                     colourBase := some 51301, pMono := 300, pColour := 41 }
    let s := { State.reset with printers := [(37, p)], time := { resetTime with runSeconds := 1530 } }
    let t := after (exec (.statusReport (bytes [37, 2, 4, 1, 1, 0xFF, 0xFF, 0x98, 1, 0x7B, 1, 0xDC, 3, 40, 0, 0, 0, 0x82, 0xC8, 0, 0])) s)
    ((t.printers.get? 37).map fun q => (q.state, q.pMono, q.pColour, q.rebase, q.reported)) = some (.down, 300, 70, true, [.paperJam])
      ∧ ((t.printers.get? 37).map fun q => (q.lastReport, q.monoBase, q.colourBase)) = some (1530, some 40, some 51330)
      ∧ ((t.slotAt 37 0).map fun c => (c.level, c.stale)) = some (633, true) ∧ t.hasCause .counterRebase = true := by decide +kernel

/-- Section 2.11, step 3: the tick of 4,230 confirms the jam and issues ticket 41. -/
theorem test_tick_issues_ticket :
    let p := { jammed with deferred := false, lastReport := 4200, filters := (KindTable.of fun _ => .clear).upd .paperJam .onset }
    let s := { State.reset with printers := [(112, p)], callout := ⟨[], 40⟩, time := { resetTime with mode := .running, runSeconds := 4229 } }
    let t := finishSecond (after (exec .secondEvent s))
    t.callout = ⟨[(41, ⟨112, [(.paperJam, 2)], false, .raised, 0, 4230, 4230⟩)], 41⟩ ∧ t.hasCause .calloutRaised = true := by
  decide +kernel

/-- Section 4.7, steps 8 and 9: the cancel holds type 6 off, and the sweep then issues requisition 121. -/
theorem test_cancel_then_sweep :
    let s := { State.reset with
      printers := [(1, { colour with slots := [cart 6 30, cart 6 30, cart 6 30, cart 6 30].map fun c => { c with wanted := true } })],
      stock := ⟨[(6, ⟨4, 2, 4, 10, 5, false, false⟩)], [(120, ⟨6, 4, 415, none, false⟩)], 120⟩,
      time := { resetTime with day := 420, sweep := some (.types 6), lastSwept := some 420 } }
    let t := request (.reqCancel (bytes [120, 0])) s
    t.stock = ⟨[(6, ⟨4, 2, 4, 10, 5, true, false⟩)], [], 120⟩
      ∧ (after (exec .sweepTypeStep t)).stock = ⟨[(6, ⟨4, 2, 4, 10, 5, false, false⟩)], [(121, ⟨6, 4, 420, none, false⟩)], 121⟩ := by
  decide +kernel

/-- Section 5.5, step 5: the settlement at 2,560 of portions 740 and 3,260. -/
theorem test_settlement_split :
    let a : Account := ⟨none, 4, .user, false, true, true, 960, 1460, 1000, 5000, false⟩
    let s := { State.reset with bank := { resetBank with
      accounts := [(1207, a)], groups := resetBank.groups.modify 4 fun _ => ⟨20000, 3260, 10000, 30000, 500, 7, 3⟩ } }
    let t := settle 1207 ⟨1, .colour, false, 4000, 740, 3260, 0⟩ 2560 s
    ((t.bank.accounts.get? 1207).map fun a => (a.balance, a.reserved)) = some (220, 720)
      ∧ ((t.bank.groups.get? 4).map fun g => (g.pool, g.reserved)) = some (18180, 0) := by decide +kernel

/-- Section 5.5, step 9: the sweep refills account 1207 to 420 and clears the exhausted flag. -/
theorem test_account_refill :
    let a : Account := ⟨none, 4, .user, false, true, true, -580, 0, 1000, 5000, true⟩
    let s := { State.reset with
      bank := { resetBank with accounts := [(1207, a)], groups := resetBank.groups.modify 4 fun g => { g with overdraft := 500 } },
      time := { resetTime with sweep := some (.accounts 0), span := 1, closing := 3, lastSwept := some 4 } }
    let t := after (exec .sweepAccountStep s)
    ((t.bank.accounts.get? 1207).map fun a => (a.balance, a.exhausted)) = some (420, false) ∧ t.time.sweep = some (.types 0) := by
  decide +kernel

/-- Section 6.10, steps 6 and 9: job 6107 returns to its place after 6106, and 6105 alone expires at 17,200. -/
def sixTen (run : Word) (timer : Timer) : State :=
  { State.reset with
    bank := { resetBank with accounts := [(1, user 1)] },
    params := { defaultParams with holdTime := 2 },
    store := ⟨[{ held 6105 1 .any with submitRun := 10000 }, { held 6106 2 .any with submitRun := 10200 },
               { held 6107 3 .any with submitRun := 10500, phase := .releasing { info with releasedAt := 11000 } }], 6107, 4, [6105, 6106]⟩,
    release := { resetRelease with dispatch := [6107] }, time := { resetTime with mode := .running, runSeconds := run },
    second := ⟨[timer], [], []⟩ }
theorem test_take_timeout_returns :
    let t := after (exec .takeTimeout (sixTen 11060 .takeTimeout))
    t.store.expiry = [6105, 6106, 6107] ∧ t.release.dispatch = [] ∧ t.release.recalls = 1 ∧ t.hasCause .jobRecalled = true := by
  decide +kernel
theorem test_hold_expiry :
    let t := after (exec .holdExpiry (sixTen 17200 .holdExpiry))
    t.store.expiry = [6106] ∧ t.store.records.map Job.number = [6106, 6107] ∧ t.hasCause .jobExpired = true := by decide +kernel

/-- Section 7.10, steps 2 and 7: the presentation posts an answer to station 9; the repeat a second later is guarded and the
message delivered. -/
def sevenTen (st : Station) (run : Word) : State :=
  { State.reset with
    time := { resetTime with runSeconds := run },
    printers := [(37, colour)], bank := { resetBank with accounts := [(1207, user 0x77)] },
    store := ⟨[{ held 1 0 .any with owner := 1207, pages := 1, copies := 1 }, { held 2 1 .any with owner := 1207, pages := 1, copies := 1 }], 2, 2, [1, 2]⟩,
    line := { resetLine with enabled := true, regime := .full, calendar := [5, 9, 5, 12], walk := 1,
                             stations := resetLine.stations.modify 9 fun _ => st } }
theorem test_presentation_releases :
    let s := sevenTen ⟨.alive, some 37, .all, false, 0, 0, 0, false, 400, 398, 2, none, none⟩ 20000
    let t := after (exec (.stationReply (lineFrame 9 2 (bytes [0, 0, 0, 0x77]))) (after (exec .calendarPoll s)))
    t.line.stations.get? 9 = some ⟨.alive, some 37, .all, false, 0, 1, 0, false, 401, 399, 2, some ⟨.released, 2, 0, 37, 0⟩, some (0x77, 20000)⟩
      ∧ t.line.answer = some 9 ∧ t.line.walk = 2 ∧ t.release.dispatch = [1, 2] := by decide +kernel
theorem test_guarded_repeat_delivers :
    let s := sevenTen ⟨.alive, some 37, .all, false, 1, 2, 0, false, 402, 399, 2, some ⟨.released, 2, 0, 37, 0⟩, some (0x77, 20000)⟩ 20001
    let t := after (exec (.stationReply (lineFrame 9 2 (bytes [0, 0, 0, 0x77]))) (after (exec .calendarPoll s)))
    t.line.stations.get? 9 = some ⟨.alive, some 37, .all, false, 0, 3, 0, false, 403, 400, 2, none, some (0x77, 20001)⟩
      ∧ t.line.answer = none ∧ t.line.walk = 2 := by decide +kernel

/-- Section 8.9, step 8: a FAILED job of 45 sides at mono A4 1 is charged 45 of its 60 and returns to its place. -/
theorem test_job_done_requeue :
    let r : ReleaseInfo := ⟨44, .mono, false, 60, 60, 0, 30070⟩
    let s := { State.reset with
      printers := [(44, mono)], bank := { resetBank with accounts := [(1, { user 1 with balance := 540, reserved := 68 })] },
      store := ⟨[{ held 6202 1 .any with pages := 30, copies := 2, duplex := false, phase := .printing r 30080 }, held 6204 3 .any], 6204, 4, [6204]⟩ }
    let t := after (exec (.jobDone (bytes [0x3A, 0x18, 45, 0, 0, 0, 1, 1])) s)
    t.store.expiry = [6202, 6204] ∧ ((t.bank.accounts.get? 1).map fun a => (a.balance, a.reserved)) = some (495, 8)
      ∧ t.release.histogram.toList = [0, 0, 1, 0, 0, 0]
      ∧ ((t.printers.get? 44).map fun p => (p.jobsCompleted, p.sidesCompleted)) = some (1, 45) := by decide +kernel

/-- R28, R30: in one second event the jam of class 1 leaves CONFIRMED and the empty tray of class 2 enters it. The printer is
reconciled once, after the second tick: its ticket is kept, with its level, and lists the new cause. -/
theorem test_one_reconciliation :
    let p := { jammed with deferred := false, reported := [.paperOut],
                           filters := ((KindTable.of fun _ => .clear).upd .paperJam .confirmed).upd .paperOut .onset }
    let s := { demo with printers := [(1, p)], second := ⟨[.tick 1, .tick 2, .quiet], [], []⟩,
                         callout := ⟨[(5, ⟨1, [(.paperJam, 2)], false, .raised, 2, 90000, 99000⟩)], 5⟩ }
    let t := after (exec (.classTick 1) s)
    t.callout = s.callout ∧ t.second.unreconciled = [1]
      ∧ (after (exec (.classTick 2) t)).callout = ⟨[(5, ⟨1, [(.paperOut, 1)], false, .raised, 2, 90000, 99000⟩)], 5⟩
      ∧ (after (exec (.classTick 2) t)).second.unreconciled = [] := by decide +kernel

/-- R18: a class-2 tick asked for before the silence examination of its second judges NO_CONTACT present, as after it. -/
theorem test_silence_before_the_ticks :
    let s := { demo with printers := [(3, { jammed with lastReport := 90000 })], second := ⟨[.silence, .tick 2, .quiet], [], []⟩ }
    ((after (exec (.classTick 2) s)).printers.get? 3).map (fun p => (p.state, p.filters.at .noContact)) = some (.silent, .onset)
      ∧ (after (exec (.classTick 2) s)).second.due = [.quiet] := by decide +kernel

/-- R117: DE is asserted while the poll is transmitted, and released from its end on, while the reply window is open. -/
theorem test_de_follows_the_poll :
    let sent := { polling with line := { polling.line with exchange := polling.line.exchange.map fun ex => { ex with sending := none } } }
    demo.de = false ∧ polling.de = true ∧ sent.de = false ∧ sent.line.exchange.isSome = true
      ∧ (after (exec .miss sent)).de = false := by decide +kernel

/-- R169, R171: what MISO carries in a request transaction, in a whole read, in one cut short and in one clocked beyond the end. -/
theorem test_miso :
    let s := request (.ticketAck (bytes [5, 0])) demo
    s.miso (bytes [0x18, 2, 5, 0]) = some (bytes [0, 0, 0, 0]) ∧ s.miso (bytes [0, 0, 0, 0, 0, 0]) = some (bytes [0, 0, 0x18, 2, 1, 2])
      ∧ s.miso (bytes [0, 0, 0]) = some (bytes [0, 0, 0x18]) ∧ s.miso (bytes [0, 0, 0, 0, 0, 0, 0, 0]) = some (bytes [0, 0, 0x18, 2, 1, 2, 0, 0])
      ∧ busy.miso (bytes [0, 0, 0, 0, 0]) = some (bytes [0, 6, 2, 0, 0]) := by decide +kernel

/-- R179: until READY rises after a PORT_RESET a request frame is ignored without cause and a read is not answered. -/
theorem test_port_reset_interval :
    let s := after (exec (.portReset []) demo)
    s.ready = false ∧ s.printers = [] ∧ s.miso (bytes [0, 0]) = none ∧ (after (exec (.statusRead []) s)).port = s.port
      ∧ (after (exec .responseStored s)).ready = true ∧ (after (exec .responseStored s)).readTransaction = some (bytes [0, 0, 0]) := by
  decide +kernel

/-- The start byte 0xC3 on the line, 8 data bits with the least significant first (R117). -/
theorem test_character_bits :
    charBits 0xC3 = [false, true, true, false, false, false, false, true, true, true] := by decide +kernel
/-- TXD of a poll: its first bit, the second bit of 0xC3 from the 217th period on, and idle after the stop bit of the sixth character. -/
theorem test_txd_of_a_poll :
    (pollAt 216).txd = false ∧ (pollAt 217).txd = true ∧ (pollAt (3 * 217)).txd = false ∧ demo.txd = true
    ∧ (after (step (pollAt 13018))).de = true ∧ (after (step (pollAt 13019))).de = false
    ∧ (after (step (pollAt 13019))).txd = true := by decide +kernel

/-! ### Witnesses: the queue, the port and reset -/

/-- The state held in reset by RST, by the supply, and by both. -/
def heldBy (rst supply : Bool) : State := { demo with pins := ⟨rst, supply⟩ }

theorem witness_StepRunsTheFrontCommand : ({ demo with pending := [.miss, .answerPoll] } : State).pending = .miss :: [.answerPoll] := rfl

theorem witness_CommandActsAfterTheSecondEvent :
    demoSecond.inReset = false ∧ (Instr.ticketAck (bytes [5, 0])).wellFormed = true ∧ (Instr.ticketAck (bytes [5, 0])).timer? = none
    ∧ (Instr.ticketAck (bytes [5, 0])).isPinEvent = false
    -- no timer due; one at the head that no other precedes, a class tick before the escalation among them
    ∧ demo.second.due = [] ∧ demoSecond.second.due = .dayBoundary :: demoSecond.second.due.tail
    ∧ Instr.timer? .dayBoundary = some .dayBoundary ∧ (∀ x ∈ demoSecond.second.due.tail, x.before .dayBoundary = false)
    ∧ Instr.timer? (.classTick 1) = some (.tick 1) ∧ (∀ x ∈ [Timer.escalation, .quiet], x.before (.tick 1) = false) := by
  decide +kernel

theorem witness_ResetSourcesHoldAndRestore :
    demo.pins = ⟨false, false⟩ ∧ (heldBy true false).pins = ⟨true, false⟩ ∧ (heldBy false true).pins = ⟨false, true⟩
    ∧ (heldBy true true).pins = ⟨true, true⟩ ∧ (heldBy true true).inReset = true ∧ Instr.isPinEvent .miss = false
    ∧ demo.Receptive ∧ bytes [0] ≠ [] ∧ (Instr.statusRead []).isFrame = true := by decide +kernel

theorem witness_StatusAndMaskFollowTheCauses :
    demo.Receptive ∧ CauseWordClean demo ∧ (bytes [0, 0, 2, 0x80]).length = 4 ∧ demo.inReset = false := by decide +kernel

theorem witness_ParamSetAndReadKeepTheValue :
    demo.Receptive ∧ (bytes [0x12, 0, 20, 0, 0, 0]).length = 6
    -- no such number, at the edge of a kind block
    ∧ ParamId.ofNumber? (u16 (bytes [0x0C, 1, 0, 0, 0, 0]) 0) = none
    -- EMPTY_LEVEL at both ends of its range and beyond
    ∧ ParamId.ofNumber? (u16 (bytes [0x12, 0, 20, 0, 0, 0]) 0) = some .emptyLevel
    ∧ ParamId.emptyLevel.admits (u32 (bytes [0x12, 0, 0, 0, 0, 0]) 2) = true
    ∧ ParamId.emptyLevel.admits (u32 (bytes [0x12, 0, 0xFF, 0xFF, 0, 0]) 2) = false
    ∧ ParamId.emptyLevel ≠ .floorLevel ∧ (∀ k ∈ FaultKind.all, ParamId.emptyLevel ≠ .faultSeverity k)
    -- FAULT_SEVERITY of a jam at both ends of its range and beyond, with the jam CONFIRMED on printer 3
    ∧ ParamId.ofNumber? (u16 (bytes [1, 1, 0, 0, 0, 0]) 0) = some (.faultSeverity .paperJam)
    ∧ (ParamId.faultSeverity .paperJam).admits (u32 (bytes [1, 1, 4, 0, 0, 0]) 2) = true
    ∧ (ParamId.faultSeverity .paperJam).admits (u32 (bytes [1, 1, 5, 0, 0, 0]) 2) = false
    ∧ (demo.printers.filter fun e => e.2.filters.at .paperJam == .confirmed).map Prod.fst = [3]
    ∧ TablesOrdered demo ∧ TicketsSound demo
    -- PARAM_READ
    ∧ (bytes [0x12, 0]).length = 2 ∧ ParamId.ofNumber? (u16 (bytes [0x30, 1]) 0) = none := by decide +kernel

theorem witness_CountersAreReadAndCleared : demo.Receptive := test_demo_receptive

theorem witness_FrameWhileBusySetsPortOverrun :
    busy.Settled ∧ (∃ r, busy.port.phase = .working r) ∧ (Instr.statusRead []).isFrame = true
    ∧ (Instr.statusRead []).wellFormed = true := ⟨by decide +kernel, ⟨_, rfl⟩, rfl, by decide⟩

theorem witness_RefusalsChangeNoStateAndFitTheFrame :
    demo.Receptive ∧ (Instr.unknownRequest 0x7F []).wellFormed = true ∧ (Instr.malformedRequestFrame [2, 61]).wellFormed = true
    ∧ (Instr.statusRead [1]).request? = some (0x02, [1]) ∧ (Instr.statusRead [1]).fixedLength = some 0 ∧ [(1 : Byte)].length ≠ 0
    ∧ Instr.statusRead [] ≠ .portReset [] ∧ (∀ e ∈ demo.printers, e.2.slots.length ≤ 4)
    ∧ (∀ e ∈ demo.callout.tickets, e.2.causes.length ≤ 12) ∧ (∃ r, busy.port.phase = .working r) :=
  ⟨by decide +kernel, by decide, by decide, rfl, rfl, by decide, by decide, by decide +kernel, by decide +kernel, ⟨_, rfl⟩⟩

theorem witness_FrameReadingInvertsFrameWriting :
    decodeFrame (bytes [0x18, 2, 41, 0]) = some (.ticketAck (bytes [41, 0]))
    ∧ (Instr.ticketAck (bytes [41, 0])).wellFormed = true ∧ encodeFrame (.ticketAck (bytes [41, 0])) = some (bytes [0x18, 2, 41, 0]) := by
  decide +kernel

/-! ### Witnesses: the Time Base, the second event and its timers -/

theorem witness_TimeSetFollowsTheDayTable :
    let asked := fun (s : State) (p : Payload) => s.time.lastSwept.any fun l =>
      BitVec.ofNat 16 (u16 p 6) != s.time.day && 1 ≤ (BitVec.ofNat 16 (u16 p 6) - l).toNat && (BitVec.ofNat 16 (u16 p 6) - l).toNat ≤ 32767
    demo.Receptive ∧ 1 < byteAt (bytes [2, 0, 0, 0, 0, 0, 0, 0]) 0
    -- a HELD part without a last swept day
    ∧ ({ demo with time := { demo.time with lastSwept := none } } : State).Receptive
    -- the same day; a day set back; one ahead by 1, by 32767, and by 32768, which is not ahead
    ∧ asked demo (bytes [1, 1, 0, 0, 0, 0, 10, 0]) = false ∧ asked demo (bytes [1, 1, 0, 0, 0, 0, 9, 0]) = false
    ∧ asked demo (bytes [1, 1, 0, 0, 0, 0, 11, 0]) = true ∧ asked demo (bytes [1, 1, 0, 0, 0, 0, 0x09, 0x80]) = true
    ∧ asked demo (bytes [1, 1, 0, 0, 0, 0, 0x0A, 0x80]) = false
    -- ahead while SWEEPING
    ∧ (sweeping (.types 3)).Receptive ∧ (sweeping (.types 3)).time.sweep.isSome = true
    ∧ asked (sweeping (.types 3)) (bytes [0, 1, 0, 0, 0, 0, 11, 0]) = true := by decide +kernel

/-- `demo` one second before a day boundary, and HELD. -/
def nearBoundary : State := { demo with time := { demo.time with building := 86399, runSeconds := 119 } }
def stopped : State := { demo with time := { demo.time with mode := .held } }

theorem witness_SecondEventAdvancesTheClocks :
    nearBoundary.Settled ∧ nearBoundary.time.mode = .running ∧ stopped.Settled ∧ stopped.time.mode = .held ∧ demo.pending = []
    ∧ demo.time.divider + 1 < demo.params.tickDivisor
    ∧ ({ demo with time := { demo.time with divider := 24999999 } } : State).params.tickDivisor ≤ 24999999 + 1
    ∧ (after (exec .secondEvent nearBoundary)).second.due.length = 11
    -- a poll being transmitted, and one that has been
    ∧ polling.Settled ∧ polling.pending = [] ∧ (∃ ex ∈ polling.line.exchange, ex.sending = some 0) ∧ demo.de = false
    -- its last period at 115,200 baud, of 60 bit times
    ∧ (∃ ex ∈ (pollAt 13019).line.exchange, ex.frame.length * (10 * 217) ≤ 13019 + 1) ∧ (pollAt 13019).Settled := by
  decide +kernel

theorem witness_DayBoundaryRequestsASweep :
    demoSecond.TimerDue .dayBoundary ∧ demoSecond.time.lastSwept = some 10 ∧ demoSecond.time.sweep = none
    ∧ ({ demoSecond with time := (sweeping (.types 3)).time } : State).TimerDue .dayBoundary
    ∧ ({ demoSecond with time := { demo.time with lastSwept := none } } : State).TimerDue .dayBoundary := by decide +kernel

theorem witness_ClassTickMovesTheFiltersOfItsClass :
    demoSecond.TimerDue (.tick 1) ∧ (demoSecond.params.kinds.at .paperJam).cls = 1
    ∧ (demoSecond.params.kinds.at .doorOpen).cls ≠ 1 ∧ (demoSecond.printers.get? 3).isSome = true
    -- a judgment still to come, and the last one, with printer 2 owed
    -- with the silence examination still due, with another tick due, and as the last judgment
    ∧ .silence ∈ demoSecond.second.due
    ∧ (let s := { demo with second := ⟨[.tick 1, .tick 2, .quiet], [], []⟩ }
       s.TimerDue (.tick 1) ∧ .silence ∉ s.second.due ∧ ∃ u ∈ s.second.due.erase (.tick 1), u.judges = true)
    ∧ .silence ∉ demoLast.second.due
    ∧ demoLast.TimerDue (.tick 1) ∧ (∀ u ∈ demoLast.second.due.erase (.tick 1), u.judges = false) ∧ 2 ∈ demoLast.second.unreconciled
    ∧ TablesOrdered demoLast ∧ TicketsSound demoLast := by decide +kernel

theorem witness_SilenceExpirySilencesTheUnreported :
    let s := { demoSecond with time := { demo.time with runSeconds := 100200 } }
    s.TimerDue .silence ∧ Table.Sorted s.printers ∧ JobOrdersSound s
    -- the stamp 99900 is 300 seconds back: due at the limit
    ∧ mono.state ≠ .silent ∧ s.params.silenceLimit ≤ (s.time.runSeconds - mono.lastReport).toNat
    ∧ ¬ s.params.silenceLimit ≤ (s.time.runSeconds - 1 - mono.lastReport).toNat
    -- its RELEASING job, and a tick still to come
    ∧ s.releasingThere 1 = [12] ∧ (∃ u ∈ s.second.due.erase .silence, u.judges = true) := by decide +kernel
theorem witness_SilenceExpiry_last :
    let l := { demoLast with second := ⟨[.silence, .quiet], [], []⟩, time := { demo.time with runSeconds := 100200 } }
    l.TimerDue .silence ∧ (∀ u ∈ l.second.due.erase .silence, u.judges = false) ∧ TablesOrdered l ∧ TicketsSound l ∧ JobOrdersSound l :=
  ⟨by decide +kernel, by decide +kernel, test_demo_tables.1, test_demo_tickets, test_demo_orders⟩

theorem witness_EscalationAndQuietTimerAct :
    let s := { demoSecond with second := ⟨[.escalation, .quiet], [], []⟩, time := { demo.time with runSeconds := 102600 } }
    s.TimerDue .escalation ∧ (∀ u ∈ s.second.due, u.before .escalation = false) ∧ s.TimerDue .quiet
    -- ticket 5 of severity 2, its point 3,600 seconds back: due at the interval
    ∧ (∃ k ∈ s.callout.tickets.get? 5, k.state = .raised ∧ k.level < 3 ∧ severityOf k.causes = 2
        ∧ 60 * s.params.escInterval2 ≤ (s.time.runSeconds - k.point).toNat)
    ∧ s.line.regime = .full ∧ s.params.quietAfter ≠ 0
    ∧ s.params.quietAfter * 60 ≤ (s.time.runSeconds - s.line.quietStamp).toNat := by decide +kernel

theorem witness_TakeTimeoutReturnsJobsUncharged :
    let s := { demoSecond with time := { demo.time with runSeconds := 100010 } }
    s.TimerDue .takeTimeout ∧ JobOrdersSound s ∧ BudgetsInRange s
    -- job 12 was released 60 seconds ago
    ∧ s.params.takeLimit ≤ (s.time.runSeconds - info.releasedAt).toNat ∧ s.release.dispatch = [12]
    ∧ s.second.due.erase .takeTimeout ≠ [] := by decide +kernel
theorem witness_TakeTimeout_order :
    let s := { demoSecond with time := { demo.time with runSeconds := 100010 } }
    s.TimerDue .takeTimeout ∧ SubmissionOrderKept s ∧ SequencesNear s ∧ JobOrdersSound s :=
  ⟨by decide +kernel, test_demo_order.2, test_demo_order.1, test_demo_orders⟩

theorem witness_HoldExpiryAndAbandonmentRetireJobs :
    let s := { demoSecond with time := { demo.time with runSeconds := 176400 } }
    s.TimerDue .holdExpiry ∧ s.TimerDue .abandonment ∧ JobOrdersSound s
    -- job 11 was submitted 24 hours ago, and job 13 has been PRINTING for more than 30 minutes, alone
    ∧ s.params.holdTime * 3600 ≤ (s.time.runSeconds - 90000).toNat ∧ s.store.expiry = [11]
    ∧ (∃ j ∈ s.jobAt 13, j.phase = .printing info₂ 99910) ∧ s.params.abandonLimit * 60 ≤ (s.time.runSeconds - 99910).toNat
    -- due at 30 minutes and not a second before
    ∧ s.params.abandonLimit * 60 = (101710 - 99910 : Word).toNat ∧ ¬ s.params.abandonLimit * 60 ≤ (101709 - 99910 : Word).toNat
    ∧ s.params.abandonCharge = 1 := by decide +kernel

/-! ### Witnesses: the sweep -/

theorem witness_SweepStepSweepsTheNextPrinter :
    (sweeping (.printers 0)).Settled ∧ (sweeping (.printers 0)).time.sweep = some (.printers 0)
    ∧ ((sweeping (.printers 2)).printers.find? fun e => 2 ≤ e.1).map Prod.fst = some 2
    ∧ (∀ e ∈ (sweeping (.printers 4)).printers, e.1 < 4) := by decide +kernel

theorem witness_SweepLearnsCoverageAndRate :
    -- a sample of exactly MIN_SAMPLE sides; one side less; a void and a stale cartridge
    (mono.slots[0]?.any fun c => !c.void && !c.stale && c.level ≤ c.dayStart) = true ∧ demo.params.minSample = 50
    ∧ ¬ demo.params.minSample ≤ 49 ∧ ({ cart 0 500 with void := true }).void = true ∧ ({ cart 0 500 with stale := true }).stale = true
    ∧ demo.params.smoothE ≤ 16 ∧ demo.params.smoothQ ≤ 16 ∧ (cart 0 500).coverage ≤ 65535 := by decide +kernel

theorem witness_SweepRefillsOnAPeriodDay :
    (sweeping (.groups 0)).Settled ∧ TablesOrdered (sweeping (.groups 63)) ∧ (sweeping (.groups 63)).time.sweep = some (.groups 63)
    -- period 1: every day is a period day; a group of period 7 and phase 3 has none in the span of day 9
    ∧ (∃ i ∈ List.range (sweeping (.groups 0)).time.span,
        ((sweeping (.groups 0)).time.closing - BitVec.ofNat 16 i).toNat % ((sweeping (.groups 0)).groupAt 0).period
          = ((sweeping (.groups 0)).groupAt 0).phase)
    ∧ ¬ (∃ i ∈ List.range demo.time.span, (demo.time.closing - BitVec.ofNat 16 i).toNat % 7 = 3)
    ∧ (sweeping (.accounts 0)).time.sweep = some (.accounts 0)
    ∧ ((sweeping (.accounts 0)).bank.accounts.above 0).map Prod.fst = some 1
    ∧ ((sweeping (.accounts 2)).bank.accounts.above 2).map Prod.fst = some 3 := by decide +kernel

/-- A state whose requisition 4 is overdue at the sweep that opens day 20: day 6 is 14 days back, lead and grace are 13. -/
def late : State := { demo with time := { demo.time with sweep := some (.types 1), opening := 20, closing := 19, day := 20 } }

theorem witness_SweepTypeStepEndsHoldOffAndFindsOverdue :
    late.Settled ∧ TablesOrdered late ∧ StockSound late ∧ late.time.sweep = some (.types 1)
    ∧ late.stock.reqs.get? 4 = some ⟨1, 4, 5, some 6, false⟩ ∧ (late.time.opening - 6).toNat = 14
    ∧ (late.stock.types.get? 1).map (fun ty => ty.lead + late.params.overdueGrace) = some 13 := by decide +kernel

theorem witness_SweepTypeStep_last :
    let s := sweeping (.types 63)
    let q := { s with time := { s.time with queued := true } }
    s.Settled ∧ TablesOrdered s ∧ s.time.sweep = some (.types 63) ∧ s.time.queued = false ∧ q.Settled ∧ q.time.queued = true
    ∧ q.time.lastSwept.isSome = true := by
  decide +kernel
theorem witness_SweepTypeStep_last_stock : StockSound (sweeping (.types 63)) := by decide +kernel

/-! ### Witnesses: printers -/

/-- The first bad field of a PRINTER_ADD. -/
def badAdd (p : Payload) : Option Nat :=
  firstBadField [(1, 63 < byteAt p 1), (2, 7 < byteAt p 2), (4, byteAt p 4 ≠ 1 ∧ byteAt p 4 ≠ 4), (3, bitAt p 3 0 = true ∧ byteAt p 4 = 1)]

theorem witness_PrinterAddFillsAnAwaitingRecord :
    let ok := bytes [0, 63, 7, 7, 4, 0, 63, 1, 2]
    demo.Receptive ∧ ok.length ≤ 60 ∧ ok.length = 5 + byteAt ok 4 ∧ badAdd ok = none
    ∧ (∀ t ∈ (ok.drop 5).map BitVec.toNat, t ≤ 63) ∧ demo.printers.get? 0 = none
    ∧ (demo.printers.get? (byteAt (bytes [2, 0, 0, 6, 1, 0]) 0)).isSome = true
    -- a slot count that the length does not match, and one that fits no frame
    ∧ (bytes [0, 63, 7, 7, 4, 0, 63, 1]).length ≠ 5 + 4
    ∧ (let p := bytes ([0, 0, 0, 0, 56] ++ List.replicate 56 0); p.length = 5 + byteAt p 4 ∧ ¬ p.length ≤ 60)
    -- each field out of its range by one; a mono printer with the colour flag; a type out of range
    ∧ badAdd (bytes [0, 64, 7, 6, 1, 0]) = some 1 ∧ badAdd (bytes [0, 63, 8, 6, 1, 0]) = some 2
    ∧ badAdd (bytes [0, 63, 7, 6, 2, 0, 0]) = some 4 ∧ badAdd (bytes [0, 63, 7, 1, 1, 0]) = some 3
    ∧ badAdd (bytes [0, 63, 7, 6, 4, 0, 63, 64, 65]) = none ∧ 63 < ([0, 63, 64, 65] : List Nat).getD 2 0 := by decide +kernel

/-- `demo` with printer 1 out of black since EMPTY_LEVEL was raised: its next derivation makes it DOWN, with job 12 RELEASING; and
with a type-0 cartridge empty and confirmed on printer 2. -/
def dry : State := { demo with printers := [(1, { mono with slots := [cart 0 10] }),
  (2, { colour with slots := [cart 0 5, cart 1 410, cart 1 380, cart 1 900],
                    filters := (KindTable.of fun _ => .clear).upd .tonerEmptyK .confirmed }), (3, jammed)] }

theorem test_dry_tickets : TicketsSound dry := by decide +kernel
theorem test_dry_orders : JobOrdersSound dry := by decide +kernel
theorem witness_dry : dry.Receptive ∧ TablesOrdered dry ∧ dry.releasingThere 1 = [12]
    ∧ (∃ p ∈ dry.printers.get? 1, p.state = .ready ∧ p.derived dry.params.emptyLevel = .down)
    ∧ (∃ p ∈ dry.printers.get? 2, p.tonerConfirmed = true ∧ ∃ c ∈ p.slots, c.type = 0) := by decide +kernel

/-- The first bad field of a PRINTER_SET of a printer with a number of slots. -/
def badSet (slots : Nat) (p : Payload) : Option Nat :=
  firstBadField [(1, 63 < byteAt p 1), (2, 7 < byteAt p 2), (3, bitAt p 3 0 = true ∧ slots = 1)]

theorem witness_PrinterSetChangesTheRecord :
    let p := bytes [2, 63, 7, 7, 1, 1, 1, 1, 63]
    demo.Receptive ∧ demo.printers.get? (byteAt p 0) = some colour ∧ p.length = 5 + colour.slots.length ∧ badSet 4 p = none
    ∧ (∀ c ∈ p.drop 5, c.toNat ≤ 63) ∧ p.length ≤ 60 ∧ flagAt p 4 = true
    ∧ colour.state ≠ .awaiting ∧ colour.state ≠ .silent
    -- a payload too short, an absent printer, a slot count that does not fit, and each field out of range by one
    ∧ (bytes [2, 63, 7, 7]).length < 5 ∧ demo.printers.get? 0 = none ∧ (bytes [2, 63, 7, 7, 1, 1]).length ≠ 5 + colour.slots.length
    ∧ badSet 4 (bytes [2, 64, 7, 7, 1, 1, 1, 1, 63]) = some 1 ∧ badSet 4 (bytes [2, 63, 8, 7, 1, 1, 1, 1, 63]) = some 2
    ∧ badSet 1 (bytes [1, 0, 0, 7, 0, 0]) = some 3 ∧ 63 < byteAt (bytes [2, 63, 7, 7, 1, 1, 1, 1, 64]) 8 := by decide +kernel

theorem witness_PrinterRetireFreesTheNumber :
    demo.Receptive ∧ demo.printers.get? 0 = none ∧ (demo.printers.get? 1).isSome = true ∧ (demo.printers.get? 3).isSome = true
    -- printer 1 has job 12 in flight, printer 3 has none
    ∧ (∃ j ∈ demo.store.records, ∃ r ∈ j.phase.info?, r.printer = 1)
    ∧ (∀ j ∈ demo.store.records, ∀ r ∈ j.phase.info?, r.printer ≠ 3) := by decide +kernel

/-- `callouts` without jobs: printer 1 may go, and its ticket entry falls to printer 3, deferred with a jam. -/
def leaving : State := { callouts with store := ⟨[], 13, 3, []⟩, release := resetRelease }

theorem witness_PrinterRetire_hands_over :
    leaving.Receptive ∧ TablesOrdered leaving ∧ TicketsSound leaving ∧ (leaving.ticketOf 1).isSome = true
    ∧ leaving.ticketOf 3 = none ∧ (leaving.printers.del 1).get? 3 = some jammed ∧ jammed.deferred = true
    ∧ severityOf (currentCauses leaving jammed) = 2 ∧ colour.deferred = false := by decide +kernel

/-- R11, R36: the entry of the retired printer's ticket goes to the deferred printer, under the next number. -/
theorem test_retire_hands_over :
    let t := after (exec (.printerRetire (bytes [1])) leaving)
    t.callout.tickets.get? 8 = some ⟨3, [(.paperJam, 2)], false, .raised, 0, 100000, 100000⟩ ∧ t.ticketOf 1 = none
      ∧ (t.printers.get? 3).map (fun p => p.deferred) = some false := by decide +kernel

/-- A report of printer 2: a duplicate kind, a swap, a fall, an unknown and a rise, a mono counter below its baseline. -/
def report : Payload :=
  bytes [2, 2, 4, 1, 1, 0xE8, 0x03, 0x90, 0x01, 0xFF, 0xFF, 0x85, 0x03, 40, 0, 0, 0, 51, 0, 0, 0]

theorem witness_StatusReportUpdatesTheRecord :
    let bad := fun p : Payload => firstBadField [(1, 16 < byteAt p 1), (2, 4 < byteAt p 2)]
    demo.Receptive ∧ demo.printers.get? (byteAt report 0) = some colour ∧ report.length ≤ 60 ∧ bad report = none
    ∧ report.length = 11 + byteAt report 1 + 2 * byteAt report 2 ∧ byteAt report 2 = colour.slots.length
    ∧ (∀ k ∈ listAt report 3 (byteAt report 1), k ≤ 8) ∧ (word report 13).toNat < 100
    -- a jam takes printer 1 down, with job 12 RELEASING there
    ∧ demo.releasingThere 1 = [12] ∧ JobOrdersSound demo ∧ FaultKind.blocking .paperJam = true
    -- slot 0 is a swap from a shelf of 5; a printer with a CONFIRMED toner kind and that type stands in `dry`
    ∧ 640 + demo.params.swapJump ≤ min 1000 (u16 report (3 + 2 + 2 * 0)) ∧ (∃ ty ∈ demo.stock.types.get? 0, 4 ≤ ty.shelf)
    -- and from a shelf of 1, less than the printer has slots
    ∧ (∃ ty ∈ (updType 0 (fun ty => { ty with shelf := 1 }) demo).stock.types.get? 0, 1 ≤ ty.shelf ∧ ty.shelf < colour.slots.length)
    -- the refusals in their order, at the bounds
    ∧ (bytes [2, 0]).length < 3 ∧ 60 < (List.replicate 61 (0 : Byte)).length ∧ bad (bytes [2, 17, 4]) = some 1 ∧ bad (bytes [2, 16, 5]) = some 2
    ∧ bad (bytes [2, 16, 4]) = none ∧ demo.printers.get? 0 = none
    ∧ (let p := bytes [2, 0, 1, 0, 0, 0, 0, 0, 0, 0, 0, 0, 0]; p.length = 11 + byteAt p 1 + 2 * byteAt p 2 ∧ byteAt p 2 ≠ colour.slots.length)
    ∧ listAt (bytes [1, 2, 1, 8, 9]) 3 2 = [8, 9] := by decide +kernel

theorem witness_ReportLevelsActSlotBySlot :
    (List.range 4).map (fun i => u16 report (3 + 2 + 2 * i)) = [1000, 400, 65535, 901]
    -- slot 0 rises by SWAP_JUMP or more, slot 1 falls, slot 2 is unknown, slot 3 rises by one
    ∧ 640 + demo.params.swapJump ≤ 1000 ∧ ¬ 900 + demo.params.swapJump ≤ 901 := by decide +kernel

/-- R48, R71: a report with two swaps of type 1, which has one on its shelf, takes that one and sets STOCK_MISMATCH. -/
theorem test_two_swaps_one_on_the_shelf :
    let s := { demo with stock := { demo.stock with types := demo.stock.types.modify 1 fun ty => { ty with shelf := 1 } } }
    let t := after (exec (.statusReport (bytes [2, 0, 4, 0xFF, 0xFF, 0xE8, 3, 0xE8, 3, 0xFF, 0xFF, 50, 0, 0, 0, 60, 0, 0, 0])) s)
    ((t.stock.types.get? 1).map fun ty => ty.shelf) = some 0 ∧ t.hasCause .stockMismatch = true := by decide +kernel

/-! ### Witnesses: tickets -/

/-- `demo` with ticket 5 ACKED at severity 2. -/
def acked : State := after (exec .responseStored (after (exec (.ticketAck (bytes [5, 0])) demo)))

theorem witness_TicketAckAndCloseFollowTheState :
    demo.Receptive ∧ (bytes [5, 0]).length = 2 ∧ demo.callout.tickets.get? 6 = none
    ∧ (∃ k ∈ demo.callout.tickets.get? 5, k.state = .raised) ∧ (∃ k ∈ demo.callout.tickets.get? 7, k.state = .resolved)
    ∧ acked.Receptive ∧ (∃ k ∈ acked.callout.tickets.get? 5, k.state = .acked 2)
    -- printer 3 is deferred with a cause of severity 2
    ∧ (∃ p ∈ demo.printers.get? 3, p.deferred = true ∧ severityOf (currentCauses demo p) = 2) := by decide +kernel
theorem witness_TicketClose_without_deferred :
    let s := { demo with printers := [(1, mono), (2, colour)] }
    s.Receptive ∧ (∀ q ∈ Table.keys s.printers, ∀ p ∈ s.printers.get? q, p.deferred = false) ∧ TicketsSound s := by decide +kernel

/-- `demo` with the jam of printer 3 not yet reconciled. -/
def unreconciled : State := { demo with printers := [(1, jammed), (2, colour), (3, { jammed with deferred := false })] }

/-- A full ticket table, none of it printer 3's. -/
def fullTable : State := { unreconciled with
  printers := (unreconciled.printers ++ (List.range' 4 64).map fun n => (n, mono)),
  callout := ⟨(List.range' 4 64).map fun n => (n, ⟨n, [], true, .resolved, 0, 0, 0⟩), 70⟩ }

theorem witness_ReconciliationKeepsTheTicketInLine :
    TablesOrdered unreconciled ∧ TicketsSound { unreconciled with printers := [(1, mono), (2, colour), (3, mono)] }
    -- no ticket and no causes; no ticket with causes, deferred and not; a full table
    ∧ demo.ticketOf 3 = none ∧ currentCauses demo mono = [] ∧ currentCauses demo jammed ≠ [] ∧ jammed.deferred = true
    ∧ unreconciled.ticketOf 3 = none ∧ unreconciled.callout.tickets.length < 64
    ∧ fullTable.callout.tickets.length = 64 ∧ fullTable.ticketOf 3 = none
    -- a ticket that loses its causes without and with the mark
    ∧ (∃ e ∈ demo.ticketOf 1, e.2.nonAuto = false) ∧ (∃ e ∈ demo.ticketOf 2, e.2.nonAuto = true ∧ e.2.state = .resolved)
    -- an acknowledged ticket at its severity
    ∧ (∃ e ∈ acked.ticketOf 1, ∃ a ∈ e.2.acknowledged, severityOf (currentCauses acked jammed) ≤ a) := by decide +kernel
theorem witness_Conditions :
    colour.slots.length ≤ 4
    -- an empty black cartridge of a stocked type, an empty coloured one of a type that is not, and severity 0
    ∧ currentCauses dry { colour with slots := [cart 0 20], filters := (KindTable.of fun _ => .clear).upd .tonerEmptyK .confirmed }
        = [(.tonerEmptyK, 2)]
    ∧ currentCauses dry { colour with slots := [cart 0 21, cart 1 20], filters := (KindTable.of fun _ => .clear).upd .tonerEmptyColour .confirmed }
        = [(.tonerEmptyColour, 3)]
    ∧ currentCauses dry { mono with filters := (KindTable.of fun _ => .clear).upd .trayEmpty .confirmed } = [] := by decide +kernel
/-- Two printers are reconciled, the first of which frees an entry that the deferred printer 3 is handed. -/
theorem witness_ReconciliationsComeBeforeHandOvers :
    TablesOrdered demo ∧ TicketsSound demo ∧ ([1, 2].foldl reconcile (demo, 0)).2 = 1 ∧ demo.ticketOf 3 = none
    ∧ (reconcileAll [1, 2] demo).ticketOf 3 ≠ none := by decide +kernel
theorem witness_Reconciliation_full : TablesOrdered fullTable := by decide +kernel
theorem witness_Reconciliation_full_tickets : TicketsSound fullTable := by decide +kernel
theorem witness_Reconciliation_tickets : TicketsSound { unreconciled with printers := [(1, { jammed with deferred := false }), (2, colour), (3, { jammed with deferred := false })] } := by decide +kernel

/-! ### Witnesses: cartridges and stock -/

theorem witness_SwapAndSeedChangeOneCartridge :
    demo.Receptive ∧ (bytes [2, 3]).length = 2 ∧ demo.printers.get? 2 = some colour ∧ colour.slots[4]? = none
    ∧ (∃ c ∈ colour.slots[3]?, ∀ ty ∈ demo.stock.types.get? c.type, ty.shelf = 0) ∧ (colour.slots[0]?).isSome = true
    ∧ (bytes [2, 0, 0xE0, 1, 0xA4, 1]).length = 6
    -- a VACANT number
    ∧ demo.printers.get? (byteAt (bytes [0, 0]) 0) = none ∧ demo.printers.get? (byteAt (bytes [0, 0, 0, 0, 0, 0]) 0) = none
    -- a shelf that holds one, in `dry`, where printer 2 is concerned; JobOrdersSound, the tables and the tickets as witnessed there
    ∧ (∃ ty ∈ dry.stock.types.get? 0, 1 ≤ ty.shelf) ∧ colour.state ≠ .awaiting := by decide +kernel

/-- The first bad field of a TYPE_SET. -/
def badType (p : Payload) : Option Nat :=
  let v := i16 p 7
  let defines := flagAt p 1
  firstBadField [(0, 63 < byteAt p 0), (2, defines ∧ 15 < byteAt p 2), (3, defines ∧ ¬ (1 ≤ byteAt p 3 ∧ byteAt p 3 ≤ 16)),
    (4, defines ∧ ¬ (1 ≤ byteAt p 4 ∧ byteAt p 4 ≤ 60)), (5, defines ∧ 30 < byteAt p 5), (6, defines ∧ 2 < byteAt p 6),
    (7, defines ∧ ((byteAt p 6 = 1 ∧ (v < 0 ∨ 255 < v)) ∨ (byteAt p 6 = 2 ∧ (v < -255 ∨ 255 < v))))]

theorem witness_TypeSetDefinesOrUndefinesAType :
    demo.Receptive ∧ TablesOrdered demo ∧ TicketsSound dry ∧ (bytes [1, 0, 0, 0, 0, 0, 0, 0, 0]).length = 9
    -- undefined: a type with a requisition, one without and not defined, and the fields that are not checked
    ∧ (∃ e ∈ demo.stock.reqs, e.2.type = 1) ∧ (∀ e ∈ demo.stock.reqs, e.2.type ≠ 63) ∧ demo.stock.types.get? 63 = none
    ∧ badType (bytes [63, 0, 16, 0, 0, 31, 3, 0, 0]) = none
    -- the fields at their bounds, with the shelf given by each of the three modes
    ∧ (let p := bytes [63, 1, 15, 16, 60, 30, 1, 255, 0]; badType p = none ∧ flagAt p 1 = true ∧ byteAt p 6 = 1 ∧ i16 p 7 = 255)
    ∧ (let p := bytes [0, 1, 0, 1, 1, 0, 2, 0x01, 0xFF]; badType p = none ∧ byteAt p 6 = 2 ∧ i16 p 7 = -255)
    ∧ (let p := bytes [0, 1, 0, 1, 1, 0, 0, 0, 0]; badType p = none ∧ byteAt p 6 = 0)
    -- and beyond them
    ∧ badType (bytes [64, 0, 0, 0, 0, 0, 0, 0, 0]) = some 0 ∧ badType (bytes [0, 1, 16, 0, 1, 0, 0, 0, 0]) = some 2
    ∧ badType (bytes [0, 1, 0, 17, 1, 0, 0, 0, 0]) = some 3 ∧ badType (bytes [0, 1, 0, 1, 61, 0, 0, 0, 0]) = some 4
    ∧ badType (bytes [0, 1, 0, 1, 1, 31, 0, 0, 0]) = some 5 ∧ badType (bytes [0, 1, 0, 1, 1, 0, 3, 0, 0]) = some 6
    ∧ badType (bytes [0, 1, 0, 1, 1, 0, 1, 0, 1]) = some 7 ∧ badType (bytes [0, 1, 0, 1, 1, 0, 2, 0, 0xFF]) = some 7 := by decide +kernel

/-- `demo` with nothing on the shelf of type 0: need 2, have the 8 on order; and with no requisition of it. -/
def noneOnOrder : State := { demo with stock := ⟨[(0, ⟨0, 2, 4, 10, 5, false, false⟩)], [], 4⟩ }
def someOnOrder : State := { demo with stock := ⟨[(0, ⟨0, 2, 4, 10, 5, false, false⟩)], [(3, ⟨0, 1, 8, none, false⟩)], 4⟩ }
def fullOfReqs : State := { noneOnOrder with stock := ⟨[(0, ⟨0, 15, 4, 10, 5, false, false⟩), (1, ⟨0, 0, 1, 10, 5, false, false⟩)],
  (List.range' 1 32).map fun n => (n, ⟨1, 1, 8, some 9, false⟩), 4⟩ }

theorem witness_ReorderCheckOrdersTheShortfall :
    (∃ ty ∈ demo.stock.types.get? 0, demo.wantedCount 0 + ty.reserve ≤ ty.shelf + demo.onOrder 0)
    ∧ demo.stock.types.get? 9 = none ∧ TablesOrdered noneOnOrder ∧ noneOnOrder.openReq 0 = none ∧ noneOnOrder.wantedCount 0 = 0 ∧ noneOnOrder.onOrder 0 = 0
    ∧ TablesOrdered someOnOrder ∧ (someOnOrder.openReq 0).isSome = true ∧ someOnOrder.onOrder 0 = 1
    ∧ fullOfReqs.openReq 0 = none ∧ fullOfReqs.stock.reqs.length = 32 := by decide +kernel
theorem witness_ReorderCheck_stock : StockSound noneOnOrder ∧ StockSound someOnOrder := by decide +kernel
theorem witness_ReorderCheck_full : TablesOrdered fullOfReqs ∧ StockSound fullOfReqs := by decide +kernel

/-- Pending service (R70): type 0 pending with the table full, where it stays pending, and with an entry free, where it does not. -/
theorem witness_ReorderCheck_pending :
    let marked := fun s : State => { s with stock := { s.stock with types := s.stock.types.modify 0 fun ty => { ty with pending := true } } }
    let pending := fun s : State => (s.stock.types.get? 0).any fun ty => ty.pending
    TablesOrdered (marked fullOfReqs) ∧ TablesOrdered (marked noneOnOrder) ∧ pending (marked fullOfReqs) = true
    ∧ pending (reorderCheck 0 (marked fullOfReqs)) = true ∧ pending (marked noneOnOrder) = true
    ∧ pending (reorderCheck 0 (marked noneOnOrder)) = false ∧ (∀ e ∈ noneOnOrder.stock.types, e.2.pending = false)
    ∧ (∀ x ∈ ([5, 1, 5] : List Nat), x ∈ ([1, 5] : List Nat)) ∧ ∀ x ∈ ([1, 5] : List Nat), 0 < x := by decide +kernel

theorem witness_RequisitionsAreConfirmedAndCancelled :
    demo.Receptive ∧ TablesOrdered demo ∧ (bytes [3, 0]).length = 2 ∧ demo.stock.reqs.get? 5 = none
    ∧ (∃ r ∈ demo.stock.reqs.get? 3, r.confirmDay = none ∧ (demo.stock.types.get? r.type).isSome = true)
    ∧ (∃ r ∈ demo.stock.reqs.get? 4, r.confirmDay.isSome = true) := by decide +kernel

theorem witness_ReqReceiveStocksTheShelf :
    demo.Receptive ∧ (bytes [3, 0, 8]).length = 3 ∧ byteAt (bytes [3, 0, 0]) 2 = 0 ∧ demo.stock.reqs.get? 5 = none
    -- received in part, whole, and beyond the shelf's 255
    ∧ (∃ r ∈ demo.stock.reqs.get? 3, 7 < r.quantity ∧ r.quantity ≤ 8 ∧ ∃ ty ∈ demo.stock.types.get? r.type, 255 < ty.shelf + 251
        ∧ ty.shelf + 250 = 255)
    ∧ (∃ r ∈ demo.stock.reqs.get? 4, r.confirmDay.isSome = true ∧ 3 < r.quantity)
    -- a shelf of 0 that grows, and a full one
    ∧ (∃ ty ∈ demo.stock.types.get? 1, ty.shelf < 255) ∧ TicketsSound dry
    ∧ (let s := updType 0 (fun ty => { ty with shelf := 255 }) demo
       s.Receptive ∧ TablesOrdered s ∧ ∃ ty ∈ s.stock.types.get? 0, 255 ≤ ty.shelf) := by decide +kernel

/-! ### Witnesses: accounts, groups and prices -/

/-- ACCOUNT_ADD of a number with a token: group 63, USER, ACTIVE, both permissions, balance -100,000, allowance and cap at their
most. -/
def addOf (n : Nat) (token : List Nat) : Payload :=
  bytes ([n, 0] ++ token ++ [63, 0, 0, 3, 0x60, 0x79, 0xFE, 0xFF, 0x80, 0x84, 0x1E, 0, 0x80, 0x84, 0x1E, 0])

/-- ACCOUNT_SET of a number with a token, a group and a role. -/
def setOf (n : Nat) (token : List Nat) (group role : Nat) : Payload :=
  bytes ([n, 0] ++ token ++ [group, role, 0, 3, 0x80, 0x84, 0x1E, 0, 0x80, 0x84, 0x1E, 0])

/-- The first bad field of an ACCOUNT_ADD and of an ACCOUNT_SET. -/
def badNew (p : Payload) : Option Nat :=
  firstBadField [(0, u16 p 0 = 0), (2, 63 < byteAt p 6), (3, 1 < byteAt p 7), (4, 1 < byteAt p 8),
    (6, i32 p 10 < -100000 ∨ 2000000 < i32 p 10), (7, 2000000 < u32 p 14), (8, 2000000 < u32 p 18)]
def badChange (p : Payload) : Option Nat :=
  firstBadField [(2, 63 < byteAt p 6), (3, 1 < byteAt p 7), (4, 1 < byteAt p 8), (6, 2000000 < u32 p 10), (7, 2000000 < u32 p 14)]

theorem witness_AccountAddAndSetStoreTheRecord :
    (let p := addOf 9 [9, 0, 0, 0]
     demo.Receptive ∧ TablesOrdered demo ∧ p.length = 22 ∧ badNew p = none
     ∧ i32 p 10 = -100000 ∧ u32 p 14 = 2000000 ∧ u32 p 18 = 2000000 ∧ demo.bank.accounts.get? 9 = none
     ∧ word p 2 ≠ 0 ∧ demo.badge (word p 2) = none ∧ demo.bank.accounts.length < 4096)
    ∧ (demo.bank.accounts.get? (u16 (addOf 1 [9, 0, 0, 0]) 0)).isSome = true
    ∧ (demo.badge (word (addOf 9 [0xBB, 0xAA, 0, 0]) 2)).isSome = true
    ∧ word (addOf 9 [0, 0, 0, 0]) 2 = 0 := by decide +kernel
/-- Each field of ACCOUNT_ADD and ACCOUNT_SET out of range by one. -/
theorem witness_AccountAddAndSet_fields :
    (let p := addOf 9 [9, 0, 0, 0]
     badNew (addOf 0 [9, 0, 0, 0]) = some 0 ∧ badNew (p.set 6 64) = some 2 ∧ badNew (p.set 7 2) = some 3 ∧ badNew (p.set 8 2) = some 4
     ∧ badNew (p.set 10 0x5F) = some 6 ∧ badNew (p.set 14 0x81) = some 7 ∧ badNew (p.set 18 0x81) = some 8)
    ∧ (let p := setOf 1 [0, 0, 0, 0] 63 1
       badChange p = none ∧ badChange (p.set 6 64) = some 2 ∧ badChange (p.set 7 2) = some 3 ∧ badChange (p.set 8 2) = some 4
       ∧ badChange (p.set 10 0x81) = some 6 ∧ badChange (p.set 14 0x81) = some 7) := by decide +kernel
/-- ACCOUNT_SET: no account, another's token, a change of group in flight, a role that owns jobs, and one that is taken. -/
theorem witness_AccountSet :
    demo.Receptive ∧ demo.bank.accounts.get? (u16 (setOf 9 [0, 0, 0, 0] 0 0) 0) = none
    ∧ (let p := setOf 1 [0x34, 0x12, 0, 0] 0 0
       p.length = 18 ∧ (demo.bank.accounts.get? (u16 p 0)).isSome = true ∧ badChange p = none ∧ ∃ e ∈ demo.badge (word p 2), e.1 ≠ 1)
    ∧ (byteAt (setOf 1 [0, 0, 0, 0] 1 0) 6 ≠ 0 ∧ ∃ j ∈ demo.jobsOf 1, j.phase ≠ .held)
    ∧ (byteAt (setOf 1 [0, 0, 0, 0] 0 1) 7 = 1 ∧ demo.jobsOf 1 ≠ [])
    ∧ (let p := setOf 1 [0xBB, 0xAA, 0, 0] 0 0
       byteAt p 6 = 0 ∧ byteAt p 7 = 0 ∧ ∃ e ∈ demo.badge (word p 2), e.1 = u16 p 0) := by decide +kernel

/-- As many accounts as the table holds. -/
theorem witness_AccountAdd_full : 4096 ≤ ((List.range' 1 4096).map fun n => (n, user 0)).length := by simp

theorem witness_AccountRetireRemovesTheAccount :
    demo.Receptive ∧ JobOrdersSound demo ∧ (bytes [1, 0]).length = 2 ∧ demo.bank.accounts.get? 9 = none
    ∧ (demo.bank.accounts.get? 1).isSome = true ∧ (∃ j ∈ demo.jobsOf 1, j.phase ≠ .held)
    ∧ (demo.bank.accounts.get? 2).isSome = true ∧ (∀ j ∈ demo.jobsOf 2, j.phase = .held) := by decide +kernel

theorem witness_AccountAdjustClampsTheBalance :
    demo.Receptive ∧ (bytes [1, 0, 0, 0, 0, 0]).length = 6 ∧ demo.bank.accounts.get? 9 = none
    ∧ (∃ a ∈ demo.bank.accounts.get? 1, a.balance + i32 (bytes [1, 0, 0x77, 0x75, 0xFE, 0xFF]) 2 = -100001
        ∧ a.balance + i32 (bytes [1, 0, 0x98, 0x80, 0x1E, 0]) 2 = 2000000) := by decide +kernel

/-- The first bad field of a GROUP_SET. -/
def badGroup (p : Payload) : Option Nat :=
  let v := i32 p 2
  firstBadField [(0, 63 < byteAt p 0), (1, 2 < byteAt p 1),
    (2, (byteAt p 1 = 1 ∧ (v < 0 ∨ 16000000 < v)) ∨ (byteAt p 1 = 2 ∧ (v < -16000000 ∨ 16000000 < v))),
    (3, 16000000 < u32 p 6), (4, 16000000 < u32 p 10), (5, 100000 < u32 p 14), (6, byteAt p 18 < 1 ∨ 31 < byteAt p 18),
    (7, byteAt p 18 ≤ byteAt p 19)]

theorem witness_GroupSetAndPriceSetStoreTheirFields :
    -- every field at its bound, and out of range by one; the pool kept, set and adjusted past its end
    (let p := bytes [63, 0, 0, 0, 0, 0, 0, 0x24, 0xF4, 0, 0, 0x24, 0xF4, 0, 0xA0, 0x86, 1, 0, 31, 30]
     demo.Receptive ∧ TablesOrdered demo ∧ p.length = 20 ∧ badGroup p = none ∧ byteAt p 1 = 0
     ∧ badGroup (p.set 0 64) = some 0 ∧ badGroup (p.set 1 3) = some 1 ∧ badGroup (p.set 6 1) = some 3 ∧ badGroup (p.set 10 1) = some 4
     ∧ badGroup (p.set 14 0xA1) = some 5 ∧ badGroup (p.set 18 32) = some 6 ∧ badGroup (p.set 18 0) = some 6 ∧ badGroup (p.set 19 31) = some 7)
    ∧ (let p := bytes [0, 1, 0, 0x24, 0xF4, 0, 0, 0, 0, 0, 0, 0, 0, 0, 0, 0, 0, 0, 1, 0]
       badGroup p = none ∧ i32 p 2 = 16000000 ∧ badGroup (p.set 2 1) = some 2)
    ∧ (let p := bytes [0, 2, 0, 0xDC, 0x0B, 0xFF, 0, 0, 0, 0, 0, 0, 0, 0, 0, 0, 0, 0, 1, 0]
       badGroup p = none ∧ i32 p 2 = -16000000 ∧ badGroup (p.set 3 0xDB) = some 2)
    -- the prices at 0, 1, 1,000 and 1,001
    ∧ (let p := bytes [7, 0, 0, 1, 0, 0xE8, 3, 0xE9, 3]
       p.length = 9 ∧ byteAt p 0 ≤ 7 ∧ u16 p 1 = 0 ∧ u16 p 3 = 1 ∧ u16 p 5 = 1000 ∧ u16 p 7 = 1001)
    ∧ 7 < byteAt (bytes [8, 0, 0, 0, 0, 0, 0, 0, 0]) 0 := by decide +kernel

theorem witness_ReservationIsReturnedBySettlement :
    TablesOrdered demo ∧ (∃ a ∈ demo.bank.accounts.get? 1, a.group ≤ 63 ∧ demo.portions a 964 = some (964, 0)
      ∧ demo.portions a 965 = some (964, 1) ∧ demo.portions a 1455 = none)
    ∧ info₂.cost = info₂.accountPortion + info₂.poolPortion ∧ 40 ≤ info₂.cost := by decide +kernel

/-! ### Witnesses: jobs -/

/-- JOB_SUBMIT of an owner for a target: 9,999 pages, 999 copies, colour, A4, duplex. -/
def submit (owner kind value : Nat) : Payload := bytes [owner, 0, 1, 0, 0, 0, 0x0F, 0x27, 0xE7, 3, 1, 0, 1, kind, value]

/-- The first bad field of a JOB_SUBMIT. -/
def badSubmit (p : Payload) : Option Nat :=
  firstBadField [(2, u16 p 6 < 1 ∨ 9999 < u16 p 6), (3, u16 p 8 < 1 ∨ 999 < u16 p 8), (4, 1 < byteAt p 10), (5, 1 < byteAt p 11),
    (7, 2 < byteAt p 13), (8, byteAt p 13 = 1 ∧ 63 < byteAt p 14)]

theorem witness_JobSubmitAndCancelChangeTheStore :
    (let p := submit 1 1 63
     demo.Receptive ∧ p.length = 15 ∧ u16 p 6 = 9999 ∧ u16 p 8 = 999 ∧ badSubmit p = none ∧ badSubmit (p.set 6 0x10) = some 2
     ∧ badSubmit ((p.set 6 0).set 7 0) = some 2 ∧ badSubmit (p.set 8 0xE8) = some 3 ∧ badSubmit (p.set 10 2) = some 4
     ∧ badSubmit (p.set 11 2) = some 5 ∧ badSubmit (p.set 13 3) = some 7 ∧ badSubmit (p.set 14 64) = some 8
     ∧ demo.bank.accounts.get? (u16 (submit 9 2 0) 0) = none ∧ (∃ a ∈ demo.bank.accounts.get? (u16 p 0), a.role = .user ∧ a.suspended = false)
     ∧ (demo.jobsOf (u16 p 0)).length < demo.params.jobLimit ∧ demo.store.records.length < 2048)
    ∧ (∃ a ∈ demo.bank.accounts.get? 2, a.role = .service) ∧ (∃ a ∈ demo.bank.accounts.get? 3, a.role = .user ∧ a.suspended = true)
    ∧ ¬ (demo.jobsOf 1).length < ({ demo.params with jobLimit := 3 } : Params).jobLimit
    ∧ demo.printers.get? (byteAt (submit 1 0 0) 14) = none ∧ (demo.printers.get? (byteAt (submit 1 0 1) 14)).isSome = true
    -- JOB_CANCEL of a job in each state and of none
    ∧ JobOrdersSound demo ∧ (bytes [11, 0]).length = 2 ∧ demo.jobAt 10 = none ∧ (∃ j ∈ demo.jobAt 11, j.phase = .held)
    ∧ (∃ j ∈ demo.jobAt 12, j.phase = .releasing info) ∧ (∃ j ∈ demo.jobAt 13, j.phase = .printing info₂ 99910) := by decide +kernel

theorem witness_JobWalkReadsTheOwnersJobs :
    demo.Receptive ∧ JobOrdersSound demo ∧ (demo.bank.accounts.get? 1).isSome = true
    -- the first, a middle and the last job of the list
    ∧ (demo.jobsOf 1).map Job.number = [] ++ 11 :: [12, 13] ∧ (demo.jobsOf 1).map Job.number = [11, 12] ++ 13 :: []
    ∧ (∃ j ∈ demo.jobAt 11, j.target ≠ .any) ∧ demo.jobAt 10 = none ∧ demo.bank.accounts.get? 9 = none
    ∧ (∀ j ∈ demo.jobsOf 1, j.number ≠ 10) ∧ demo.jobsOf 2 = [] ∧ (demo.bank.accounts.get? 2).isSome = true := by decide +kernel

/-! ### Witnesses: stations and the station line -/

/-- LINE_SET: apply, enable, rate and window. -/
def lineOf (apply enable window : Nat) : Payload := bytes [apply, enable, 0x90, 0xD0, 3, 0, window]

/-- `demo` with the line disabled. -/
def disabled : State := request (.lineSet (lineOf 1 0 10)) demo

theorem witness_StationSetAndLineSetStoreTheirSettings :
    demo.Receptive ∧ (bytes [126, 1, 0, 2, 1, 1]).length = 6 ∧ byteAt (bytes [126, 1, 0, 2, 1, 1]) 3 = 2
    ∧ byteAt (bytes [0, 1, 0, 2, 1, 1]) 0 < 1 ∧ 126 < byteAt (bytes [127, 1, 0, 2, 1, 1]) 0 ∧ 2 < byteAt (bytes [1, 1, 0, 3, 1, 1]) 3
    ∧ demo.printers.get? (byteAt (bytes [126, 1, 0, 2, 1, 1]) 2) = none
    ∧ (demo.printers.get? (byteAt (bytes [1, 1, 3, 0, 1, 1]) 2)).isSome = true
    ∧ (demo.line.stations.get? 126).isSome = true ∧ (demo.line.stations.get? 1).isSome = true
    -- LINE_SET: not applied; a rate that is none; the window at and beyond its ends
    ∧ (lineOf 1 1 2).length = 7 ∧ flagAt (lineOf 0 0 0) 0 = false ∧ LineRate.ofBaud? (u32 (lineOf 1 1 2) 2) = some .b250000
    ∧ LineRate.ofBaud? (u32 (bytes [1, 1, 0, 0, 0, 0, 10]) 2) = none ∧ byteAt (lineOf 1 1 1) 6 < 2 ∧ 50 < byteAt (lineOf 1 1 51) 6
    ∧ byteAt (lineOf 1 1 50) 6 ≤ 50
    -- kept, disabled, and enabled with a calendar
    ∧ flagAt (lineOf 1 1 2) 1 = demo.line.enabled ∧ flagAt (lineOf 1 0 2) 1 = false ∧ demo.line.enabled = true
    ∧ disabled.Receptive ∧ disabled.line.enabled = false ∧ disabled.line.calendar ≠ [] := by decide +kernel

/-- `demo` with a calendar of four slots half loaded. -/
def loading : State := request (.calendarSet (bytes [0, 4, 0, 2, 126])) demo

theorem witness_CalendarSetLoadsAndInstalls :
    let sound := fun p : Payload => 3 ≤ p.length ∧ p.length ≤ 60 ∧ u16 p 1 ≤ 256
      ∧ (∀ a ∈ (p.drop 3).map BitVec.toNat, 1 ≤ a ∧ a ≤ 126) ∧ byteAt p 0 + ((p.drop 3).map BitVec.toNat).length ≤ u16 p 1
    demo.Receptive ∧ sound (bytes [0, 4, 0, 2, 126]) ∧ loading.Receptive ∧ loading.line.loading = some (4, [2, 126])
    -- the piece at its end completes it, another does not fit
    ∧ sound (bytes [2, 4, 0, 2, 3]) ∧ byteAt (bytes [2, 4, 0, 2, 3]) 0 = [2, 126].length
    ∧ sound (bytes [1, 4, 0, 2, 3]) ∧ byteAt (bytes [1, 4, 0, 2, 3]) 0 ≠ [2, 126].length
    -- the empty calendar, installed at once, and after it a calendar that finds the enabled line OFF
    ∧ sound (bytes [0, 0, 0])
    ∧ (let s := request (.calendarSet (bytes [0, 0, 0])) demo
       s.Receptive ∧ s.line.enabled = true ∧ s.line.regime = .off ∧ sound (bytes [0, 1, 0, 2]))
    -- a payload too short and one too long, a total beyond 256, a bad address after a good one, a piece beyond the total
    ∧ (bytes [0, 0]).length < 3 ∧ 60 < (bytes ([0, 58, 0] ++ List.replicate 58 1)).length ∧ 256 < u16 (bytes [0, 1, 1]) 1
    ∧ ¬ (1 ≤ ([126, 127] : List Nat).getD 1 0 ∧ ([126, 127] : List Nat).getD 1 0 ≤ 126)
    ∧ u16 (bytes [0, 1, 0, 1, 2]) 1 < byteAt (bytes [0, 1, 0, 1, 2]) 0 + 2 := by decide +kernel

/-- `demo` with an answer poll of station 1 pending. -/
def answering : State := { demo with line := { demo.line with answer := some 1 } }

theorem witness_PollsBeginAnExchange :
    demo.Settled ∧ demo.line.exchange = none ∧ demo.line.answer = none ∧ demo.line.regime ≠ .off
    ∧ demo.line.calendar[demo.line.walk]? = some 1 ∧ answering.Settled ∧ answering.line.exchange = none
    ∧ answering.line.answer = some 1 := by decide +kernel

/-- `polling` with the record of station 1 changed. -/
def pollingWith (f : Station → Station) : State := updStation 1 f polling

theorem witness_ExchangeEndUpdatesTheStation :
    polling.Settled ∧ (∃ ex ∈ polling.line.exchange, ex.station = 1 ∧ ex.abandoned = false)
    ∧ (∃ st ∈ polling.line.stations.get? 1, st.pollCount ≤ 255 ∧ st.state ≠ .lost)
    ∧ judgeReply 1 (lineFrame 1 1 []) = .idle ∧ judgeReply 1 [0] = .badFrame ∧ lineFrame 1 1 [] ≠ []
    -- the third miss, the end of a noise window, and an abandoned exchange
    ∧ (∃ st ∈ (pollingWith fun st => { st with misses := 2 }).line.stations.get? 1, polling.params.missLimit ≤ min 15 (st.misses + 1))
    ∧ (∃ st ∈ (pollingWith fun st => { st with pollCount := 255, badCount := 15 }).line.stations.get? 1,
        st.pollCount = 255 ∧ polling.params.noiseLimit ≤ min 255 (st.badCount + 1))
    ∧ (∃ ex ∈ (request (.calendarSet (bytes [0, 1, 0, 2])) polling).line.exchange, ex.abandoned = true) := by decide +kernel

/-- The characters of a PRESENT of station 1. -/
def present (token : List Nat) : List Byte := lineFrame 1 2 (bytes token)

theorem witness_PresentationIsGuardedAndRouted :
    polling.Settled ∧ (∃ ex ∈ polling.line.exchange, ex.abandoned = false) ∧ present [0, 0, 0x12, 0x34] ≠ []
    ∧ judgeReply 1 (present [0, 0, 0x12, 0x34]) = .present 0x1234
    -- an unknown badge, a SERVICE badge, a SUSPENDED user
    ∧ polling.badge 5 = none ∧ (∃ e ∈ polling.badge 0x1234, e.2.role = .service)
    ∧ (∃ e ∈ polling.badge 0x77, e.2.role = .user ∧ polling.bank.accounts.get? e.1 = some e.2 ∧ e.2.suspended = true)
    -- bound to a printer with a ticket, to one with a RESOLVED ticket, to one without, and to none
    ∧ (∃ st ∈ polling.line.stations.get? 1, st.bound = some 1 ∧ st.mode = .all) ∧ (∃ k ∈ polling.ticketOf 1, k.2.state ≠ .resolved)
    ∧ (∃ k ∈ polling.ticketOf 2, k.2.state = .resolved) ∧ polling.ticketOf 3 = none
    ∧ (∃ st ∈ (pollingWith fun st => { st with bound := none, mode := .usersOnly }).line.stations.get? 1,
        st.bound = none ∧ st.mode = .usersOnly)
    -- guarded: the same token 2 seconds ago
    ∧ (∃ st ∈ (pollingWith fun st => { st with last := some (0x1234, 99998) }).line.stations.get? 1,
        ∃ l ∈ st.last, l.1 = 0x1234 ∧ (polling.time.runSeconds - l.2).toNat < polling.params.repeatGuard)
    -- a poll that carries the slot's message, and a slot filled again since
    ∧ (let m : Message := ⟨.noCallout, 0, 0, 1, 0⟩
       let s := after (exec .calendarPoll (updStation 1 (fun st => { st with slot := some m }) demo))
       s.Settled ∧ (∃ ex ∈ s.line.exchange, ex.carried = some m) ∧ (∃ st ∈ s.line.stations.get? 1, st.slot = some m)) := by
  decide +kernel
theorem witness_Presentation_at_the_target :
    polling.Settled ∧ judgeReply 1 (present [0, 0, 0xAA, 0xBB]) = .present 0xAABB
    -- an ACTIVE user at a printer that accepts, and with redirect at the DOWN printer 3: printers 1 and 2 are as loaded
    ∧ (∃ e ∈ polling.badge 0xAABB, e.2.role = .user ∧ polling.bank.accounts.get? e.1 = some e.2 ∧ e.2.suspended = false)
    ∧ TablesOrdered polling ∧ polling.inflightCount 1 = 1 ∧ polling.inflightCount 2 = 1
    ∧ (∃ p ∈ polling.printers.get? 1, p.state = .ready) ∧ (∃ p ∈ polling.printers.get? 3, p.state = .down ∧ p.floor = 1)
    ∧ (∃ st ∈ (pollingWith fun st => { st with bound := some 3, redirect := true }).line.stations.get? 1, st.bound = some 3 ∧ st.redirect = true)
    -- a service presentation at a RAISED ticket, and at an ACKED one
    ∧ (∃ k ∈ polling.ticketOf 1, k.2.state = .raised)
    ∧ (∃ k ∈ (updTicket 5 (fun k => { k with state := .acked 2 }) polling).ticketOf 1, k.2.state = .acked 2) := by decide +kernel

theorem witness_LineFramesAreJudgedByTheirContents :
    (1 : Nat) ≤ 255 ∧ (2 : Nat) ≠ 1 ∧ (bytes [1, 2, 3]).length ≤ 8 ∧ ¬ ((0x03 : Byte) = 0x01) ∧ (0x00 : Byte) ≠ 0xC3
    ∧ 5 < (lineFrame 1 3 []).length ∧ bytes [0, 0] ≠ crcBytes (BitVec.ofNat 8 1 :: 3 :: BitVec.ofNat 8 0 :: [])
    ∧ demo.de = false ∧ polling.de = true ∧ (∃ ex ∈ polling.line.exchange, ex.sending = some 0 ∧ (lineBits ex.frame)[0 / 217]? = some false)
    ∧ 0 < ([0xC3] : List Byte).length ∧ ([0xC3] : List Byte)[0]? = some 0xC3 := by decide +kernel

/-! ### Witnesses: release and dispatch -/

/-- `demo` with a second job that printer 1 may release. -/
def twoHeld : State := { demo with store := ⟨demo.store.records ++ [held 14 3 (.floor 1)], 14, 4, [11, 14]⟩ }

/-- The walk stops short at RELEASE_BATCH, at PRINTER_INFLIGHT with none released and with one, and at a refused reservation. -/
theorem witness_Release_stops :
    let cands := fun s : State => (s.jobsOf 1).filter fun j => j.candidate 1 mono
    twoHeld.Receptive ∧ JobOrdersSound twoHeld ∧ (cands twoHeld).length = 2 ∧ twoHeld.inflightCount 1 = 1
    ∧ ({ twoHeld.params with releaseBatch := 1 } : Params).releaseBatch < 2 ∧ ({ twoHeld.params with printerInflight := 1 } : Params).printerInflight ≤ 1
    ∧ ({ twoHeld.params with printerInflight := 2 } : Params).printerInflight ≤ 1 + 1
    ∧ (∃ a ∈ twoHeld.bank.accounts.get? 1, a.exhausted = false ∧ twoHeld.portions { a with balance := 30 } 6 = none)
    ∧ twoHeld.params.releaseBatch = 8 ∧ twoHeld.params.printerInflight = 8 := by decide +kernel

theorem witness_ReleaseReleasesTheOldestCandidates :
    let p := bytes [1, 0, 1, 0, 0]
    demo.Receptive ∧ JobOrdersSound demo ∧ p.length = 5
    ∧ (∃ a ∈ demo.bank.accounts.get? (u16 p 0), a.role = .user ∧ a.suspended = false)
    ∧ demo.printers.get? (byteAt p 2) = some mono ∧ mono.state = .ready ∧ u16 p 3 = 0
    -- job 11 suits printer 1 and not printer 2; one job named
    ∧ ((demo.jobsOf 1).filter fun j => j.candidate 1 mono).map Job.number = [11]
    ∧ (demo.jobsOf 1).filter (fun j => j.candidate 2 colour) = []
    ∧ (∃ j ∈ demo.jobAt (u16 (bytes [1, 0, 1, 11, 0]) 3), j.owner = 1) := by decide +kernel

theorem witness_ReleaseIsTurnedAway :
    demo.Receptive ∧ (bytes [9, 0, 1, 0, 0]).length = 5 ∧ demo.bank.accounts.get? 9 = none
    ∧ (∃ a ∈ demo.bank.accounts.get? 2, a.role = .service) ∧ demo.printers.get? 0 = none
    ∧ (∃ a ∈ demo.bank.accounts.get? 1, a.role = .user ∧ a.suspended = false) ∧ demo.jobAt 10 = none
    ∧ (∃ a ∈ demo.bank.accounts.get? 3, a.role = .user ∧ a.suspended = true)
    ∧ (∃ x ∈ demo.printers.get? 3, x.state ≠ .ready ∧ x.state ≠ .impaired) := by decide +kernel

theorem witness_DispatchTakePrintsTheFirstJob :
    demo.Receptive ∧ JobOrdersSound demo ∧ demo.release.dispatch = 12 :: []
    ∧ (request (.dispatchTake []) demo).Receptive ∧ (request (.dispatchTake []) demo).release.dispatch = [] := by decide +kernel

theorem witness_JobDoneSettlesAndCounts :
    let p := bytes [13, 0, 10, 0, 0, 0, 1, 1]
    demo.Receptive ∧ JobOrdersSound demo ∧ p.length = 8 ∧ byteAt p 6 ≤ 1 ∧ demo.jobAt 10 = none
    ∧ (∃ j ∈ demo.jobAt 12, j.phase = .releasing info)
    ∧ (∃ j ∈ demo.jobAt (u16 p 0), j.phase = .printing info₂ 99910) ∧ (demo.printers.get? info₂.printer).isSome = true
    ∧ (byteAt p 6 = 1 ∧ flagAt p 7 = true) ∧ byteAt (bytes [13, 0, 10, 0, 0, 0, 0, 1]) 6 = 0
    -- an outcome that is neither OK nor FAILED
    ∧ 1 < byteAt (bytes [13, 0, 10, 0, 0, 0, 2, 1]) 6 := by decide +kernel

/-! ### Witnesses: reads and invariants -/

theorem witness_ReadsOfThePrinterSideReportTheRecords :
    demo.Receptive ∧ demo.time.sweep = none ∧ (sweeping (.printers 255)).Receptive ∧ (sweeping (.accounts 2)).Receptive
    ∧ ((sweeping (.accounts 2)).bank.accounts.above 2).isSome = true ∧ demo.printers.get? 255 = none
    ∧ (demo.printers.get? 2).isSome = true ∧ (demo.callout.tickets.get? 5).isSome = true ∧ demo.callout.tickets.get? 6 = none
    ∧ Table.Sorted demo.callout.tickets ∧ (∃ k ∈ demo.callout.tickets, 6 < k.1 ∧ ∀ e ∈ demo.callout.tickets, 6 < e.1 → k.1 ≤ e.1)
    ∧ (∀ e ∈ demo.callout.tickets, e.1 ≤ 7) := by decide +kernel

theorem witness_ReadsOfTheBudgetSideReportTheRecords :
    demo.Receptive ∧ (demo.stock.types.get? 0).isSome = true ∧ demo.stock.types.get? 63 = none
    ∧ (demo.stock.reqs.get? 3).isSome = true ∧ demo.stock.reqs.get? 5 = none ∧ Table.Sorted demo.stock.reqs
    ∧ (∃ k ∈ demo.stock.reqs, 3 < k.1 ∧ ∀ e ∈ demo.stock.reqs, 3 < e.1 → k.1 ≤ e.1) ∧ (∀ e ∈ demo.stock.reqs, e.1 ≤ 4)
    ∧ (demo.bank.accounts.get? 1).isSome = true ∧ demo.bank.accounts.get? 9 = none ∧ demo.badge 5 = none
    ∧ (demo.badge 0x1234).isSome = true ∧ (demo.line.stations.get? 1).isSome = true ∧ (demo.line.stations.get? 126).isSome = true := by
  decide +kernel

/-- `demo` with a release request waiting. -/
def waiting : State := { demo with pending := [.releaseRequest (bytes [1, 0, 1, 0, 0])] }

theorem witness_StepKeepsWordsParametersAndPrintersInRange :
    CauseWordClean waiting ∧ ParamsInRange waiting ∧ PrintersInRange waiting ∧ ∃ t, step waiting = .next t :=
  ⟨test_demo_clean, test_demo_params, test_demo_printers, _, rfl⟩

theorem witness_StepKeepsTablesBudgetsAndBadges :
    TablesOrdered waiting ∧ BudgetsInRange waiting ∧ BadgesUnique waiting ∧ ∃ t, step waiting = .next t :=
  ⟨test_demo_tables.1, test_demo_tables.2.1, test_demo_tables.2.2, _, rfl⟩

theorem witness_StepKeepsTicketsAndStockSound :
    TablesOrdered { callouts with pending := waiting.pending } ∧ TicketsSound { callouts with pending := waiting.pending }
    ∧ CalloutsComplete { callouts with pending := waiting.pending } ∧ ∃ t, step { callouts with pending := waiting.pending } = .next t :=
  ⟨test_callouts_complete.1, test_callouts_complete.2.1, test_callouts_complete.2.2, _, rfl⟩

theorem witness_StepKeepsTicketsAndStockSound_stock :
    TablesOrdered waiting ∧ TicketsSound waiting ∧ StockSound waiting ∧ ∃ t, step waiting = .next t :=
  ⟨test_demo_tables.1, test_demo_tickets, test_demo_stock, _, rfl⟩

theorem witness_StepKeepsReservationsInBalance :
    TablesOrdered waiting ∧ ParamsInRange waiting ∧ BudgetsInRange waiting ∧ JobOrdersSound waiting ∧ OwnersSound waiting
    ∧ ReservationsBalance waiting ∧ ∃ t, step waiting = .next t :=
  ⟨test_demo_tables.1, test_demo_params, test_demo_tables.2.1, test_demo_orders, test_demo_owners, test_demo_balance, _, rfl⟩

theorem witness_StepKeepsReservationsInBalance_order :
    JobOrdersSound waiting ∧ SequencesNear waiting ∧ SubmissionOrderKept waiting ∧ ∃ t, step waiting = .next t :=
  ⟨test_demo_orders, test_demo_order.1, test_demo_order.2, _, rfl⟩

theorem witness_StepKeepsFlightsSound :
    TablesOrdered waiting ∧ ParamsInRange waiting ∧ JobOrdersSound waiting ∧ FlightsSound waiting ∧ ∃ t, step waiting = .next t :=
  ⟨test_demo_tables.1, test_demo_params, test_demo_orders, test_demo_flights, _, rfl⟩

theorem witness_StepKeepsLineBindingsAndSweepSound :
    TablesOrdered waiting ∧ LineSound waiting ∧ BindingsSound waiting ∧ SweepSound waiting ∧ ∃ t, step waiting = .next t :=
  ⟨test_demo_tables.1, test_demo_line, test_demo_bindings, test_demo_sweep, _, rfl⟩

end Sys2Proof.Tests
end

section
/-!
PROOFS. Sticky causes and numbered tables: what setting one cause does to every cause, and how the length and the searches of a
table answer to a new number and to a removed one.
-/

namespace Sys2Proof.Machine

/-! ### Sticky causes (R174) -/

theorem Cause.bit_injective {c d : Cause} (h : c.bit = d.bit) : c = d := by
  have ofNat_bit (x : Cause) : Cause.ofNat x.bit = x := by cases x <;> rfl
  rw [← ofNat_bit c, h, ofNat_bit]

theorem Cause.bit_lt (c : Cause) : c.bit < 32 := by cases c <;> decide

theorem Cause.getLsbD_mask (c x : Cause) : c.mask.getLsbD x.bit = decide (x = c) := by
  have hbit : x.bit = c.bit ↔ x = c := ⟨Cause.bit_injective, congrArg Cause.bit⟩
  simp only [Cause.mask, ← BitVec.twoPow_eq, BitVec.getLsbD_twoPow, c.bit_lt, decide_true, Bool.true_and, ← hbit, eq_comm]

/-- Setting a cause brings that cause and no other. -/
@[simp] theorem hasCause_setCause (c x : Cause) (s : State) :
    (setCause c s).hasCause x = (s.hasCause x || decide (x = c)) := by
  simp only [State.hasCause, setCause_port, BitVec.getLsbD_or, Cause.getLsbD_mask]

/-! ### Tables -/

namespace Table

variable {α : Type}

theorem length_put_of_not_mem {t : Table α} {n : Nat} (x : α) (h : n ∉ t.keys) : (t.put n x).length = t.length + 1 := by
  induction t with
  | nil => rfl
  | cons e t ih =>
    obtain ⟨k, v⟩ := e
    simp only [Table.keys, List.map_cons, List.mem_cons, not_or] at h
    obtain ⟨hk, ht⟩ := h
    simp only [Table.put, Ne.symm hk, if_false]
    split
    · rfl
    · simp only [List.length_cons, ih ht]

/-- A live number of an ordered table holds one record, so its removal shortens the table by one. -/
theorem length_del_of_mem {t : Table α} (hs : t.Sorted) {n : Nat} (h : n ∈ t.keys) : (t.del n).length + 1 = t.length := by
  have hnd : t.keys.Nodup := hs.imp Nat.ne_of_lt
  have hkeys : (t.del n).keys = t.keys.erase n := by
    rw [keys_del, hnd.erase_eq_filter]
    exact List.filter_congr fun m _ => Bool.eq_iff_iff.2 (by simp)
  have hlen : (t.del n).keys.length + 1 = t.keys.length := by rw [hkeys, List.length_erase_add_one h]
  simpa only [Table.keys, List.length_map] using hlen

/-- A search that finds nothing in a table finds a new record it fits. -/
theorem find?_put_of_none {t : Table α} {n : Nat} {x : α} {f : Nat × α → Bool} (ht : t.find? f = none) (hx : f (n, x) = true) :
    (t.put n x).find? f = some (n, x) := by
  induction t with
  | nil => simp [Table.put, hx]
  | cons e t ih =>
    obtain ⟨k, v⟩ := e
    obtain ⟨hv, ht⟩ : ¬ f (k, v) = true ∧ t.find? f = none := by simpa using ht
    simp only [Table.put]
    split
    · exact List.find?_cons_of_pos hx
    · split
      · exact List.find?_cons_of_pos hx
      · rw [List.find?_cons_of_neg hv, ih ht]

end Table

end Sys2Proof.Machine
end

section
/-!
PROOFS. The hand-over of a freed ticket entry (R31, R36): which deferred printer is chosen, what issuing a ticket changes, and
that `handOver` is the hand-over the manual states.
-/

namespace Sys2Proof.Machine

/-! ### The choice among candidates -/

/-- A candidate (printer number, severity) goes before another: it is more severe, or as severe and not higher in number. -/
def Outranks (c d : Nat × Nat) : Prop := d.2 < c.2 ∨ (d.2 = c.2 ∧ c.1 ≤ d.1)

theorem Outranks.refl (c : Nat × Nat) : Outranks c c := .inr ⟨rfl, Nat.le_refl _⟩

theorem Outranks.trans {c d e : Nat × Nat} (hcd : Outranks c d) (hde : Outranks d e) : Outranks c e := by
  unfold Outranks at *; omega

theorem Outranks.antisymm {c d : Nat × Nat} (hcd : Outranks c d) (hdc : Outranks d c) : c = d := by
  unfold Outranks at *
  exact Prod.ext (by omega) (by omega)

/-- One step of `bestCandidate`: the best so far stays unless the next candidate is more severe. -/
def keepBest (best : Option (Nat × Nat)) (c : Nat × Nat) : Option (Nat × Nat) :=
  if best.any fun b => c.2 ≤ b.2 then best else some c

theorem bestCandidate_cons (b : Nat × Nat) (l : List (Nat × Nat)) :
    bestCandidate (b :: l) = (l.foldl keepBest (some b)).map Prod.fst := rfl

theorem keepBest_some_of_le {b c : Nat × Nat} (h : c.2 ≤ b.2) : keepBest (some b) c = some b := by simp [keepBest, h]

theorem keepBest_some_of_lt {b c : Nat × Nat} (h : b.2 < c.2) : keepBest (some b) c = some c := by simp [keepBest, h]

/-- Over candidates in rising number, the one kept at the end outranks every other. -/
theorem foldl_keepBest_outranks {b : Nat × Nat} {l : List (Nat × Nat)} (hl : (b :: l).Pairwise fun c d => c.1 < d.1) :
    ∃ c ∈ b :: l, l.foldl keepBest (some b) = some c ∧ ∀ d ∈ b :: l, Outranks c d := by
  induction l generalizing b with
  | nil => exact ⟨b, List.mem_cons_self, rfl, by simp [Outranks.refl]⟩
  | cons e l ih =>
    obtain ⟨hb, hel⟩ := List.pairwise_cons.1 hl
    have hbe : b.1 < e.1 := hb e List.mem_cons_self
    simp only [List.foldl_cons, List.forall_mem_cons] at ih ⊢
    by_cases hle : e.2 ≤ b.2
    · have hbl : (b :: l).Pairwise fun c d => c.1 < d.1 :=
        List.pairwise_cons.2 ⟨fun d hd => hb d (List.mem_cons_of_mem e hd), (List.pairwise_cons.1 hel).2⟩
      have hout : Outranks b e := by unfold Outranks; omega
      obtain ⟨c, hc, hfold, hcb, hcl⟩ := ih hbl
      exact ⟨c, List.cons_subset_cons b (List.subset_cons_self e l) hc, by rw [keepBest_some_of_le hle, hfold], hcb, hcb.trans hout, hcl⟩
    · have hout : Outranks e b := .inl (not_le.1 hle)
      obtain ⟨c, hc, hfold, hce, hcl⟩ := ih hel
      exact ⟨c, List.mem_cons_of_mem b hc, by rw [keepBest_some_of_lt (not_le.1 hle), hfold], hce.trans hout, hce, hcl⟩

/-- The candidate that outranks every other is the one chosen. -/
theorem bestCandidate_eq_some {l : List (Nat × Nat)} (hl : l.Pairwise fun c d => c.1 < d.1) {c : Nat × Nat} (hc : c ∈ l)
    (hbest : ∀ d ∈ l, Outranks c d) : bestCandidate l = some c.1 := by
  cases l with
  | nil => simp at hc
  | cons b l =>
    obtain ⟨d, hd, hfold, hdl⟩ := foldl_keepBest_outranks hl
    rw [bestCandidate_cons, hfold, (hbest d hd).antisymm (hdl c hc), Option.map_some]

/-! ### The candidates of a state -/

/-- The severity of the causes a deferred printer waits with. -/
def State.owedSeverity (s : State) (q : Nat) : Option Nat :=
  ((s.printers.get? q).filter fun p => p.deferred).map fun p => severityOf (currentCauses s p)

theorem State.owedSeverity_eq_some {s : State} {q v : Nat} :
    s.owedSeverity q = some v ↔ ∃ p, s.printers.get? q = some p ∧ p.deferred = true ∧ severityOf (currentCauses s p) = v := by
  simp [State.owedSeverity, Option.filter_eq_some_iff, and_assoc]

/-- A deferred printer that waits with a severity holds a number. -/
theorem State.mem_keys_of_owedSeverity {s : State} {q v : Nat} (h : s.owedSeverity q = some v) : q ∈ Table.keys s.printers := by
  obtain ⟨p, hp, -⟩ := State.owedSeverity_eq_some.1 h
  exact Table.mem_keys_of_get? hp

theorem mem_handOverCandidates {s : State} (hs : Table.Sorted s.printers) {c : Nat × Nat} :
    c ∈ handOverCandidates s ↔ s.owedSeverity c.1 = some c.2 ∧ 0 < c.2 := by
  have hget (q : Nat) (p : Printer) : (q, p) ∈ s.printers ↔ s.printers.get? q = some p :=
    ⟨Table.get?_of_mem hs, Table.mem_of_get?⟩
  obtain ⟨q, v⟩ := c
  simp only [handOverCandidates, List.mem_filterMap, Option.ite_none_right_eq_some, Option.some.injEq, Prod.mk.injEq,
    Prod.exists, hget, State.owedSeverity_eq_some]
  constructor
  · rintro ⟨_, p, hp, ⟨hd, hpos⟩, rfl, rfl⟩
    exact ⟨⟨p, hp, hd, rfl⟩, hpos⟩
  · rintro ⟨⟨p, hp, hd, rfl⟩, hpos⟩
    exact ⟨q, p, hp, ⟨hd, hpos⟩, rfl, rfl⟩

theorem handOverCandidates_sorted {s : State} (hs : Table.Sorted s.printers) :
    (handOverCandidates s).Pairwise fun c d => c.1 < d.1 := by
  refine List.Pairwise.filterMap _ (fun e e' hlt c hc d hd => ?_) (List.pairwise_map.1 hs)
  simp only [Option.ite_none_right_eq_some, Option.some.injEq] at hc hd
  obtain ⟨-, rfl⟩ := hc
  obtain ⟨-, rfl⟩ := hd
  exact hlt

/-- With no deferred printer that has causes, nothing is handed over. -/
theorem handOver_of_none_owed {s : State} (hs : Table.Sorted s.printers)
    (h : ∀ q ∈ Table.keys s.printers, ∀ v ∈ s.owedSeverity q, v = 0) : handOver s = s := by
  have hnil : handOverCandidates s = [] := List.eq_nil_iff_forall_not_mem.2 fun c hc => by
    obtain ⟨howed, hpos⟩ := (mem_handOverCandidates hs).1 hc
    exact Nat.ne_of_gt hpos (h c.1 (State.mem_keys_of_owedSeverity howed) c.2 howed)
  simp only [handOver, hnil, bestCandidate, List.foldl_nil, Option.map_none]

/-- The deferred printer with the highest severity, the lowest number first, is issued a ticket. -/
theorem handOver_of_best {s : State} (hs : Table.Sorted s.printers) {q v : Nat} (howed : s.owedSeverity q = some v) (hpos : 0 < v)
    (hbest : ∀ x ∈ Table.keys s.printers, ∀ w ∈ s.owedSeverity x, w < v ∨ (w = v ∧ q ≤ x)) :
    handOver s = issueTicket q s := by
  have hchosen : bestCandidate (handOverCandidates s) = some q :=
    bestCandidate_eq_some (c := (q, v)) (handOverCandidates_sorted hs) ((mem_handOverCandidates hs).2 ⟨howed, hpos⟩) fun d hd => by
      obtain ⟨hd, -⟩ := (mem_handOverCandidates hs).1 hd
      exact hbest d.1 (State.mem_keys_of_owedSeverity hd) d.2 hd
  simp only [handOver, hchosen]

/-! ### Issuing a ticket (R31) -/

/-- The number of the next ticket. -/
def State.nextTicket (s : State) : Nat := issueNumber (Table.keys s.callout.tickets) s.callout.lastTicket

/-- The ticket a printer of number `q` is issued: RAISED, with all its current causes. -/
def State.newTicket (s : State) (q : Nat) (p : Printer) : Ticket :=
  ⟨q, currentCauses s p, (currentCauses s p).any fun c => !(s.kindOf c.1).autoclose, .raised, 0, s.now, s.now⟩

/-- All that issuing a ticket to a printer does. -/
theorem issueTicket_of_get? {s : State} {q : Nat} {p : Printer} (hp : s.printers.get? q = some p) :
    issueTicket q s = setCause .calloutRaised (updPrinter q (fun p => { p with deferred := false })
      { s with callout := ⟨s.callout.tickets.put s.nextTicket (s.newTicket q p), s.nextTicket⟩ }) := by
  simp only [issueTicket, hp, State.nextTicket, State.newTicket]

theorem State.newTicket_nonAuto (s : State) (q : Nat) (p : Printer) :
    (s.newTicket q p).nonAuto = true ↔ ∃ c ∈ (s.newTicket q p).causes, (s.params.kinds.at c.1).autoclose = false := by
  simp [State.newTicket, State.kindOf]

theorem State.nextTicket_fresh {s : State} (h : s.callout.tickets.length < 65535) :
    s.nextTicket ∉ Table.keys s.callout.tickets :=
  issueNumber_fresh _ _ (by simpa [Table.keys] using h)

section Issued
variable {s : State} {q : Nat} {p : Printer} (hp : s.printers.get? q = some p)
include hp

theorem issueTicket_callout :
    (issueTicket q s).callout = ⟨s.callout.tickets.put s.nextTicket (s.newTicket q p), s.nextTicket⟩ := by
  simp only [issueTicket_of_get? hp, setCause_callout, updPrinter_callout]

theorem issueTicket_port_eq : (issueTicket q s).port = { s.port with sticky := (issueTicket q s).port.sticky } := by
  simp only [issueTicket_of_get? hp, setCause_port, updPrinter_port]

theorem hasCause_issueTicket (x : Cause) :
    (issueTicket q s).hasCause x = (s.hasCause x || decide (x = .calloutRaised)) := by
  rw [issueTicket_of_get? hp, hasCause_setCause]
  rfl

theorem get?_issueTicket_printers (x : Nat) :
    (issueTicket q s).printers.get? x = if x = q then some { p with deferred := false } else s.printers.get? x := by
  simp only [issueTicket_of_get? hp, setCause_printers, updPrinter_printers, Table.get?_modify]
  split
  · next hx => subst hx; rw [hp, Option.map_some]
  · rfl

/-- A printer without a ticket has the issued one. -/
theorem ticketOf_issueTicket (hnone : s.ticketOf q = none) :
    (issueTicket q s).ticketOf q = some (s.nextTicket, s.newTicket q p) := by
  unfold State.ticketOf at hnone ⊢
  rw [issueTicket_callout hp]
  exact Table.find?_put_of_none hnone (by simp [State.newTicket])

theorem length_issueTicket_tickets (hlen : s.callout.tickets.length < 65535) :
    (issueTicket q s).callout.tickets.length = s.callout.tickets.length + 1 := by
  rw [issueTicket_callout hp, Table.length_put_of_not_mem _ (State.nextTicket_fresh hlen)]

end Issued

/-! ### A hand-over -/

/-- A hand-over changes tickets, printers and the port alone. -/
theorem handOver_eq (s : State) :
    handOver s = { s with callout := (handOver s).callout, printers := (handOver s).printers, port := (handOver s).port } := by
  obtain ⟨-, h⟩ | ⟨q, -, h⟩ := handOver_cases s <;> rw [h]
  cases hp : s.printers.get? q with
  | none => simp only [issueTicket, hp]
  | some p => rw [issueTicket_of_get? hp]; rfl

/-- `handOver` gives the freed entry as R36 says. -/
theorem entryHandedOver_handOver {s : State} (hs : Table.Sorted s.printers) (hlen : s.callout.tickets.length < 65535) :
    s.EntryHandedOver (handOver s) := by
  constructor
  · intro hnone
    rw [handOver_of_none_owed hs hnone]
    exact ⟨rfl, rfl⟩
  · intro q _ v howed hpos hbest
    obtain ⟨p, hp, -, -⟩ := State.owedSeverity_eq_some.1 howed
    have hnew : (issueTicket q s).callout.lastTicket = s.nextTicket := by rw [issueTicket_callout hp]
    rw [handOver_of_best hs howed hpos hbest, hnew, issueTicket_callout hp]
    refine ⟨by simp [hasCause_issueTicket hp], State.nextTicket_fresh hlen, fun x hx => ?_,
      fun n hn => Table.get?_put_ne _ _ hn, p, hp, ?_, s.newTicket q p, Table.get?_put_self _ _ _, rfl, s.newTicket_nonAuto q p⟩
    · rw [get?_issueTicket_printers hp, if_neg hx]
    · rw [get?_issueTicket_printers hp, if_pos rfl]

end Sys2Proof.Machine
end

section
/-!
PROOFS. TICKET_ACK and TICKET_CLOSE (R36 to R38).
-/

namespace Sys2Proof.Machine

variable {s : State} {p : Payload}

/-! ### TICKET_ACK (R37) -/

theorem exec_ticketAck_of_two (h : s.Receptive) (hp : p.length = 2) :
    exec (.ticketAck p) s = .next (answer 0x18 (ticketAck p s) s) := by
  rw [exec_ticketAck h, within_of_le (by omega)]

theorem ticketAck_of_vacant (hp : p.length = 2) (hn : s.callout.tickets.get? (u16 p 0) = none) :
    ticketAck p s = refuse .notFound := by
  simp [ticketAck, hp, hn]

theorem ticketAck_of_resolved {k : Ticket} (hp : p.length = 2) (hk : s.callout.tickets.get? (u16 p 0) = some k)
    (hr : k.state = .resolved) : ticketAck p s = refuse .state := by
  simp [ticketAck, hp, hk, hr]

/-- A ticket that is not RESOLVED is ACKED at its current severity, or stays ACKED as it is. -/
theorem Ticket.acknowledge_eq {k : Ticket} {v : Nat}
    (h : (k.state = .raised ∧ v = severityOf k.causes) ∨ k.state = .acked v) : k.acknowledge = { k with state := .acked v } := by
  obtain ⟨printer, causes, nonAuto, state, level, raised, point⟩ := k
  obtain ⟨rfl, rfl⟩ | rfl := h <;> rfl

theorem ticketAck_of_unresolved {k : Ticket} {v : Nat} (hp : p.length = 2) (hk : s.callout.tickets.get? (u16 p 0) = some k)
    (hv : (k.state = .raised ∧ v = severityOf k.causes) ∨ k.state = .acked v) :
    ticketAck p s = okay (updTicket (u16 p 0) (fun _ => { k with state := .acked v }) s) (1 :: le 1 v) := by
  have hr : k.state ≠ .resolved := by
    obtain ⟨h, -⟩ | h := hv <;> simp [h]
  simp only [ticketAck, hp, hk, hr, Ticket.acknowledge_eq hv, ne_eq, not_true_eq_false, if_false]
  rfl

/-! ### TICKET_CLOSE (R36, R38) -/

theorem exec_ticketClose_of_two (h : s.Receptive) (hp : p.length = 2) :
    exec (.ticketClose p) s = .next (answer 0x19 (ticketClose p s) s) := by
  rw [exec_ticketClose h, within_of_le (by omega)]

theorem ticketClose_of_vacant (hp : p.length = 2) (hn : s.callout.tickets.get? (u16 p 0) = none) :
    ticketClose p s = refuse .notFound := by
  simp [ticketClose, hp, hn]

theorem ticketClose_of_unresolved {k : Ticket} (hp : p.length = 2) (hk : s.callout.tickets.get? (u16 p 0) = some k)
    (hr : k.state ≠ .resolved) : ticketClose p s = refuse .state := by
  simp [ticketClose, hp, hk, hr]

theorem ticketClose_of_resolved {k : Ticket} (hp : p.length = 2) (hk : s.callout.tickets.get? (u16 p 0) = some k)
    (hr : k.state = .resolved) : ticketClose p s = okay (handOver (retireTicket (u16 p 0) s)) [] := by
  simp [ticketClose, hp, hk, hr]

/-- A printer without a ticket has none after a ticket is retired. -/
theorem ticketOf_retireTicket_of_none {q : Nat} (n : Nat) (h : s.ticketOf q = none) : (retireTicket n s).ticketOf q = none := by
  simp only [State.ticketOf, List.find?_eq_none] at h ⊢
  exact fun e he => h e (List.mem_of_mem_filter he)

/-- What a hand-over to printer `q`, of severity `v`, of the entry of retired ticket `n` leaves: the part of TICKET_CLOSE that
changes records. -/
theorem handOver_retireTicket {n q v : Nat} (ht : TablesOrdered s) (hk : TicketsSound s) (hn : n ∈ Table.keys s.callout.tickets)
    (howed : s.owedSeverity q = some v) (hpos : 0 < v)
    (hbest : ∀ x ∈ Table.keys s.printers, ∀ w ∈ s.owedSeverity x, w < v ∨ (w = v ∧ q ≤ x)) :
    let t := handOver (retireTicket n s)
    t.port = { s.port with sticky := t.port.sticky } ∧ t.hasCause .calloutRaised = true
    ∧ (∀ x : Cause, x ≠ .calloutRaised → t.hasCause x = s.hasCause x)
    ∧ t.callout.tickets.length = s.callout.tickets.length
    ∧ ∃ pr ∈ s.printers.get? q, t.printers.get? q = some { pr with deferred := false }
        ∧ t.ticketOf q = some (t.callout.lastTicket, (retireTicket n s).newTicket q pr) := by
  obtain ⟨hprinters, -, htickets, -⟩ := ht
  obtain ⟨hlen, -, -, hdeferred⟩ := hk
  obtain ⟨pr, hp, hd, -⟩ := State.owedSeverity_eq_some.1 howed
  have hdel : (retireTicket n s).callout.tickets.length + 1 = s.callout.tickets.length :=
    Table.length_del_of_mem htickets hn
  have hroom : (retireTicket n s).callout.tickets.length < 65535 := by
    unfold Config.ticketEntries at hlen; omega
  have hp' : (retireTicket n s).printers.get? q = some pr := hp
  have hnone : (retireTicket n s).ticketOf q = none :=
    ticketOf_retireTicket_of_none n (hdeferred (q, pr) (Table.mem_of_get? hp) hd)
  dsimp only
  rw [handOver_of_best (s := retireTicket n s) hprinters howed hpos hbest]
  refine ⟨issueTicket_port_eq hp', by simp [hasCause_issueTicket hp'], fun x hx => ?_, ?_, pr, hp, ?_, ?_⟩
  · rw [hasCause_issueTicket hp', decide_eq_false hx, Bool.or_false]; rfl
  · rw [length_issueTicket_tickets hp' hroom, hdel]
  · rw [get?_issueTicket_printers hp', if_pos rfl]
  · rw [ticketOf_issueTicket hp' hnone, issueTicket_callout hp']

/-! ### The statement -/

/-- Settles O29: each request by the ticket's state; a close by whether a deferred printer has causes. -/
theorem ticketAckAndCloseFollowTheState : Obligations.TicketAckAndCloseFollowTheState := by
  refine ⟨fun s p hs hp => ⟨fun hn => ?vacantAck, fun k hk => ⟨fun hr => ?resolvedAck, fun v hv => ?liveAck⟩⟩,
    fun s p hs hp => ⟨fun hn => ?vacantClose, fun k hk => ⟨fun hr => ?liveClose, fun hr ht hsound => ⟨fun hnone => ?freed, ?handed⟩⟩⟩⟩
  case vacantAck => rw [exec_ticketAck_of_two hs hp, ticketAck_of_vacant hp hn, answer_refuse]
  case resolvedAck => rw [exec_ticketAck_of_two hs hp, ticketAck_of_resolved hp hk hr, answer_refuse]
  case liveAck =>
    refine ⟨updTicket (u16 p 0) (fun _ => { k with state := .acked v }) s, ?_, rfl, ?_, fun m hm => ?_⟩
    · rw [exec_ticketAck_of_two hs hp, ticketAck_of_unresolved hp hk hv, answer_okay]
    · rw [updTicket_callout, Table.get?_modify_self, hk, Option.map_some]
    · rw [updTicket_callout, Table.get?_modify_ne _ _ hm]
  case vacantClose => rw [exec_ticketClose_of_two hs hp, ticketClose_of_vacant hp hn, answer_refuse]
  case liveClose => rw [exec_ticketClose_of_two hs hp, ticketClose_of_unresolved hp hk hr, answer_refuse]
  case freed =>
    rw [exec_ticketClose_of_two hs hp, ticketClose_of_resolved hp hk hr, answer_okay,
      handOver_of_none_owed (s := retireTicket (u16 p 0) s) ht.1 hnone]
    rfl
  case handed =>
    intro q _ v howed hpos hbest
    obtain ⟨hport, hraised, hcauses, hlen, pr, hpr, hflag, hticket⟩ :=
      handOver_retireTicket ht hsound (Table.mem_keys_of_get? hk) howed hpos hbest
    have hroom : (retireTicket (u16 p 0) s).callout.tickets.length < 65535 :=
      Nat.lt_of_le_of_lt (Table.length_del_le _ _) (Nat.lt_of_le_of_lt hsound.1 (by decide))
    refine ⟨handOver (retireTicket (u16 p 0) s), ?_, handOver_eq _, hport, hraised, hcauses,
      entryHandedOver_handOver (s := retireTicket (u16 p 0) s) ht.1 hroom, hlen, pr, hpr, hflag, _, hticket, rfl, rfl⟩
    rw [exec_ticketClose_of_two hs hp, ticketClose_of_resolved hp hk hr, answer_okay]

end Sys2Proof.Machine
end

section
/-!
PROOFS. The sweep of a cartridge (R51, R54 to R58): the two averages, the WANTED test, and the record the sweep leaves.
-/

namespace Sys2Proof.Machine

/-! ### The smoothed averages (R54 to R56) -/

/-- A weighted mean in sixteenths, rounded to the nearest integer, stays within a bound of both its parts. -/
theorem smooth_le {k old sample m : Nat} (hk : k ≤ 16) (hold : old ≤ m) (hsample : sample ≤ m) : smooth k old sample ≤ m := by
  have hweighted : old * (16 - k) + sample * k ≤ 16 * m :=
    calc old * (16 - k) + sample * k ≤ m * (16 - k) + m * k :=
          Nat.add_le_add (Nat.mul_le_mul_right _ hold) (Nat.mul_le_mul_right _ hsample)
      _ = 16 * m := by rw [← Nat.mul_add, Nat.sub_add_cancel hk, Nat.mul_comm]
  unfold smooth
  omega

variable {c : Cartridge} {minSample k pages : Nat}

theorem Cartridge.samples_iff :
    c.samples minSample pages = true ↔ c.void = false ∧ c.stale = false ∧ c.level ≤ c.dayStart ∧ minSample ≤ pages := by
  simp [Cartridge.samples, and_assoc]

theorem Cartridge.learnCoverage_of_samples (h : c.samples minSample pages = true) :
    c.learnCoverage minSample k pages =
      { c with coverage := if c.eSeeded then smooth k c.coverage (min 65535 ((c.dayStart - c.level) * 10000 / pages))
                 else min 65535 ((c.dayStart - c.level) * 10000 / pages),
               eSeeded := true } :=
  if_pos h

theorem Cartridge.learnCoverage_of_not_samples (h : ¬ c.samples minSample pages = true) :
    c.learnCoverage minSample k pages = c :=
  if_neg h

/-- The coverage update leaves the rest of the record. -/
theorem Cartridge.learnCoverage_frame (c : Cartridge) (minSample k pages : Nat) :
    c.learnCoverage minSample k pages =
      { c with coverage := (c.learnCoverage minSample k pages).coverage,
               eSeeded := (c.learnCoverage minSample k pages).eSeeded } := by
  by_cases h : c.samples minSample pages = true
  · simp only [learnCoverage_of_samples h]
  · simp only [learnCoverage_of_not_samples h]

theorem Cartridge.learnCoverage_coverage_le (hk : k ≤ 16) (hc : c.coverage ≤ 65535) :
    (c.learnCoverage minSample k pages).coverage ≤ 65535 := by
  by_cases h : c.samples minSample pages = true
  · rw [learnCoverage_of_samples h]
    dsimp only
    split
    · exact smooth_le hk hc (Nat.min_le_left _ _)
    · exact Nat.min_le_left _ _
  · rwa [learnCoverage_of_not_samples h]

theorem Cartridge.learnRate_pageRate_le {days : Nat} (hk : k ≤ 16) (hpages : pages ≤ 65535) (hc : c.pageRate ≤ 65535) :
    (c.learnRate k days pages).pageRate ≤ 65535 := by
  have hrate : pages / days ≤ 65535 := Nat.le_trans (Nat.div_le_self _ _) hpages
  simp only [Cartridge.learnRate]
  split
  · exact smooth_le hk hc hrate
  · exact hrate

/-! ### The WANTED test (R58) -/

theorem State.wantedCondition_iff {s : State} :
    s.wantedCondition c = true ↔
      c.level ≤ s.params.floorLevel ∨ ∃ ty ∈ s.stock.types.get? c.type, c.forecast ≤ ty.lead + ty.margin := by
  simp [State.wantedCondition, Option.any_eq_true, or_comm]

/-- The test sets the mark or leaves it, and leaves the rest of the record. -/
theorem State.testWanted_eq (s : State) (c : Cartridge) :
    s.testWanted c = { c with wanted := c.wanted || s.wantedCondition c } := by
  cases h : c.wanted with
  | true => rw [State.testWanted, if_pos h, Bool.true_or, ← h]
  | false => rw [State.testWanted, if_neg (ne_true_of_eq_false h), Bool.false_or]

/-! ### The record the sweep leaves (R57) -/

/-- The forecast of a cartridge's sweep, from its level and the two averages as the sweep leaves them (R57). -/
def State.sweptForecast (s : State) (pages : Nat) (c : Cartridge) : Nat :=
  forecastDays c.level (c.learnCoverage s.params.minSample s.params.smoothE pages).coverage
    (c.learnRate s.params.smoothQ s.time.span pages).pageRate

/-- The record the sweep of a cartridge leaves, field by field. -/
theorem State.sweepCartridge_eq (s : State) (pages : Nat) (c : Cartridge) :
    s.sweepCartridge pages c =
      { c with
        dayStart := c.level
        void := false
        coverage := (c.learnCoverage s.params.minSample s.params.smoothE pages).coverage
        eSeeded := (c.learnCoverage s.params.minSample s.params.smoothE pages).eSeeded
        pageRate := (c.learnRate s.params.smoothQ s.time.span pages).pageRate
        qSeeded := true
        forecast := s.sweptForecast pages c
        wanted := c.wanted || s.wantedCondition { c with forecast := s.sweptForecast pages c } } := by
  rw [State.sweepCartridge, Cartridge.learnCoverage_frame, State.testWanted_eq]
  rfl

/-- Settles O21: each clause is a field of the record the sweep leaves. -/
theorem sweepLearnsCoverageAndRate : Obligations.SweepLearnsCoverageAndRate := by
  intro s pages c
  dsimp only
  rw [State.sweepCartridge_eq, ← Cartridge.samples_iff]
  refine ⟨fun h => ?sampled, fun h => ?unsampled, rfl, rfl, rfl, rfl, rfl, rfl, rfl, rfl, ?wanted,
    Cartridge.learnCoverage_coverage_le, Cartridge.learnRate_pageRate_le⟩
  case sampled =>
    rw [Cartridge.learnCoverage_of_samples h]
    exact ⟨rfl, rfl⟩
  case unsampled =>
    rw [Cartridge.learnCoverage_of_not_samples h]
    exact ⟨rfl, rfl⟩
  case wanted =>
    rw [Bool.or_eq_true, State.wantedCondition_iff]

end Sys2Proof.Machine
end

section
/-!
PROOFS. ACCOUNT_ADJUST (R84, R95): the clamped balance, the exhausted flag, and the answer to the request.
-/

namespace Sys2Proof.Machine

variable {s : State} {p : Payload} {a : Account}

/-! ### The balance and the flag -/

/-- The clamp as the manual's range test: below the range, above it, within it. -/
theorem clampBalance_eq_ite (x : Int) :
    clampBalance x = if x < -100000 then -100000 else if 2000000 < x then 2000000 else x := by
  unfold clampBalance Config.balanceMin Config.balanceMax
  omega

/-- The flag stays set exactly if the account available has not risen to above 0 (R95). -/
theorem keepExhausted_iff {before after : Int} {flag : Bool} :
    keepExhausted before after flag = true ↔ flag = true ∧ ¬ (before < after ∧ 0 < after) := by
  simp only [keepExhausted, Bool.and_eq_true, Bool.not_eq_true', Bool.and_eq_false_iff, decide_eq_false_iff_not,
    Classical.not_and_iff_not_or_not]

theorem State.rebalanced_exhausted_iff {b : Int} :
    (s.rebalanced b a).exhausted = true ↔ a.exhausted = true ∧
      ¬ (s.accountAvailable a < s.accountAvailable { a with balance := b } ∧ 0 < s.accountAvailable { a with balance := b }) :=
  keepExhausted_iff

/-! ### The request -/

theorem exec_accountAdjust_of_six (h : s.Receptive) (hp : p.length = 6) :
    exec (.accountAdjust p) s = .next (answer 0x34 (accountAdjust p s) s) := by
  rw [exec_accountAdjust h, within_of_le (by omega)]

theorem accountAdjust_of_vacant (hp : p.length = 6) (hn : s.bank.accounts.get? (u16 p 0) = none) :
    accountAdjust p s = refuse .notFound := by
  simp [accountAdjust, hp, hn]

theorem accountAdjust_of_get? {b : Int} (hp : p.length = 6) (ha : s.bank.accounts.get? (u16 p 0) = some a)
    (hb : clampBalance (a.balance + i32 p 2) = b) :
    accountAdjust p s =
      okay (updAccount (u16 p 0) (s.rebalanced b) s) (leInt 4 b ++ leInt 4 (a.balance + i32 p 2 - b)) := by
  simp [accountAdjust, hp, ha, hb]

/-- Settles O38: the answer by whether the number has an account; an account there is rebalanced and the others stay. -/
theorem accountAdjustClampsTheBalance : Obligations.AccountAdjustClampsTheBalance := by
  refine fun s p hs hp => ⟨fun hn => ?vacant, fun a ha => ?live⟩
  case vacant => rw [exec_accountAdjust_of_six hs hp, accountAdjust_of_vacant hp hn, answer_refuse]
  case live =>
    intro sum b available
    have hb : clampBalance (a.balance + i32 p 2) = b := clampBalance_eq_ite sum
    refine ⟨updAccount (u16 p 0) (s.rebalanced b) s, ?answered, rfl, fun m hm => ?others,
      s.rebalanced b a, ?adjusted, rfl, State.rebalanced_exhausted_iff⟩
    case answered => rw [exec_accountAdjust_of_six hs hp, accountAdjust_of_get? hp ha hb, answer_okay]
    case others => rw [updAccount_bank, Table.get?_modify_ne _ _ hm]
    case adjusted => rw [updAccount_bank, Table.get?_modify_self, ha]; rfl

end Sys2Proof.Machine
end

section
/-!
PROOFS. DISPATCH_TAKE (R105, R147): the first RELEASING job leaves the dispatch order and begins to print.
-/

namespace Sys2Proof.Machine

variable {s : State} {p : Payload}

/-! ### Job records -/

/-- Job numbers are unique, so a search by number finds the record that has it. -/
theorem State.jobAt_of_mem (hnd : (s.store.records.map Job.number).Nodup) {j : Job} (hj : j ∈ s.store.records) :
    s.jobAt j.number = some j := by
  cases h : s.jobAt j.number with
  | none => exact absurd (List.find?_eq_none.1 h j hj) (by simp)
  | some i =>
    have hnum : i.number = j.number := by simpa using List.find?_some h
    rw [List.inj_on_of_nodup_map hnd (List.mem_of_find?_eq_some h) hj hnum]

theorem Job.isReleasing_iff {j : Job} : j.isReleasing = true ↔ ∃ r, j.phase = .releasing r := by
  cases h : j.phase <;> simp [Job.isReleasing, h]

theorem startPrinting_of_releasing (now : Word) {j : Job} {r : ReleaseInfo} (h : j.phase = .releasing r) :
    startPrinting now j = { j with phase := .printing r now } := by
  simp only [startPrinting, h]

/-- Changing the job of a number changes the one record that has it. -/
theorem updJob_of_mem (hnd : (s.store.records.map Job.number).Nodup) {j : Job} (hj : j ∈ s.store.records) {f g : Job → Job}
    (hfg : f j = g j) : updJob j.number f s = { s with store := { s.store with
      records := s.store.records.map fun x => if x.number = j.number then g x else x } } := by
  have hmap : (s.store.records.map fun x => if x.number == j.number then f x else x)
      = s.store.records.map fun x => if x.number = j.number then g x else x :=
    List.map_congr_left fun x hx => by
      by_cases hnum : x.number = j.number
      · obtain rfl := List.inj_on_of_nodup_map hnd hx hj hnum
        simp [hfg]
      · simp [hnum]
  simp only [updJob, hmap]

/-! ### The request -/

theorem exec_dispatchTake_of_zero (h : s.Receptive) (hp : p.length = 0) :
    exec (.dispatchTake p) s = .next (answer 0x51 (dispatchTake p s) s) := by
  rw [exec_dispatchTake h, within_of_le (by omega)]

theorem dispatchTake_of_nil (hp : p.length = 0) (hd : s.release.dispatch = []) : dispatchTake p s = refuse .empty := by
  simp [dispatchTake, hp, hd]

theorem dispatchTake_of_cons {n : Nat} {rest : List Nat} {j : Job} {r : ReleaseInfo} (hp : p.length = 0)
    (hd : s.release.dispatch = n :: rest) (hj : s.jobAt n = some j) (hr : j.phase = .releasing r) :
    dispatchTake p s = okay (updJob n (startPrinting s.now) (undispatch n s)) (takePayload j r) := by
  simp [dispatchTake, hp, hd, hj, hr]

/-- The first job of the dispatch order leaves it. -/
theorem undispatch_of_cons {n : Nat} {rest : List Nat} (hd : s.release.dispatch = n :: rest) :
    undispatch n s = { s with release := { s.release with dispatch := rest } } := by
  simp only [undispatch, hd, List.erase_cons_head]

/-- Settles O51: an empty order is refused; the first job of an order has a RELEASING record, which is the one record changed. -/
theorem dispatchTakePrintsTheFirstJob : Obligations.DispatchTakePrintsTheFirstJob := by
  refine fun s p hs ⟨_, hnd, _, _, _, hdispatch, _⟩ hp => ⟨fun hd => ?empty, fun n rest hd => ?first⟩
  case empty => rw [exec_dispatchTake_of_zero hs hp, dispatchTake_of_nil hp hd, answer_refuse]
  case first =>
    obtain ⟨j, hj, rfl, hrel⟩ := hdispatch n (by simp [hd])
    obtain ⟨r, hr⟩ := Job.isReleasing_iff.1 hrel
    have hprint : startPrinting s.now j = { j with phase := .printing r s.now } := startPrinting_of_releasing s.now hr
    refine ⟨j, hj, r, by simp [hr, JobPhase.info?], rfl, ?_⟩
    rw [exec_dispatchTake_of_zero hs hp, dispatchTake_of_cons hp hd (State.jobAt_of_mem hnd hj) hr, answer_okay,
      updJob_of_mem (s := undispatch j.number s) (g := fun x => { x with phase := .printing r s.now }) hnd hj hprint,
      undispatch_of_cons hd]
    rfl

end Sys2Proof.Machine
end

section
/-!
PROOFS. The cause and mask words (R174 to R176): the bits of the cause word, the bits that a clean word leaves 0, and STATUS_READ,
STATUS_CLEAR, MASK_SET and ATTN by those bits.
-/

namespace Sys2Proof.Machine

variable {s : State} {p : Payload} {b : Nat}

/-! ### The bits of the words -/

theorem getLsbD_stickyBits (b : Nat) : stickyBits.getLsbD b = decide (b < 17) := Nat.testBit_two_pow_sub_one 17 b

theorem getLsbD_assignedBits (b : Nat) : assignedBits.getLsbD b = decide (b < 18) := Nat.testBit_two_pow_sub_one 18 b

theorem getLsbD_dispatchPendingBit (b : Nat) : dispatchPendingBit.getLsbD b = decide (b = 17) := by
  rw [show dispatchPendingBit = BitVec.twoPow 32 17 from rfl, BitVec.getLsbD_twoPow]
  simp [eq_comm]

/-- The sticky causes are below DISPATCH_PENDING (section 11.4). -/
theorem Cause.bit_lt_dispatchPending (c : Cause) : c.bit < 17 := by cases c <;> decide

/-- The cause word bit by bit: the sticky word's bits, and DISPATCH_PENDING's by the dispatch order (R174). -/
theorem State.getLsbD_causeWord (s : State) (b : Nat) :
    s.causeWord.getLsbD b = (s.port.sticky.getLsbD b || (decide (b = 17) && !s.release.dispatch.isEmpty)) := by
  unfold State.causeWord
  split
  case isTrue hempty => simp [hempty]
  case isFalse hjob => simp [hjob, getLsbD_dispatchPendingBit]

theorem State.getLsbD_causeWord_of_ne (s : State) (hb : b ≠ 17) : s.causeWord.getLsbD b = s.port.sticky.getLsbD b := by
  simp [State.getLsbD_causeWord, hb]

/-- A sticky cause is present in the cause word as in the sticky word. -/
theorem State.getLsbD_causeWord_bit (s : State) (c : Cause) : s.causeWord.getLsbD c.bit = s.hasCause c :=
  s.getLsbD_causeWord_of_ne (Nat.ne_of_lt c.bit_lt_dispatchPending)

/-- A word without bits outside a mask has no bit that the mask lacks. -/
theorem getLsbD_of_and_not_eq_zero {x m : Word} (h : x &&& ~~~m = 0) (hm : m.getLsbD b = false) : x.getLsbD b = false := by
  by_cases hb : b < 32
  · have hbit := BitVec.zero_iff_eq_false.1 h b
    rwa [BitVec.getLsbD_and, BitVec.getLsbD_not, hm, decide_eq_true hb, Bool.not_false, Bool.and_true, Bool.and_true] at hbit
  · exact BitVec.getLsbD_of_ge x b (Nat.le_of_not_lt hb)

theorem CauseWordClean.getLsbD_sticky (h : CauseWordClean s) (hb : 17 ≤ b) : s.port.sticky.getLsbD b = false :=
  getLsbD_of_and_not_eq_zero h.1 (by simpa [getLsbD_stickyBits] using hb)

theorem CauseWordClean.getLsbD_mask (h : CauseWordClean s) (hb : 18 ≤ b) : s.port.mask.getLsbD b = false :=
  getLsbD_of_and_not_eq_zero h.2 (by simpa [getLsbD_assignedBits] using hb)

/-- DISPATCH_PENDING is present while the dispatch order holds a job (R137, R174). -/
theorem CauseWordClean.getLsbD_causeWord_dispatchPending (h : CauseWordClean s) :
    s.causeWord.getLsbD 17 = !s.release.dispatch.isEmpty := by
  rw [State.getLsbD_causeWord, h.getLsbD_sticky (Nat.le_refl 17), decide_eq_true rfl, Bool.false_or, Bool.true_and]

/-! ### ATTN (R175) -/

theorem State.attn_of_not_inReset (h : s.inReset = false) : s.attn = (s.causeWord &&& s.port.mask != 0) := by
  simp only [State.attn, h, Bool.not_false, Bool.true_and]

/-- Two words have a bit in common exactly if their conjunction is not 0. -/
theorem and_ne_zero_iff_exists_getLsbD {x y : Word} : x &&& y ≠ 0 ↔ ∃ b, x.getLsbD b = true ∧ y.getLsbD b = true := by
  rw [ne_eq, BitVec.ofNat_eq_ofNat, BitVec.zero_iff_eq_false]
  simp only [BitVec.getLsbD_and, not_forall, Bool.not_eq_false, Bool.and_eq_true]

/-- With a clean mask the common bit is an assigned one. -/
theorem CauseWordClean.attn_iff (h : CauseWordClean s) (hr : s.inReset = false) :
    s.attn = true ↔ ∃ b ∈ List.range 18, s.causeWord.getLsbD b = true ∧ s.port.mask.getLsbD b = true := by
  rw [State.attn_of_not_inReset hr, bne_iff_ne, and_ne_zero_iff_exists_getLsbD]
  constructor
  · rintro ⟨b, hcause, hmask⟩
    have hb : b < 18 := by
      by_contra hge
      exact absurd (h.getLsbD_mask (Nat.le_of_not_lt hge)) (by simp [hmask])
    exact ⟨b, List.mem_range.2 hb, hcause, hmask⟩
  · rintro ⟨b, -, hbit⟩
    exact ⟨b, hbit⟩

/-! ### Clearing causes (R176) -/

/-- The state in which the sticky causes that a word names are cleared. -/
def State.clearing (w : Word) (s : State) : State := { s with port := { s.port with sticky := s.port.sticky &&& ~~~w } }

theorem State.getLsbD_clearing_sticky (w : Word) (s : State) (b : Nat) :
    (s.clearing w).port.sticky.getLsbD b = (s.port.sticky.getLsbD b && !w.getLsbD b) := by
  by_cases hb : b < 32
  · simp [State.clearing, hb]
  · simp [State.clearing, BitVec.getLsbD_of_ge _ b (Nat.le_of_not_lt hb)]

theorem State.hasCause_clearing (w : Word) (s : State) (c : Cause) :
    (s.clearing w).hasCause c = (s.hasCause c && !w.getLsbD c.bit) :=
  s.getLsbD_clearing_sticky w c.bit

/-- A clear brings no bit, so a clean word stays clean. -/
theorem CauseWordClean.clearing (h : CauseWordClean s) (w : Word) : CauseWordClean (s.clearing w) := by
  refine ⟨?_, h.2⟩
  show s.port.sticky &&& ~~~w &&& ~~~stickyBits = 0
  rw [BitVec.and_assoc, BitVec.and_comm (~~~w), ← BitVec.and_assoc, h.1]
  exact BitVec.zero_and

/-! ### The requests -/

theorem exec_statusRead_of_zero (h : s.Receptive) (hp : p.length = 0) :
    exec (.statusRead p) s = .next (answeredOk 0x02 (statusPayload s) s) := by
  rw [exec_statusRead h, within_of_le (by omega), statusRead, if_neg (not_not_intro hp), answer_okay]

theorem exec_statusClear_of_four (h : s.Receptive) (hp : p.length = 4) :
    exec (.statusClear p) s =
      .next (answeredOk 0x03 (statusPayload (s.clearing (word p 0))) (s.clearing (word p 0))) := by
  rw [exec_statusClear h, within_of_le (by omega), statusClear, if_neg (not_not_intro hp), answer_okay]
  rfl

theorem exec_maskSet_of_four (h : s.Receptive) (hp : p.length = 4) :
    exec (.maskSet p) s =
      .next (answeredOk 0x04 (le 4 (word p 0 &&& assignedBits).toNat ++ le 4 s.causeWord.toNat)
        { s with port := { s.port with mask := word p 0 &&& assignedBits } }) := by
  rw [exec_maskSet h, within_of_le (by omega), maskSet, if_neg (not_not_intro hp), answer_okay]
  rfl

/-- Settles O6: each request by its row, each claim about a word by the word's bits. -/
theorem statusAndMaskFollowTheCauses : Obligations.StatusAndMaskFollowTheCauses := by
  refine ⟨fun s p hs => ⟨fun hp => ?read, fun hp => ⟨?clear, fun c => ?cleared,
      fun hclean => ⟨?pending, fun b _ hb => ?unassigned⟩, ?attn⟩⟩,
    fun s hclean => ⟨fun p hs hp => ?mask, hclean.attn_iff, s.getLsbD_causeWord_bit, ?dispatch⟩⟩
  case read => exact exec_statusRead_of_zero hs hp
  case clear => exact exec_statusClear_of_four hs hp
  case cleared =>
    show (s.clearing (word p 0)).causeWord.getLsbD c.bit = _
    rw [State.getLsbD_causeWord_bit, State.hasCause_clearing, State.getLsbD_causeWord_bit]
  case pending =>
    exact (hclean.clearing (word p 0)).getLsbD_causeWord_dispatchPending.trans
      hclean.getLsbD_causeWord_dispatchPending.symm
  case unassigned =>
    show (s.clearing (word p 0)).causeWord.getLsbD b = false
    rw [State.getLsbD_causeWord_of_ne _ (Nat.ne_of_gt hb), (hclean.clearing (word p 0)).getLsbD_sticky (Nat.le_of_lt hb)]
  case attn => exact State.attn_of_not_inReset (s := s.clearing (word p 0)) hs.settled.1
  case mask => exact exec_maskSet_of_four hs hp
  case dispatch => rw [hclean.getLsbD_causeWord_dispatchPending, Bool.not_eq_true', List.isEmpty_eq_false_iff]

end Sys2Proof.Machine
end

section
/-!
PROOFS. COUNTERS_READ and COUNTERS_CLEAR (R178).
-/

namespace Sys2Proof.Machine

variable {s : State} {p : Payload}

theorem exec_countersRead_of_zero (h : s.Receptive) (hp : p.length = 0) :
    exec (.countersRead p) s = .next (answeredOk 0x07 (countersPayload s) s) := by
  rw [exec_countersRead h, within_of_le (by omega), countersRead, if_neg (not_not_intro hp), answer_okay]

theorem exec_countersClear_of_zero (h : s.Receptive) (hp : p.length = 0) :
    exec (.countersClear p) s =
      .next (answeredOk 0x08 (countersPayload s)
        { s with release := ⟨s.release.dispatch, #v[0, 0, 0, 0, 0, 0], 0, 0, 0⟩ }) := by
  rw [exec_countersClear h, within_of_le (by omega), countersClear, if_neg (not_not_intro hp), answer_okay]

/-- Settles O8: both answer with the nine counters of the state before; the clear leaves the dispatch order. -/
theorem countersAreReadAndCleared : Obligations.CountersAreReadAndCleared :=
  fun _ hs => ⟨exec_countersRead_of_zero hs rfl, exec_countersClear_of_zero hs rfl⟩

end Sys2Proof.Machine
end

section
/-!
PROOFS. The port while a request is being worked on (R169 to R172): what a frame does then, what a read returns, and the bytes on
MISO.
-/

namespace Sys2Proof.Machine

variable {s : State} {r : Response}

/-! ### Frames at the port -/

/-- A request reaches the port as an event of its own. -/
theorem exec_of_request {c : Instr} (hc : c.request?.isSome = true) :
    ∃ take : State → State, ∀ s, exec c s = .next (asEvent (atPort take) s) := by
  cases c <;> simp only [Instr.request?, Option.isSome_none, Bool.false_eq_true] at hc <;> exact ⟨_, fun _ => rfl⟩

/-- Whatever well-formed frame arrives, the port decides by READY whether to take it. -/
theorem exec_of_isFrame {c : Instr} (hc : c.isFrame = true) (hwf : c.wellFormed = true) :
    ∃ take : State → State, ∀ s, exec c s = .next (asEvent (atPort take) s) := by
  cases c with
  | unknownRequest code p =>
    obtain ⟨⟨hzero, hunknown⟩, -⟩ : (code ≠ 0 ∧ isRequestCode code = false) ∧ p.length ≤ Config.payloadMax := by
      simpa [Instr.wellFormed] using hwf
    exact ⟨_, fun s => congrArg Host.Outcome.next (if_neg (not_or.2 ⟨hzero, ne_true_of_eq_false hunknown⟩))⟩
  | malformedRequestFrame frame => exact ⟨_, fun s => congrArg Host.Outcome.next (if_pos hwf)⟩
  | earlyRequest frame => exact ⟨_, fun s => congrArg Host.Outcome.next (if_pos hwf)⟩
  | _ => exact exec_of_request hc

/-- A frame that arrives while a request is being worked on sets PORT_OVERRUN and does nothing else (R172). -/
theorem exec_frame_of_working {c : Instr} (hs : s.Settled) (hr : s.port.phase = .working r) (hc : c.isFrame = true)
    (hwf : c.wellFormed = true) : exec c s = .next (setCause .portOverrun s) := by
  obtain ⟨take, hexec⟩ := exec_of_isFrame hc hwf
  rw [hexec, asEvent_of_settled hs, atPort_of_working hr]

/-! ### The stored response and reads (R170, R171) -/

theorem exec_responseStored_of_working (hs : s.Settled) (hr : s.port.phase = .working r) :
    exec .responseStored s = .next { s with port := { s.port with phase := .ready r } } := by
  rw [exec_responseStored hs]
  simp only [storeResponse, hr]

theorem State.ready_of_working (hr : s.port.phase = .working r) : s.ready = false := by
  simp only [State.ready, hr]

theorem State.readTransaction_of_working (hs : s.inReset = false) (hr : s.port.phase = .working r) :
    s.readTransaction = some [0x06, r.code, 0] := by
  simp only [State.readTransaction, hs, hr, Bool.false_eq_true, if_false]
  rfl

theorem State.readTransaction_of_ready (hs : s.inReset = false) (hr : s.port.phase = .ready r) :
    s.readTransaction = some (r.status.code :: r.code :: BitVec.ofNat 8 r.payload.length :: r.payload) := by
  simp only [State.readTransaction, hs, hr, Bool.false_eq_true, if_false]

/-! ### MISO (R169, R171) -/

/-- The first bytes of a response, with 0x00 beyond its end. -/
theorem map_getD_range (l : List Byte) (n : Nat) :
    (List.range n).map (fun i => l.getD i 0) = (l ++ List.replicate n 0).take n := by
  refine List.ext_getElem (by simp) fun i hi _ => ?_
  have hin : i < n := by simpa using hi
  by_cases hl : i < l.length
  · simp [hl]
  · simp [hl, List.getElem_append]

/-- In a read transaction MISO carries 0x00 and then the response as far as it is clocked. -/
theorem State.miso_read {out : List Byte} (h : s.readTransaction = some out) (rest : List Byte) :
    s.miso (0 :: rest) = some (0 :: (out ++ List.replicate rest.length 0).take rest.length) := by
  simp only [State.miso, h, Option.map_some, if_true, map_getD_range]

/-- In a request transaction MISO carries 0x00 throughout. -/
theorem State.miso_request {out : List Byte} (h : s.readTransaction = some out) {b : Byte} (hb : b ≠ 0) (rest : List Byte) :
    s.miso (b :: rest) = some (0 :: List.replicate rest.length 0) := by
  simp only [State.miso, h, Option.map_some, hb, if_false, List.replicate_succ]

/-- Settles O9: a frame while READY is low is an overrun; storing the response ends the busy period; MISO follows the read. -/
theorem frameWhileBusySetsPortOverrun : Obligations.FrameWhileBusySetsPortOverrun := by
  refine ⟨fun s c r hs hr hc hwf => ⟨?overrun, ?busyRead, ?stored⟩, fun s r hs hr => ?storing⟩
  case overrun => exact exec_frame_of_working hs hr hc hwf
  case busyRead => exact State.readTransaction_of_working hs.1 hr
  case stored => exact exec_responseStored_of_working (s := setCause .portOverrun s) hs hr
  case storing =>
    intro t
    have hbusy : s.readTransaction = some [0x06, r.code, 0] := State.readTransaction_of_working hs.1 hr
    have hread : t.readTransaction = some (r.status.code :: r.code :: BitVec.ofNat 8 r.payload.length :: r.payload) :=
      State.readTransaction_of_ready hs.1 rfl
    refine ⟨exec_responseStored_of_working hs hr, State.ready_of_working hr, State.ready_iff.2 ⟨hs.1, r, rfl⟩, hbusy, hread,
      fun b rest => ⟨?_, fun hb => ?_⟩⟩
    · rintro rfl
      exact ⟨State.miso_read hbusy rest, State.miso_read hread rest⟩
    · exact ⟨State.miso_request hbusy hb rest, State.miso_request hread hb rest⟩

end Sys2Proof.Machine
end

section
/-!
PROOFS. All that a step can do: the parts a step is made of, one constructor for each piece of work of a row, with what the
checks of a request have found; and that a step is made of nothing else. An invariant is then one case analysis of `Move`.
-/

namespace Sys2Proof.Machine

/-- The parts of a step that touch one or two records at once and that no other lemma takes apart: changes of the model's own
records, of the port, the clocks and the line, and the work of the requests on accounts, groups, prices and jobs. -/
inductive Atom : State → State → Prop
  /-- the transaction state of the port (R170) -/
  | phase (s : State) (x : PortPhase) : Atom s { s with port := { s.port with phase := x } }
  | pins (s : State) (x : Pins) : Atom s { s with pins := x }
  | dropExchange (s : State) : Atom s { s with line := { s.line with exchange := none } }
  | freeCount (s : State) (n : Nat) : Atom s { s with freeCount := n }
  | reset (s : State) : Atom s (resetAll s)
  | clocks (s : State) (d : Nat) (r b : Word) :
      Atom s { s with time := { s.time with divider := d, runSeconds := r, building := b } }
  | linePeriod (s : State) : Atom s (linePeriod s)
  | calendarPoll (s : State) (a : Nat) (hr : s.line.regime ≠ .off) (hc : s.line.calendar[s.line.walk]? = some a) :
      Atom s (beginPoll a false s)
  | answerPoll (s : State) (a : Nat) (ha : s.line.answer = some a) : Atom s (beginPoll a true s)
  | statusClear (s : State) (w : Word) : Atom s { s with port := { s.port with sticky := s.port.sticky &&& ~~~w } }
  | maskSet (s : State) (w : Word) : Atom s { s with port := { s.port with mask := w &&& assignedBits } }
  | countersClear (s : State) :
      Atom s { s with release := ⟨s.release.dispatch, #v[0, 0, 0, 0, 0, 0], 0, 0, 0⟩ }
  | timeSet (s : State) (set : Bool) (n : Day) (b : Word) (m : TimeMode) :
      Atom s { s with time := { (if set then (setDay n { s.time with building := b }).1 else s.time) with divider := 0, mode := m } }
  | printerAdd (s : State) (q floor cls : Nat) (caps : Capabilities) (types : List Nat) (hq : q ≤ 255) (hf : floor ≤ 63)
      (hc : cls ≤ 7) (hl : types.length = 1 ∨ types.length = 4) (hcol : caps.colour = true → types.length = 4)
      (ht : ∀ t ∈ types, t ≤ 63) (hv : s.printers.get? q = none) :
      Atom s { s with printers := s.printers.put q (newPrinter s.now floor cls caps types) }
  | accountAdd (s : State) (p : Payload) (hn : u16 p 0 ≠ 0) (hg : byteAt p 6 ≤ 63)
      (hb : Config.balanceMin ≤ i32 p 10 ∧ i32 p 10 ≤ Config.balanceMax) (ha : u32 p 14 ≤ 2000000) (hc : u32 p 18 ≤ 2000000)
      (hv : s.bank.accounts.get? (u16 p 0) = none) (ht : s.tokenHolder (u16 p 0) (tokenField (word p 2)) = none)
      (hl : s.bank.accounts.length < Config.accountEntries) :
      Atom s { s with bank := { s.bank with accounts := s.bank.accounts.put (u16 p 0) (newAccount p) } }
  | accountSet (s : State) (p : Payload) (a : Account) (ha : s.bank.accounts.get? (u16 p 0) = some a) (hg : byteAt p 6 ≤ 63)
      (hal : u32 p 10 ≤ 2000000) (hc : u32 p 14 ≤ 2000000)
      (ht : s.tokenHolder (u16 p 0) (tokenField (word p 2)) = none)
      (hbusy : byteAt p 6 = a.group ∨ s.inflightOf (u16 p 0) = 0)
      (hrole : ¬ (a.role = .user ∧ byteAt p 7 = 1 ∧ (s.jobsOf (u16 p 0)).length ≠ 0)) (h1 : byteAt p 7 ≤ 1) :
      Atom s (updAccount (u16 p 0) (Account.set p) s)
  | accountAdjust (s : State) (n : Nat) (v : Int) (a : Account) (ha : s.bank.accounts.get? n = some a) :
      Atom s (updAccount n (s.rebalanced (clampBalance v)) s)
  | accountRetire (s : State) (n : Nat) (a : Account) (ha : s.bank.accounts.get? n = some a) (hi : s.inflightOf n = 0) :
      Atom s (removeAccount n (retireJobs (s.heldOf n) s))
  | groupSet (s : State) (p : Payload) (pool : Nat) (change : Int) (hn : byteAt p 0 ≤ 63)
      (hp : poolAfter (byteAt p 1) (i32 p 2) (s.groupAt (byteAt p 0)).pool = some pool) (ha : u32 p 6 ≤ Config.poolMax)
      (hc : u32 p 10 ≤ Config.poolMax) (ho : u32 p 14 ≤ Config.overdraftMax) (hper : 1 ≤ byteAt p 18 ∧ byteAt p 18 ≤ 31)
      (hph : byteAt p 19 < byteAt p 18) :
      Atom s (refreshMembers (byteAt p 0) change (updGroup (byteAt p 0) (BudgetGroup.set p pool) s))
  | priceSet (s : State) (c : Nat) (p : Payload) (hc : c ≤ 7) :
      Atom s { s with bank := { s.bank with prices := s.bank.prices.put c (pricesOf p) } }
  | jobSubmit (s : State) (p : Payload) (a : Account) (ha : s.bank.accounts.get? (u16 p 0) = some a) (hr : a.role = .user)
      (hlim : (s.jobsOf (u16 p 0)).length < s.params.jobLimit) (hfull : s.store.records.length < Config.jobEntries)
      (hpr : byteAt p 13 = 0 → (s.printers.get? (byteAt p 14)).isSome = true) :
      Atom s (storeJob (newJob p a.colour s) s)
  | jobCancel (s : State) (n : Nat) (j : Job) (hj : s.jobAt n = some j) (hp : ∀ r u, j.phase ≠ .printing r u) :
      Atom s (cancelJob j s)
  | stationSet (s : State) (a : Nat) (bound : Option Nat) (mode : AcceptMode) (redirect clear : Bool)
      (hb : ∀ q ∈ bound, (s.printers.get? q).isSome = true) : Atom s (updStation a (Station.set bound mode redirect clear) s)
  | calendarLoad (s : State) (total : Nat) (got : List Nat) (hg : got.length < total) (ht : total ≤ 256)
      (hs : ∀ a ∈ got, isStation a = true ∨ ∃ l ∈ s.line.loading, a ∈ l.2) :
      Atom s { s with line := { s.line with loading := some (total, got) } }
  | calendarInstall (s : State) (got : List Nat) (ht : got.length ≤ 256)
      (hs : ∀ a ∈ got, isStation a = true ∨ ∃ l ∈ s.line.loading, a ∈ l.2) : Atom s (installCalendar got s)
  | lineSet (s : State) (enable : Bool) (rate : LineRate) (w : Nat) (hw : 2 ≤ w ∧ w ≤ 50) :
      Atom s { s with line := s.line.apply s.now enable rate w }
  | dispatchTake (s : State) (n : Nat) (rest : List Nat) (j : Job) (r : ReleaseInfo) (hd : s.release.dispatch = n :: rest)
      (hj : s.jobAt n = some j) (hp : j.phase = .releasing r) : Atom s (updJob n (startPrinting s.now) (undispatch n s))

/-- What a command itself can do: an atom, a sweep step, the end of an exchange, or the work of an accepted request that several
blocks share. -/
inductive Deed : State → State → Prop
  | atom {s t : State} (h : Atom s t) : Deed s t
  /-- a sticky cause (R172) -/
  | overrun (s : State) : Deed s (setCause .portOverrun s)
  | sweepPrinter (s : State) (n : Nat) (h : s.time.sweep = some (.printers n)) : Deed s (sweepPrinterWalk n s)
  | sweepGroup (s : State) (n : Nat) (h : s.time.sweep.map (passedOver s) = some (.groups n)) : Deed s (sweepGroupWalk n s)
  | sweepAccount (s : State) (n : Nat) (h : s.time.sweep = some (.accounts n)) : Deed s (sweepAccountWalk n s)
  | sweepType (s : State) (n : Nat) (h : s.time.sweep.map (passedOver s) = some (.types n)) : Deed s (sweepTypeWalk n s)
  | exchangeEnd (s : State) (ex : Exchange) (v : Verdict) (h : s.line.exchange = some ex) : Deed s (endExchange ex v s)
  | paramSet (s : State) (i : ParamId) (v : Nat) (hv : i.admits v = true) : Deed s (storeParam i v s)
  | printerSet (s : State) (q floor cls : Nat) (caps : Capabilities) (types : List Nat) (clear : Bool) (pr : Printer)
      (hp : s.printers.get? q = some pr) (hf : floor ≤ 63) (hc : cls ≤ 7) (hl : types.length = pr.slots.length)
      (hcol : ¬ (caps.colour = true ∧ pr.slots.length = 1)) (ht : ∀ t ∈ types, t ≤ 63) :
      Deed s (applyPrinterSet q floor cls caps types clear s)
  | printerRetire (s : State) (q : Nat) (pr : Printer) (hp : s.printers.get? q = some pr) (hi : s.inflightCount q = 0) :
      Deed s (applyRetire q pr s)
  | statusReport (s : State) (q : Nat) (kinds levels : List Nat) (mono colour : Word) (pr : Printer)
      (hp : s.printers.get? q = some pr) (hl : levels.length = pr.slots.length) :
      Deed s (applyReport q pr kinds levels mono colour s)
  | ticketAck (s : State) (n : Nat) (k : Ticket) (hk : s.callout.tickets.get? n = some k) (hr : k.state ≠ .resolved) :
      Deed s (updTicket n (fun _ => k.acknowledge) s)
  | ticketClose (s : State) (n : Nat) (k : Ticket) (hk : s.callout.tickets.get? n = some k) (hr : k.state = .resolved) :
      Deed s (handOver (retireTicket n s))
  | cartridgeSwapped (s : State) (q i : Nat) (pr : Printer) (c : Cartridge) (hp : s.printers.get? q = some pr)
      (hc : pr.slots[i]? = some c) : Deed s (applySwapped q i s)
  | cartridgeSeed (s : State) (q i e r : Nat) (pr : Printer) (c : Cartridge) (hp : s.printers.get? q = some pr)
      (hc : pr.slots[i]? = some c) (he : e ≤ 65535) (hr : r ≤ 65535) : Deed s (applySeed q i e r s)
  | typeDefine (s : State) (t mode shelf reserve pack lead margin : Nat) (v : Int) (ht : t ≤ 63) (hr : reserve ≤ 15)
      (hp : 1 ≤ pack ∧ pack ≤ 16) (hl : 1 ≤ lead ∧ lead ≤ 60) (hm : margin ≤ 30)
      (hs : shelfAfter mode v (((s.stock.types.get? t).map fun o => o.shelf).getD 0) = some shelf) :
      Deed s (defineType t (setType (s.stock.types.get? t) shelf reserve pack lead margin) s).1
  | typeUndefine (s : State) (t : Nat) (hr : ∀ e ∈ s.stock.reqs, e.2.type ≠ t) :
      Deed s (calloutUpdate [] [t] { s with stock := { s.stock with types := s.stock.types.del t } })
  | reqConfirm (s : State) (n : Nat) (r : Requisition) (hr : s.stock.reqs.get? n = some r) (ho : r.confirmDay = none) :
      Deed s (reorder r.type (updReq n (fun r => { r with confirmDay := some s.time.day }) s)).1
  | reqReceive (s : State) (n q : Nat) (r : Requisition) (hr : s.stock.reqs.get? n = some r) (hq : 1 ≤ q) :
      Deed s (applyReceive n q r (((s.stock.types.get? r.type).map fun t => t.shelf).getD 0) s)
  | reqCancel (s : State) (n : Nat) (r : Requisition) (hr : s.stock.reqs.get? n = some r) :
      Deed s (servePending (reorderCheck r.type (updType r.type (fun t => { t with holdOff := true }) (retireReq n s))))
  | releaseRequest (s : State) (n q : Nat) (a : Account) (only : Option Nat) (ha : s.bank.accounts.get? n = some a)
      (hr : a.role = .user) : Deed s (releaseDecision n q false only s).1
  | jobDone (s : State) (n m : Nat) (requeue : Bool) (j : Job) (r : ReleaseInfo) (u : Word) (hj : s.jobAt n = some j)
      (hp : j.phase = .printing r u) : Deed s (completeJob j r m (s.actualCost j r m) requeue s)

/-- One part of a step: what a command does itself, or what belongs to the second event in progress. -/
inductive Move : State → State → Prop
  | deed {s t : State} (h : Deed s t) : Move s t
  | second (s : State) (w : SecondWork) : Move s { s with second := w }
  | timer (s : State) (u : Timer) : Move s (runTimer u s)
  | reconcile (s : State) (ps : List Nat) : Move s (reconcileAll ps s)

/-! ### Accepted requests -/

section Requests

variable {s t : State} {p q : Payload}

/-- A check that refuses: the reply is OK only past it. -/
theorem ite_error_eq_ok {c : Prop} [Decidable c] {r : Reject} {rep : Reply} {x : State × Payload} :
    (if c then .error r else rep) = .ok x ↔ ¬ c ∧ rep = .ok x := by
  split <;> simp [*]

theorem okay_eq_ok {u : State} {l : Payload} : okay u l = .ok (t, q) ↔ u = t ∧ l = q := by simp [okay]

theorem length_of_firstBad {ok : Nat → Bool} {l : List Nat} (h : firstBad ok l = none) : ∀ x ∈ l, ok x = true := by
  simpa [firstBad] using h

theorem length_listAt {i n : Nat} (h : i + n ≤ p.length) : (listAt p i n).length = n := by
  simp [listAt]; omega

theorem accountAdd_deed (h : accountAdd p s = .ok (t, q)) : Deed s t := by
  simp only [accountAdd, refuse, badField, existsAt, ite_error_eq_ok, not_or, not_lt, ne_eq, not_not] at h
  obtain ⟨-, hn, hg, -, -, hb, ha, hc, hv, h⟩ := h
  split at h
  · cases h
  · next ht =>
    simp only [ite_error_eq_ok, okay_eq_ok, not_le] at h
    obtain ⟨hl, rfl, -⟩ := h
    exact .atom <| .accountAdd s p hn hg hb ha hc (by simpa using hv) ht hl

theorem accountSet_deed (h : accountSet p s = .ok (t, q)) : Deed s t := by
  simp only [accountSet, refuse, badField, existsAt, ite_error_eq_ok, not_not, ne_eq] at h
  obtain ⟨-, h⟩ := h
  split at h
  · cases h
  · next a ha =>
    simp only [ite_error_eq_ok, not_lt] at h
    obtain ⟨hg, h1, -, hal, hc, h⟩ := h
    split at h
    · cases h
    · next ht =>
      simp only [ite_error_eq_ok, okay_eq_ok] at h
      obtain ⟨hb, hr, rfl, -⟩ := h
      exact .atom <| .accountSet s p a ha hg hal hc ht (by by_contra hx; exact hb (not_or.1 hx)) hr h1

/-- The requests that read answer OK with the state as it stands. -/
theorem read_of_okay {u : State} {l : Payload} (h : okay u l = .ok (t, q)) : t = u := ((okay_eq_ok).1 h).1.symm

theorem accountAdjust_deed (h : accountAdjust p s = .ok (t, q)) : Deed s t := by
  simp only [accountAdjust, refuse, ite_error_eq_ok] at h
  obtain ⟨-, h⟩ := h
  split at h
  · cases h
  · next a ha =>
    simp only [okay_eq_ok] at h
    obtain ⟨rfl, -⟩ := h
    exact .atom <| .accountAdjust s _ _ a ha

theorem accountRetire_deed (h : accountRetire p s = .ok (t, q)) : Deed s t := by
  simp only [accountRetire, refuse, ite_error_eq_ok] at h
  obtain ⟨-, h⟩ := h
  split at h
  · cases h
  · next a ha =>
    simp only [ite_error_eq_ok, okay_eq_ok, ne_eq, not_not] at h
    obtain ⟨hi, rfl, -⟩ := h
    exact .atom <| .accountRetire s _ a ha hi

theorem groupSet_deed (h : groupSet p s = .ok (t, q)) : Deed s t := by
  simp only [groupSet, refuse, badField, ite_error_eq_ok, not_lt] at h
  obtain ⟨-, hn, -, h⟩ := h
  split at h
  · cases h
  · next pool hp =>
    simp only [ite_error_eq_ok, okay_eq_ok, not_or, not_lt, not_le] at h
    obtain ⟨ha, hc, ho, hper, hph, rfl, -⟩ := h
    exact .atom <| .groupSet s p pool _ hn hp ha hc ho hper hph

theorem priceSet_deed (h : priceSet p s = .ok (t, q)) : Deed s t := by
  simp only [priceSet, refuse, badField, ite_error_eq_ok, okay_eq_ok, not_lt] at h
  obtain ⟨-, hc, rfl, -⟩ := h
  exact .atom <| .priceSet s _ p hc

theorem cartridgeSwapped_deed (h : cartridgeSwapped p s = .ok (t, q)) : Deed s t := by
  simp only [cartridgeSwapped, refuse, badField, ite_error_eq_ok] at h
  obtain ⟨-, h⟩ := h
  split at h
  · cases h
  · next pr hp =>
    split at h
    · cases h
    · next c hc =>
      simp only [okay_eq_ok] at h
      obtain ⟨rfl, -⟩ := h
      exact .cartridgeSwapped s _ _ pr c hp hc

theorem cartridgeSeed_deed (h : cartridgeSeed p s = .ok (t, q)) : Deed s t := by
  simp only [cartridgeSeed, refuse, badField, ite_error_eq_ok] at h
  obtain ⟨-, h⟩ := h
  split at h
  · cases h
  · next pr hp =>
    split at h
    · cases h
    · next c hc =>
      simp only [okay_eq_ok] at h
      obtain ⟨rfl, -⟩ := h
      exact .cartridgeSeed s _ _ _ _ pr c hp hc (Nat.le_of_lt_succ (u16_lt p 2)) (Nat.le_of_lt_succ (u16_lt p 4))

theorem jobSubmit_deed (h : jobSubmit p s = .ok (t, q)) : Deed s t := by
  simp only [jobSubmit, refuse, badField, ite_error_eq_ok] at h
  obtain ⟨-, -, -, -, -, -, -, h⟩ := h
  split at h
  · cases h
  · next a ha =>
    simp only [ite_error_eq_ok, okay_eq_ok, not_le] at h
    obtain ⟨hr, -, hlim, hfull, hpr, rfl, -⟩ := h
    refine .atom <| .jobSubmit s p a ha ?_ hlim hfull fun h0 => ?_
    · cases hrole : a.role with
      | user => rfl
      | service => exact absurd hrole hr
    · exact Option.isSome_iff_ne_none.2 fun hx => hpr ⟨h0, by simp [hx]⟩

theorem jobCancel_deed (h : jobCancel p s = .ok (t, q)) : Deed s t := by
  simp only [jobCancel, refuse, ite_error_eq_ok] at h
  obtain ⟨-, h⟩ := h
  split at h
  · cases h
  · next j hj =>
    split at h
    · cases h
    · next hp =>
      simp only [okay_eq_ok] at h
      obtain ⟨rfl, -⟩ := h
      exact .atom <| .jobCancel s _ j hj hp

theorem printerAdd_deed (h : printerAdd p s = .ok (t, q)) : Deed s t := by
  simp only [printerAdd, refuse, badField, ite_error_eq_ok, not_lt, ne_eq, not_not] at h
  obtain ⟨h5, hlen, hf, hc, hslots, hcol, h⟩ := h
  split at h
  · cases h
  · next hbad =>
    simp only [ite_error_eq_ok, okay_eq_ok] at h
    obtain ⟨hv, rfl, -⟩ := h
    have hl : (listAt p 5 (byteAt p 4)).length = byteAt p 4 := length_listAt (by omega)
    refine .atom <| .printerAdd s _ _ _ _ _ (Nat.le_of_lt_succ (byteAt_lt p 0)) hf hc (by rw [hl]; omega) (fun hcap => ?_)
      (fun x hx => by simpa using length_of_firstBad hbad x hx) (by simpa using hv)
    have : ¬ byteAt p 4 = 1 := fun h1 => hcol ⟨hcap, h1⟩
    rw [hl]; omega

theorem printerSet_deed (h : printerSet p s = .ok (t, q)) : Deed s t := by
  simp only [printerSet, refuse, ite_error_eq_ok, not_lt] at h
  obtain ⟨h5, h⟩ := h
  split at h
  · cases h
  · next pr hp =>
    simp only [ite_error_eq_ok, badField, not_lt, ne_eq, not_not] at h
    obtain ⟨hlen, hf, hc, hcol, h⟩ := h
    split at h
    · cases h
    · next hbad =>
      simp only [okay_eq_ok] at h
      obtain ⟨rfl, -⟩ := h
      exact .printerSet s _ _ _ _ _ _ pr hp hf hc (by rw [length_listAt (by omega)]; omega) hcol
        fun x hx => by simpa using length_of_firstBad hbad x hx

theorem printerRetire_deed (h : printerRetire p s = .ok (t, q)) : Deed s t := by
  simp only [printerRetire, refuse, ite_error_eq_ok] at h
  obtain ⟨-, h⟩ := h
  split at h
  · cases h
  · next pr hp =>
    simp only [ite_error_eq_ok, okay_eq_ok, ne_eq, not_not] at h
    obtain ⟨hi, rfl, -⟩ := h
    exact .printerRetire s _ pr hp hi

theorem statusReport_deed (h : statusReport p s = .ok (t, q)) : Deed s t := by
  simp only [statusReport, refuse, badField, ite_error_eq_ok, not_lt] at h
  obtain ⟨-, -, -, -, h⟩ := h
  split at h
  · cases h
  · next pr hp =>
    simp only [ite_error_eq_ok, ne_eq, not_not] at h
    obtain ⟨hl, h⟩ := h
    split at h
    · cases h
    · simp only [okay_eq_ok] at h
      obtain ⟨rfl, -⟩ := h
      exact .statusReport s _ _ _ _ _ pr hp (by simpa using hl)

theorem releaseRequest_deed (h : releaseRequest p s = .ok (t, q)) : Deed s t := by
  simp only [releaseRequest, refuse, notFound, ite_error_eq_ok] at h
  obtain ⟨-, h⟩ := h
  split at h
  · cases h
  · next a ha =>
    simp only [ite_error_eq_ok, okay_eq_ok] at h
    obtain ⟨hr, -, -, rfl, -⟩ := h
    refine .releaseRequest s _ _ a _ ha ?_
    cases hrole : a.role with
    | user => rfl
    | service => exact absurd hrole hr

theorem dispatchTake_deed (h : dispatchTake p s = .ok (t, q)) : Deed s t := by
  simp only [dispatchTake, refuse, ite_error_eq_ok] at h
  obtain ⟨-, h⟩ := h
  split at h
  · cases h
  · next n rest hd =>
    split at h
    · cases h
    · next j hj =>
      split at h
      · next r hr =>
        simp only [okay_eq_ok] at h
        obtain ⟨rfl, -⟩ := h
        exact .atom <| .dispatchTake s n rest j r hd hj hr
      · cases h

theorem jobDone_deed (h : jobDone p s = .ok (t, q)) : Deed s t := by
  simp only [jobDone, refuse, badField, ite_error_eq_ok] at h
  obtain ⟨-, -, h⟩ := h
  split at h
  · cases h
  · next j hj =>
    split at h
    · next r u hr =>
      simp only [okay_eq_ok] at h
      obtain ⟨rfl, -⟩ := h
      exact .jobDone s _ _ _ j r u hj hr
    · cases h

theorem paramSet_deed (h : paramSet p s = .ok (t, q)) : Deed s t := by
  simp only [paramSet, refuse, badField, ite_error_eq_ok] at h
  obtain ⟨-, h⟩ := h
  split at h
  · cases h
  · next i hi =>
    simp only [ite_error_eq_ok, okay_eq_ok] at h
    obtain ⟨hv, rfl, -⟩ := h
    exact .paramSet s i _ (by simpa using hv)

theorem statusClear_deed (h : statusClear p s = .ok (t, q)) : Deed s t := by
  simp only [statusClear, refuse, ite_error_eq_ok, okay_eq_ok] at h
  obtain ⟨-, rfl, -⟩ := h
  exact .atom <| .statusClear s _

theorem maskSet_deed (h : maskSet p s = .ok (t, q)) : Deed s t := by
  simp only [maskSet, refuse, ite_error_eq_ok, okay_eq_ok] at h
  obtain ⟨-, rfl, -⟩ := h
  exact .atom <| .maskSet s _

theorem countersClear_deed (h : countersClear p s = .ok (t, q)) : Deed s t := by
  simp only [countersClear, refuse, ite_error_eq_ok, okay_eq_ok] at h
  obtain ⟨-, rfl, -⟩ := h
  exact .atom <| .countersClear s

theorem timeSet_deed (h : timeSet p s = .ok (t, q)) : Deed s t := by
  simp only [timeSet, refuse, badField, ite_error_eq_ok, okay_eq_ok] at h
  obtain ⟨-, -, rfl, -⟩ := h
  have hm := Deed.atom <| Atom.timeSet s (flagAt p 1) (BitVec.ofNat 16 (u16 p 6)) (word p 2) (timeModeOf (byteAt p 0))
  cases hf : flagAt p 1 <;> simpa [hf] using hm

theorem stationSet_deed (h : stationSet p s = .ok (t, q)) : Deed s t := by
  simp only [stationSet, refuse, badField, ite_error_eq_ok] at h
  obtain ⟨-, -, h⟩ := h
  split at h
  · cases h
  · next mode hm =>
    simp only [ite_error_eq_ok, okay_eq_ok] at h
    obtain ⟨hb, rfl, -⟩ := h
    refine .atom <| .stationSet s _ _ mode _ _ fun x hx => ?_
    split at hx
    · next hflag =>
      obtain rfl := Option.some.inj hx
      exact Option.isSome_iff_ne_none.2 fun hn => hb ⟨hflag, by simp [hn]⟩
    · cases hx

theorem loadPiece_deed {total : Nat} {got : List Nat} (hg : got.length ≤ total) (ht : total ≤ 256)
    (hs : ∀ a ∈ got, isStation a = true ∨ ∃ l ∈ s.line.loading, a ∈ l.2) (h : loadPiece total got s = .ok (t, q)) : Deed s t := by
  simp only [loadPiece, okay_eq_ok] at h
  obtain ⟨rfl, -⟩ := h
  split
  · exact .atom <| .calendarInstall s got (by omega) hs
  · next hne => exact .atom <| .calendarLoad s total got (by omega) ht hs

theorem calendarSet_deed (h : calendarSet p s = .ok (t, q)) : Deed s t := by
  simp only [calendarSet, refuse, badField, ite_error_eq_ok, not_lt] at h
  obtain ⟨-, ht, h⟩ := h
  split at h
  · cases h
  · next hbad =>
    have hok := length_of_firstBad hbad
    simp only [ite_error_eq_ok, not_lt] at h
    obtain ⟨hlen, h⟩ := h
    split at h
    · exact loadPiece_deed (by omega) ht (fun a ha => .inl (hok a ha)) h
    · split at h
      · cases h
      · next got hgot =>
        unfold Line.continued at hgot
        split at hgot
        · cases hgot
        · next u l hl =>
          simp only [Option.ite_none_right_eq_some, Option.some.injEq] at hgot
          obtain ⟨⟨-, hfirst⟩, rfl⟩ := hgot
          refine loadPiece_deed (by rw [List.length_append]; omega) ht (fun a ha => ?_) h
          obtain ha | ha := List.mem_append.1 ha
          · exact .inr ⟨_, hl, ha⟩
          · exact .inl (hok a ha)

/-- LINE_SET with the apply flag clear only reports. -/
theorem lineSet_deed (h : lineSet p s = .ok (t, q)) : t = s ∨ Deed s t := by
  simp only [lineSet, refuse, ite_error_eq_ok] at h
  obtain ⟨-, h⟩ := h
  split at h
  · exact .inl (read_of_okay h)
  · split at h
    · cases h
    · next rate hr =>
      simp only [badField, ite_error_eq_ok, okay_eq_ok, not_or, not_lt] at h
      obtain ⟨hw, rfl, -⟩ := h
      exact .inr (.atom <| .lineSet s _ rate _ hw)

/-- TYPE_SET that undefines an undefined type only answers. -/
theorem typeSet_deed (h : typeSet p s = .ok (t, q)) : t = s ∨ Deed s t := by
  simp only [typeSet, refuse, badField, ite_error_eq_ok, not_lt] at h
  obtain ⟨-, ht, h⟩ := h
  split at h
  · simp only [undefineType, refuse, ite_error_eq_ok] at h
    obtain ⟨hr, h⟩ := h
    split at h
    · exact .inl (read_of_okay h)
    · simp only [okay_eq_ok] at h
      obtain ⟨rfl, -⟩ := h
      exact .inr (.typeUndefine s _ (by simpa using hr))
  · simp only [ite_error_eq_ok, not_lt, not_or] at h
    obtain ⟨hres, hpack, hlead, hmargin, -, h⟩ := h
    split at h
    · cases h
    · next shelf hs =>
      simp only [okay_eq_ok] at h
      obtain ⟨rfl, -⟩ := h
      exact .inr (.typeDefine s _ _ shelf _ _ _ _ _ ht hres hpack hlead hmargin hs)

theorem reqConfirm_deed (h : reqConfirm p s = .ok (t, q)) : Deed s t := by
  simp only [reqConfirm, refuse, ite_error_eq_ok] at h
  obtain ⟨-, h⟩ := h
  split at h
  · cases h
  · next r hr =>
    simp only [ite_error_eq_ok, okay_eq_ok] at h
    obtain ⟨ho, rfl, -⟩ := h
    exact .reqConfirm s _ r hr (by simpa using ho)

theorem reqReceive_deed (h : reqReceive p s = .ok (t, q)) : Deed s t := by
  simp only [reqReceive, refuse, badField, ite_error_eq_ok] at h
  obtain ⟨-, hq, h⟩ := h
  split at h
  · cases h
  · next r hr =>
    simp only [okay_eq_ok] at h
    obtain ⟨rfl, -⟩ := h
    exact .reqReceive s _ _ r hr (by omega)

theorem reqCancel_deed (h : reqCancel p s = .ok (t, q)) : Deed s t := by
  simp only [reqCancel, refuse, ite_error_eq_ok] at h
  obtain ⟨-, h⟩ := h
  split at h
  · cases h
  · next r hr =>
    simp only [okay_eq_ok] at h
    obtain ⟨rfl, -⟩ := h
    exact .reqCancel s _ r hr

theorem ticketAck_deed (h : ticketAck p s = .ok (t, q)) : Deed s t := by
  simp only [ticketAck, refuse, ite_error_eq_ok] at h
  obtain ⟨-, h⟩ := h
  split at h
  · cases h
  · next k hk =>
    simp only [ite_error_eq_ok, okay_eq_ok] at h
    obtain ⟨hr, rfl, -⟩ := h
    exact .ticketAck s _ k hk hr

theorem ticketClose_deed (h : ticketClose p s = .ok (t, q)) : Deed s t := by
  simp only [ticketClose, refuse, ite_error_eq_ok] at h
  obtain ⟨-, h⟩ := h
  split at h
  · cases h
  · next k hk =>
    simp only [ite_error_eq_ok, okay_eq_ok, ne_eq, not_not] at h
    obtain ⟨hr, rfl, -⟩ := h
    exact .ticketClose s _ k hk hr

/-- JOB_READ and JOB_NEXT_OF advance at most the counter of the free values. -/
theorem okayJob_deed {j : Job} (h : okayJob s j = .ok (t, q)) : t = s ∨ Deed s t := by
  simp only [okayJob, okay_eq_ok] at h
  obtain ⟨rfl, -⟩ := h
  split
  · exact .inr (.atom <| .freeCount s _)
  · exact .inl rfl

theorem jobRead_deed (h : jobRead p s = .ok (t, q)) : t = s ∨ Deed s t := by
  simp only [jobRead, refuse, ite_error_eq_ok] at h
  obtain ⟨-, h⟩ := h
  split at h
  · cases h
  · exact okayJob_deed h

theorem jobNextOf_deed (h : jobNextOf p s = .ok (t, q)) : t = s ∨ Deed s t := by
  simp only [jobNextOf, refuse, notFound, ite_error_eq_ok] at h
  obtain ⟨-, -, h⟩ := h
  split at h
  · cases h
  · cases h
  · exact okayJob_deed h

/-! ### Reading requests -/

theorem statusRead_ok (h : statusRead p s = .ok (t, q)) : t = s := by
  simp only [statusRead, refuse, ite_error_eq_ok] at h
  exact read_of_okay h.2

theorem paramRead_ok (h : paramRead p s = .ok (t, q)) : t = s := by
  simp only [paramRead, refuse, ite_error_eq_ok] at h
  obtain ⟨-, h⟩ := h
  split at h
  · cases h
  · exact read_of_okay h

theorem countersRead_ok (h : countersRead p s = .ok (t, q)) : t = s := by
  simp only [countersRead, refuse, ite_error_eq_ok] at h
  exact read_of_okay h.2

theorem timeRead_ok (h : timeRead p s = .ok (t, q)) : t = s := by
  simp only [timeRead, refuse, ite_error_eq_ok] at h
  exact read_of_okay h.2

theorem printerRead_ok (h : printerRead p s = .ok (t, q)) : t = s := by
  simp only [printerRead, refuse, ite_error_eq_ok] at h
  obtain ⟨-, h⟩ := h
  split at h
  · cases h
  · exact read_of_okay h

theorem ticketRead_ok (h : ticketRead p s = .ok (t, q)) : t = s := by
  simp only [ticketRead, refuse, ite_error_eq_ok] at h
  obtain ⟨-, h⟩ := h
  split at h
  · cases h
  · exact read_of_okay h

theorem ticketNext_ok (h : ticketNext p s = .ok (t, q)) : t = s := by
  simp only [ticketNext, refuse, ite_error_eq_ok] at h
  obtain ⟨-, h⟩ := h
  split at h
  · cases h
  · exact read_of_okay h

theorem cartridgeRead_ok (h : cartridgeRead p s = .ok (t, q)) : t = s := by
  simp only [cartridgeRead, refuse, ite_error_eq_ok] at h
  obtain ⟨-, h⟩ := h
  split at h
  · cases h
  · exact read_of_okay h

theorem typeRead_ok (h : typeRead p s = .ok (t, q)) : t = s := by
  simp only [typeRead, refuse, badField, ite_error_eq_ok] at h
  exact read_of_okay h.2.2

theorem reqRead_ok (h : reqRead p s = .ok (t, q)) : t = s := by
  simp only [reqRead, refuse, ite_error_eq_ok] at h
  obtain ⟨-, h⟩ := h
  split at h
  · cases h
  · exact read_of_okay h

theorem reqNext_ok (h : reqNext p s = .ok (t, q)) : t = s := by
  simp only [reqNext, refuse, ite_error_eq_ok] at h
  obtain ⟨-, h⟩ := h
  split at h
  · cases h
  · exact read_of_okay h

theorem accountRead_ok (h : accountRead p s = .ok (t, q)) : t = s := by
  simp only [accountRead, refuse, ite_error_eq_ok] at h
  obtain ⟨-, h⟩ := h
  split at h
  · cases h
  · exact read_of_okay h

theorem accountFindBadge_ok (h : accountFindBadge p s = .ok (t, q)) : t = s := by
  simp only [accountFindBadge, refuse, badField, ite_error_eq_ok] at h
  obtain ⟨-, -, h⟩ := h
  split at h
  · cases h
  · exact read_of_okay h

theorem groupRead_ok (h : groupRead p s = .ok (t, q)) : t = s := by
  simp only [groupRead, refuse, badField, ite_error_eq_ok] at h
  exact read_of_okay h.2.2

theorem stationRead_ok (h : stationRead p s = .ok (t, q)) : t = s := by
  simp only [stationRead, refuse, badField, ite_error_eq_ok] at h
  exact read_of_okay h.2.2

end Requests

/-! ### What a command does -/

/-- What a command does itself once the second event in progress is over: nothing, one deed and what becomes of the port's
transaction, the begin of a second event, or one period of the clock. -/
inductive Effect : State → State → Prop
  | none (s : State) : Effect s s
  | deed {s t : State} (h : Deed s t) : Effect s t
  | answered {s v : State} (h : v = s ∨ Deed s v) (x : PortPhase) : Effect s { v with port := { v.port with phase := x } }
  | second (s : State) : Effect s (beginSecond s)
  | period (s : State) : Effect s (clockPeriod s)

/-- What the execution of a command does: nothing, a timer's row, a change of the reset sources, or, outside a reset hold, the end
of the second event in progress and then its own effect. -/
inductive Event : State → State → Prop
  | none (s : State) : Event s s
  | row (s : State) (u : Timer) : Event s (timerRow u s)
  | pins (s : State) (x : Pins) : Event s (setPins x s)
  | command {s t : State} (hr : s.inReset = false) (h : Effect (finishSecond s) t) : Event s t

section Events

variable {s t : State}

theorem answer_effect {code : Byte} {rep : Reply} (hb : ∀ t q, rep = .ok (t, q) → t = s ∨ Deed s t) :
    Effect s (answer code rep s) := by
  cases rep with
  | error r => exact .answered (.inl rfl) _
  | ok r => exact .answered (hb r.1 r.2 rfl) _

theorem atPort_effect {take : State → State} (ht : Effect s (take s)) : Effect s (atPort take s) := by
  unfold atPort
  split
  · exact .deed (.overrun s)
  · exact .none s
  · exact ht

theorem asEvent_event {f : State → State} (hf : ∀ u, Effect u (f u)) (s : State) : Event s (asEvent f s) := by
  unfold asEvent
  split
  · exact .none s
  · next hr => exact .command (by simpa using hr) (hf _)

theorem takeRequest_event {code : Byte} {body : Payload → State → Reply} {p : Payload}
    (hb : ∀ s t q, body p s = .ok (t, q) → t = s ∨ Deed s t) (s : State) : Event s (takeRequest code body p s) := by
  refine asEvent_event (fun u => atPort_effect (answer_effect fun t q h => ?_)) s
  split at h
  · cases h
  · exact hb u t q h

theorem calendarPollEffect_effect (s : State) : Effect s (calendarPollEffect s) := by
  unfold calendarPollEffect
  split
  · next h =>
    split
    · exact .none s
    · next a ha => exact .deed (.atom <| .calendarPoll s a h.1 ha)
  · exact .none s

theorem answerPollEffect_effect (s : State) : Effect s (answerPollEffect s) := by
  unfold answerPollEffect
  split
  · next a _ ha => exact .deed (.atom <| .answerPoll s a ha)
  · exact .none s

theorem endWith_effect (judge : Nat → Verdict) (s : State) : Effect s (endWith judge s) := by
  unfold endWith
  split
  · exact .none s
  · next ex h => exact .deed (.exchangeEnd s ex _ h)

theorem secondEventEffect_effect (s : State) : Effect s (secondEventEffect s) := by
  unfold secondEventEffect
  split
  · exact .second s
  · exact .none s

theorem storeResponse_effect (s : State) : Effect s (storeResponse s) := by
  unfold storeResponse
  split
  · exact .deed (.atom <| .phase s _)
  · exact .deed (.atom <| .phase s _)
  · exact .none s

theorem printerStepEffect_effect (s : State) : Effect s (printerStepEffect s) := by
  unfold printerStepEffect
  split
  · next n h => exact .deed (.sweepPrinter s n h)
  · exact .none s

theorem groupStepEffect_effect (s : State) : Effect s (groupStepEffect s) := by
  unfold groupStepEffect
  split
  · next n h => exact .deed (.sweepGroup s n h)
  · exact .none s

theorem accountStepEffect_effect (s : State) : Effect s (accountStepEffect s) := by
  unfold accountStepEffect
  split
  · next n h => exact .deed (.sweepAccount s n h)
  · exact .none s

theorem typeStepEffect_effect (s : State) : Effect s (typeStepEffect s) := by
  unfold typeStepEffect
  split
  · next n h => exact .deed (.sweepType s n h)
  · exact .none s

theorem exec_portReset_event (p : Payload) (s : State) : ∃ t, exec (.portReset p) s = .next t ∧ Event s t := by
  refine ⟨_, rfl, asEvent_event (fun u => atPort_effect ?_) s⟩
  split
  · exact .answered (.inr (.atom <| .reset u)) _
  · exact answer_effect fun _ _ h => by cases h

/-- Every command is executed as one event. -/
theorem exec_event (c : Instr) (s : State) : ∃ t, exec c s = .next t ∧ Event s t := by
  cases c with
  | statusRead p => exact ⟨_, rfl, takeRequest_event (fun _ _ _ h => .inl (statusRead_ok h)) s⟩
  | paramRead p => exact ⟨_, rfl, takeRequest_event (fun _ _ _ h => .inl (paramRead_ok h)) s⟩
  | countersRead p => exact ⟨_, rfl, takeRequest_event (fun _ _ _ h => .inl (countersRead_ok h)) s⟩
  | timeRead p => exact ⟨_, rfl, takeRequest_event (fun _ _ _ h => .inl (timeRead_ok h)) s⟩
  | printerRead p => exact ⟨_, rfl, takeRequest_event (fun _ _ _ h => .inl (printerRead_ok h)) s⟩
  | ticketRead p => exact ⟨_, rfl, takeRequest_event (fun _ _ _ h => .inl (ticketRead_ok h)) s⟩
  | ticketNext p => exact ⟨_, rfl, takeRequest_event (fun _ _ _ h => .inl (ticketNext_ok h)) s⟩
  | cartridgeRead p => exact ⟨_, rfl, takeRequest_event (fun _ _ _ h => .inl (cartridgeRead_ok h)) s⟩
  | typeRead p => exact ⟨_, rfl, takeRequest_event (fun _ _ _ h => .inl (typeRead_ok h)) s⟩
  | reqRead p => exact ⟨_, rfl, takeRequest_event (fun _ _ _ h => .inl (reqRead_ok h)) s⟩
  | reqNext p => exact ⟨_, rfl, takeRequest_event (fun _ _ _ h => .inl (reqNext_ok h)) s⟩
  | accountRead p => exact ⟨_, rfl, takeRequest_event (fun _ _ _ h => .inl (accountRead_ok h)) s⟩
  | accountFindBadge p => exact ⟨_, rfl, takeRequest_event (fun _ _ _ h => .inl (accountFindBadge_ok h)) s⟩
  | groupRead p => exact ⟨_, rfl, takeRequest_event (fun _ _ _ h => .inl (groupRead_ok h)) s⟩
  | stationRead p => exact ⟨_, rfl, takeRequest_event (fun _ _ _ h => .inl (stationRead_ok h)) s⟩
  | lineSet p => exact ⟨_, rfl, takeRequest_event (fun _ _ _ h => lineSet_deed h) s⟩
  | typeSet p => exact ⟨_, rfl, takeRequest_event (fun _ _ _ h => typeSet_deed h) s⟩
  | jobRead p => exact ⟨_, rfl, takeRequest_event (fun _ _ _ h => jobRead_deed h) s⟩
  | jobNextOf p => exact ⟨_, rfl, takeRequest_event (fun _ _ _ h => jobNextOf_deed h) s⟩
  | statusClear p => exact ⟨_, rfl, takeRequest_event (fun _ _ _ h => .inr (statusClear_deed h)) s⟩
  | maskSet p => exact ⟨_, rfl, takeRequest_event (fun _ _ _ h => .inr (maskSet_deed h)) s⟩
  | paramSet p => exact ⟨_, rfl, takeRequest_event (fun _ _ _ h => .inr (paramSet_deed h)) s⟩
  | countersClear p => exact ⟨_, rfl, takeRequest_event (fun _ _ _ h => .inr (countersClear_deed h)) s⟩
  | timeSet p => exact ⟨_, rfl, takeRequest_event (fun _ _ _ h => .inr (timeSet_deed h)) s⟩
  | printerAdd p => exact ⟨_, rfl, takeRequest_event (fun _ _ _ h => .inr (printerAdd_deed h)) s⟩
  | printerSet p => exact ⟨_, rfl, takeRequest_event (fun _ _ _ h => .inr (printerSet_deed h)) s⟩
  | printerRetire p => exact ⟨_, rfl, takeRequest_event (fun _ _ _ h => .inr (printerRetire_deed h)) s⟩
  | statusReport p => exact ⟨_, rfl, takeRequest_event (fun _ _ _ h => .inr (statusReport_deed h)) s⟩
  | ticketAck p => exact ⟨_, rfl, takeRequest_event (fun _ _ _ h => .inr (ticketAck_deed h)) s⟩
  | ticketClose p => exact ⟨_, rfl, takeRequest_event (fun _ _ _ h => .inr (ticketClose_deed h)) s⟩
  | cartridgeSwapped p => exact ⟨_, rfl, takeRequest_event (fun _ _ _ h => .inr (cartridgeSwapped_deed h)) s⟩
  | cartridgeSeed p => exact ⟨_, rfl, takeRequest_event (fun _ _ _ h => .inr (cartridgeSeed_deed h)) s⟩
  | reqConfirm p => exact ⟨_, rfl, takeRequest_event (fun _ _ _ h => .inr (reqConfirm_deed h)) s⟩
  | reqReceive p => exact ⟨_, rfl, takeRequest_event (fun _ _ _ h => .inr (reqReceive_deed h)) s⟩
  | reqCancel p => exact ⟨_, rfl, takeRequest_event (fun _ _ _ h => .inr (reqCancel_deed h)) s⟩
  | accountAdd p => exact ⟨_, rfl, takeRequest_event (fun _ _ _ h => .inr (accountAdd_deed h)) s⟩
  | accountSet p => exact ⟨_, rfl, takeRequest_event (fun _ _ _ h => .inr (accountSet_deed h)) s⟩
  | accountAdjust p => exact ⟨_, rfl, takeRequest_event (fun _ _ _ h => .inr (accountAdjust_deed h)) s⟩
  | accountRetire p => exact ⟨_, rfl, takeRequest_event (fun _ _ _ h => .inr (accountRetire_deed h)) s⟩
  | groupSet p => exact ⟨_, rfl, takeRequest_event (fun _ _ _ h => .inr (groupSet_deed h)) s⟩
  | priceSet p => exact ⟨_, rfl, takeRequest_event (fun _ _ _ h => .inr (priceSet_deed h)) s⟩
  | jobSubmit p => exact ⟨_, rfl, takeRequest_event (fun _ _ _ h => .inr (jobSubmit_deed h)) s⟩
  | jobCancel p => exact ⟨_, rfl, takeRequest_event (fun _ _ _ h => .inr (jobCancel_deed h)) s⟩
  | stationSet p => exact ⟨_, rfl, takeRequest_event (fun _ _ _ h => .inr (stationSet_deed h)) s⟩
  | calendarSet p => exact ⟨_, rfl, takeRequest_event (fun _ _ _ h => .inr (calendarSet_deed h)) s⟩
  | releaseRequest p => exact ⟨_, rfl, takeRequest_event (fun _ _ _ h => .inr (releaseRequest_deed h)) s⟩
  | dispatchTake p => exact ⟨_, rfl, takeRequest_event (fun _ _ _ h => .inr (dispatchTake_deed h)) s⟩
  | jobDone p => exact ⟨_, rfl, takeRequest_event (fun _ _ _ h => .inr (jobDone_deed h)) s⟩
  | dayBoundary => exact ⟨_, rfl, .row s _⟩
  | silenceExpiry => exact ⟨_, rfl, .row s _⟩
  | escalation => exact ⟨_, rfl, .row s _⟩
  | holdExpiry => exact ⟨_, rfl, .row s _⟩
  | takeTimeout => exact ⟨_, rfl, .row s _⟩
  | abandonment => exact ⟨_, rfl, .row s _⟩
  | quietTimeout => exact ⟨_, rfl, .row s _⟩
  | classTick n => exact ⟨_, rfl, .row s _⟩
  | portReset p => exact exec_portReset_event p s
  | unknownRequest code p =>
    refine ⟨_, rfl, ?_⟩
    split
    · exact .none s
    · exact takeRequest_event (fun _ _ _ h => by cases h) s
  | malformedRequestFrame frame =>
    refine ⟨_, rfl, ?_⟩
    split
    · exact asEvent_event (fun u => atPort_effect (answer_effect fun _ _ h => by cases h)) s
    · exact .none s
  | earlyRequest frame =>
    refine ⟨_, rfl, ?_⟩
    split
    · exact asEvent_event (fun u => atPort_effect (.none u)) s
    · exact .none s
  | rstAssert => exact ⟨_, rfl, .pins s _⟩
  | rstRelease => exact ⟨_, rfl, .pins s _⟩
  | supplyLow => exact ⟨_, rfl, .pins s _⟩
  | supplyRestored => exact ⟨_, rfl, .pins s _⟩
  | secondEvent => exact ⟨_, rfl, asEvent_event secondEventEffect_effect s⟩
  | sweepPrinterStep => exact ⟨_, rfl, asEvent_event printerStepEffect_effect s⟩
  | sweepGroupStep => exact ⟨_, rfl, asEvent_event groupStepEffect_effect s⟩
  | sweepAccountStep => exact ⟨_, rfl, asEvent_event accountStepEffect_effect s⟩
  | sweepTypeStep => exact ⟨_, rfl, asEvent_event typeStepEffect_effect s⟩
  | calendarPoll => exact ⟨_, rfl, asEvent_event calendarPollEffect_effect s⟩
  | answerPoll => exact ⟨_, rfl, asEvent_event answerPollEffect_effect s⟩
  | stationReply chars =>
    refine ⟨_, rfl, ?_⟩
    split
    · exact .none s
    · exact asEvent_event (endWith_effect _) s
  | miss => exact ⟨_, rfl, asEvent_event (endWith_effect _) s⟩
  | lateReply chars =>
    refine ⟨_, rfl, ?_⟩
    split
    · exact .none s
    · exact asEvent_event (endWith_effect _) s
  | responseStored => exact ⟨_, rfl, asEvent_event storeResponse_effect s⟩

/-- A step is one event, on the state without the command that it takes off the queue. -/
theorem step_event (h : step s = .next t) : ∃ l, Event { s with pending := l } t := by
  unfold step at h
  split at h
  · obtain rfl := Host.Outcome.next.inj h
    exact ⟨s.pending, asEvent_event Effect.period s⟩
  · next c rest _ =>
    obtain ⟨u, hu, he⟩ := exec_event c { s with pending := rest }
    obtain rfl := Host.Outcome.next.inj (hu.symm.trans h)
    exact ⟨rest, he⟩

end Events

/-! ### A step is made of moves -/

section Steps

variable {P : State → Prop} (hm : ∀ s t : State, Move s t → P s → P t) {s t : State}
include hm

theorem finishSecond_of_moves (hs : P s) : P (finishSecond s) :=
  finishSecond_induct (fun u s => hm _ _ (.timer s u)) (fun s w => hm _ _ (.second s w)) (fun ps s => hm _ _ (.reconcile s ps)) hs

theorem timerRow_of_moves (u : Timer) (hs : P s) : P (timerRow u s) :=
  timerRow_induct u (fun u s => hm _ _ (.timer s u)) (fun s w => hm _ _ (.second s w))
    (fun ps s => hm _ _ (.reconcile s ps)) hs

theorem deed_of_moves (h : Deed s t) (hs : P s) : P t := hm _ _ (.deed h) hs

theorem setPins_of_moves (x : Pins) (hs : P s) : P (setPins x s) := by
  have hd (u v : State) (h : Atom u v) : P u → P v := deed_of_moves hm (.atom h)
  unfold setPins
  split
  · exact hd _ _ (.reset s) hs
  · split
    · exact hd _ _ (.pins s x) hs
    · split
      · exact hd _ _ (.pins _ x) (hm _ _ (.second _ _) (hd _ _ (.dropExchange _) (hd _ _ (.phase s _) hs)))
      · exact hs

theorem beginSecond_of_moves (hs : P s) : P (beginSecond s) :=
  hm _ _ (.second _ _) (deed_of_moves hm (.atom <| .clocks s _ _ _) hs)

theorem clockPeriod_of_moves (hs : P s) : P (clockPeriod s) := by
  have h := deed_of_moves hm (.atom <| .linePeriod s) hs
  unfold clockPeriod dividerPeriod
  split
  · split
    · exact beginSecond_of_moves hm h
    · exact deed_of_moves hm (.atom <| .clocks _ _ _ _) h
  · exact h

theorem effect_of_moves (h : Effect s t) (hs : P s) : P t := by
  cases h with
  | none => exact hs
  | deed h => exact deed_of_moves hm h hs
  | answered h x =>
    refine deed_of_moves hm (.atom <| .phase _ x) ?_
    obtain rfl | h := h
    · exact hs
    · exact deed_of_moves hm h hs
  | second => exact beginSecond_of_moves hm hs
  | period => exact clockPeriod_of_moves hm hs

theorem event_of_moves (h : Event s t) (hs : P s) : P t := by
  cases h with
  | none => exact hs
  | row u => exact timerRow_of_moves hm u hs
  | pins x => exact setPins_of_moves hm x hs
  | command hr h => exact effect_of_moves hm h (finishSecond_of_moves hm hs)

/-- A property that every move keeps is kept by every command. -/
theorem exec_of_moves (c : Instr) (hs : P s) : ∃ t, exec c s = .next t ∧ P t := by
  obtain ⟨t, ht, he⟩ := exec_event c s
  exact ⟨t, ht, event_of_moves hm he hs⟩

/-- A property that every move keeps, and that does not read the queue, is kept by every step. -/
theorem step_of_moves (hq : ∀ (s : State) (l : List Instr), P s → P { s with pending := l }) (hs : P s) (h : step s = .next t) :
    P t := by
  obtain ⟨l, he⟩ := step_event h
  exact event_of_moves hm he (hq s l hs)

end Steps

/-! ### The queue -/

/-- Settles O1: the step's own equation at a queue that is not empty. -/
theorem stepRunsTheFrontCommand : Obligations.StepRunsTheFrontCommand := by
  intro s c rest h
  simp only [step, h]

end Sys2Proof.Machine
end

section
/-!
PROOFS. The fields of the state that the work of each accepted request and of each sweep step leaves as they were: one equation for
each, in which only the fields touched are the result's own.
-/

namespace Sys2Proof.Machine

/-- Two states with the same fields are the same. -/
theorem State.eq_of_fields {s t : State} (port : s.port = t.port) (pins : s.pins = t.pins) (time : s.time = t.time)
    (params : s.params = t.params) (printers : s.printers = t.printers) (callout : s.callout = t.callout)
    (stock : s.stock = t.stock) (bank : s.bank = t.bank) (store : s.store = t.store) (line : s.line = t.line)
    (release : s.release = t.release) (second : s.second = t.second) (freeCount : s.freeCount = t.freeCount)
    (pending : s.pending = t.pending) : s = t := by
  cases s; cases t; simp_all

variable (s : State)

theorem judgePrinter_frame (n : Nat) : judgePrinter s n = { s with printers := (judgePrinter s n).printers } := rfl

theorem applySeed_frame (q i e r : Nat) :
    applySeed q i e r s = { s with printers := (applySeed q i e r s).printers, stock := (applySeed q i e r s).stock,
                                   port := (applySeed q i e r s).port } := by
  apply State.eq_of_fields <;> simp [applySeed]

theorem applySwapped_frame (q i : Nat) :
    let t := applySwapped q i s
    t = { s with printers := t.printers, stock := t.stock, port := t.port, callout := t.callout, bank := t.bank,
                 store := t.store, release := t.release } := by
  apply State.eq_of_fields <;> simp [applySwapped]

theorem applyPrinterSet_frame (q floor cls : Nat) (caps : Capabilities) (types : List Nat) (clear : Bool) :
    let t := applyPrinterSet q floor cls caps types clear s
    t = { s with printers := t.printers, stock := t.stock, port := t.port, callout := t.callout, bank := t.bank,
                 store := t.store, release := t.release } := by
  apply State.eq_of_fields <;> simp [applyPrinterSet]

theorem applyReport_frame (q : Nat) (pr : Printer) (kinds levels : List Nat) (mono colour : Word) :
    let t := applyReport q pr kinds levels mono colour s
    t = { s with printers := t.printers, stock := t.stock, port := t.port, callout := t.callout, bank := t.bank,
                 store := t.store, release := t.release } := by
  apply State.eq_of_fields <;> simp

/-- A retirement by whether the printer has a ticket (R11). -/
theorem applyRetire_cases (q : Nat) (pr : Printer) :
    let marks := (pr.slots.filter fun c => c.wanted).map fun c => c.type
    let gone := { retargetJobs q pr.floor s with printers := s.printers.del q }
    (s.ticketOf q = none ∧ applyRetire q pr s = unbindStations q (reorderChecks marks gone))
    ∨ ∃ n k, s.ticketOf q = some (n, k)
        ∧ applyRetire q pr s = handOver (unbindStations q (reorderChecks marks (retireTicket n gone))) := by
  have ht : (retargetJobs q pr.floor s).ticketOf q = s.ticketOf q := rfl
  dsimp only [applyRetire]
  rw [ht]
  cases s.ticketOf q with
  | none => exact .inl ⟨rfl, rfl⟩
  | some e => exact .inr ⟨e.1, e.2, rfl, rfl⟩

theorem applyRetire_frame (q : Nat) (pr : Printer) :
    let t := applyRetire q pr s
    t = { s with printers := t.printers, stock := t.stock, port := t.port, callout := t.callout, store := t.store,
                 line := t.line } := by
  obtain ⟨-, h⟩ | ⟨n, k, -, h⟩ := applyRetire_cases s q pr <;> dsimp only at h ⊢ <;> rw [h] <;>
    apply State.eq_of_fields <;> simp

theorem defineType_frame (n : Nat) (ty : CartridgeType) :
    let t := (defineType n ty s).1
    t = { s with printers := t.printers, stock := t.stock, port := t.port, callout := t.callout } := by
  dsimp only [defineType]
  split <;> apply State.eq_of_fields <;> simp

theorem applyReceive_frame (n q : Nat) (r : Requisition) (shelf : Nat) :
    let t := applyReceive n q r shelf s
    t = { s with printers := t.printers, stock := t.stock, port := t.port, callout := t.callout } := by
  dsimp only [applyReceive]
  split <;> split <;> apply State.eq_of_fields <;> simp

theorem retireJobs_frame (ns : List Nat) : retireJobs ns s = { s with store := (retireJobs ns s).store } := by
  unfold retireJobs
  induction ns generalizing s with
  | nil => rfl
  | cons n ns ih => rw [List.foldl_cons, ih]; rfl

theorem cancelJob_frame (j : Job) :
    let t := cancelJob j s
    t = { s with bank := t.bank, store := t.store, release := t.release } := by
  dsimp only [cancelJob]
  split <;> apply State.eq_of_fields <;> simp

theorem completeJob_frame (j : Job) (r : ReleaseInfo) (n c : Nat) (requeue : Bool) :
    let t := completeJob j r n c requeue s
    t = { s with bank := t.bank, printers := t.printers, store := t.store, release := t.release } := by
  cases requeue <;> apply State.eq_of_fields <;> simp [completeJob, countCompletion]

theorem sweepPrinterWalk_frame (n : Nat) :
    let t := sweepPrinterWalk n s
    t = { s with time := { s.time with sweep := t.time.sweep }, printers := t.printers, stock := t.stock, port := t.port } := by
  dsimp only [sweepPrinterWalk]
  split <;> apply State.eq_of_fields <;> simp [setWalk]

theorem sweepGroupWalk_frame (n : Nat) :
    let t := sweepGroupWalk n s
    t = { s with time := { s.time with sweep := t.time.sweep }, bank := t.bank } := rfl

theorem sweepAccountWalk_frame (n : Nat) :
    let t := sweepAccountWalk n s
    t = { s with time := { s.time with sweep := t.time.sweep }, bank := t.bank } := by
  dsimp only [sweepAccountWalk]
  split <;> rfl

theorem sweepTypeWalk_frame (n : Nat) :
    let t := sweepTypeWalk n s
    t = { s with time := t.time, stock := t.stock, port := t.port } := by
  dsimp only [sweepTypeWalk]
  split <;> apply State.eq_of_fields <;> simp [setWalk]

/-! ### The queue -/

theorem Atom.pending_eq {s t : State} (h : Atom s t) : t.pending = s.pending := by
  cases h with
  | accountRetire => rw [removeAccount_pending, retireJobs_frame]
  | jobCancel => rw [cancelJob_frame]
  | _ => rfl

theorem Deed.pending_eq {s t : State} (h : Deed s t) : t.pending = s.pending := by
  cases h with
  | atom h => exact h.pending_eq
  | exchangeEnd | paramSet | statusReport | ticketClose | typeUndefine | reqConfirm | reqCancel | releaseRequest => simp
  | sweepPrinter => rw [sweepPrinterWalk_frame]
  | sweepAccount => rw [sweepAccountWalk_frame]
  | sweepType => rw [sweepTypeWalk_frame]
  | printerSet => rw [applyPrinterSet_frame]
  | printerRetire => rw [applyRetire_frame]
  | cartridgeSwapped => rw [applySwapped_frame]
  | cartridgeSeed => rw [applySeed_frame]
  | typeDefine => rw [defineType_frame]
  | reqReceive => rw [applyReceive_frame]
  | jobDone => rw [completeJob_frame]
  | _ => rfl

theorem Move.pending_eq {s t : State} (h : Move s t) : t.pending = s.pending := by
  cases h with
  | deed h => exact h.pending_eq
  | timer | reconcile => simp
  | second => rfl

/-- Settles O2: a command is made of moves, and no move touches the queue. -/
theorem everyCommandCompletesAndKeepsTheQueue : Obligations.EveryCommandCompletesAndKeepsTheQueue :=
  fun s c => exec_of_moves (P := fun t => t.pending = s.pending) (fun _ _ h hp => h.pending_eq.trans hp) c rfl

end Sys2Proof.Machine
end

section
/-!
PROOFS. The parts of a move: the updates of single records that the shared operations are made of, and that every move is an atom or
made of such parts. A property that does not read the contents of printers and tickets is an invariant once every atom and every part
keeps it.
-/

namespace Sys2Proof.Machine

/-! ### Tables seen through a function of their records -/

namespace Table

variable {α β γ : Type}

/-- A table with a function applied to its records. -/
def view (f : α → β) (t : Table α) : Table β := t.map fun e => (e.1, f e.2)

@[simp] theorem keys_view (f : α → β) (t : Table α) : (view f t).keys = t.keys := by
  simp [view, Table.keys, Function.comp_def]

theorem view_view (g : β → γ) (f : α → β) (t : Table α) : view g (view f t) = view (g ∘ f) t := by
  simp [view, Function.comp_def]

theorem get?_view (f : α → β) (t : Table α) (n : Nat) : (view f t).get? n = (t.get? n).map f := by
  induction t with
  | nil => rfl
  | cons e t ih =>
    obtain ⟨k, v⟩ := e
    simp only [view, List.map_cons, get?_cons] at ih ⊢
    split
    · rfl
    · exact ih

/-- A change of one record that the function does not see. -/
theorem view_modify {f : α → β} {g : α → α} (h : ∀ x, f (g x) = f x) (t : Table α) (n : Nat) :
    view f (t.modify n g) = view f t := by
  simp only [view, Table.modify, List.map_map, List.map_inj_left, Function.comp_apply]
  intro e _
  split <;> simp [h]

/-- A change of every record that the function does not see. -/
theorem view_map {f : α → β} {g : Nat × α → α} (h : ∀ e, f (g e) = f e.2) (t : Table α) :
    view f (t.map fun e => (e.1, g e)) = view f t := by
  simp [view, Function.comp_def, h]

theorem keys_eq_of_view_eq {f : α → β} {t u : Table α} (h : view f t = view f u) : t.keys = u.keys := by
  rw [← keys_view f t, h, keys_view]

theorem map_get?_eq_of_view_eq {f : α → β} {t u : Table α} (h : view f t = view f u) (n : Nat) :
    (t.get? n).map f = (u.get? n).map f := by
  rw [← get?_view, h, get?_view]

@[simp] theorem keys_map (f : Nat × α → β) (t : Table α) : Table.keys (t.map fun e => (e.1, f e)) = t.keys := by
  simp [Table.keys, Function.comp_def]

@[simp] theorem keys_mapIf (p : Nat × α → Prop) [DecidablePred p] (f : Nat × α → α) (t : Table α) :
    Table.keys (t.map fun e => if p e then (e.1, f e) else e) = t.keys := by
  simp only [Table.keys, List.map_map, List.map_inj_left, Function.comp_apply]
  intro e _
  split <;> rfl

/-- A record stored at a number of the table. -/
theorem keys_put_of_mem {t : Table α} (hs : t.Sorted) {n : Nat} (h : n ∈ t.keys) (x : α) : Table.keys (t.put n x) = t.keys := by
  induction t with
  | nil => simp [Table.keys] at h
  | cons e t ih =>
    obtain ⟨k, v⟩ := e
    obtain ⟨hk, hs⟩ : (∀ m ∈ Table.keys t, k < m) ∧ Table.Sorted t := List.pairwise_cons.1 hs
    obtain rfl | h : n = k ∨ n ∈ Table.keys t := List.mem_cons.1 h
    · simp [Table.put, Table.keys]
    · have hlt : k < n := hk n h
      simp only [Table.put, Nat.ne_of_lt hlt, Nat.lt_asymm hlt, if_false]
      exact congrArg (k :: ·) (ih hs h)

end Table

/-! ### Parts -/

/-- One update of the records of one block, as the shared operations make it. Of the printers only the numbers
and the service states are said to stay, of the tickets and the stations only the numbers. -/
inductive Part : State → State → Prop
  | second (s : State) (w : SecondWork) : Part s { s with second := w }
  | cause (s : State) (c : Cause) : Part s (setCause c s)
  | printers (s : State) (x : Table Printer) (hv : Table.view Printer.state x = Table.view Printer.state s.printers) :
      Part s { s with printers := x }
  | serviceState (s : State) (q : Nat) (st : ServiceState) (hst : st ≠ .awaiting) : Part s (setServiceState q st s)
  | delPrinter (s : State) (q : Nat) (hi : s.inflightCount q = 0)
      (ht : ∀ j ∈ s.store.records, j.isHeld = true → j.target ≠ .specific q) : Part s { s with printers := s.printers.del q }
  | param (s : State) (i : ParamId) (v : Nat) (hv : i.admits v = true) : Part s { s with params := s.params.write v i }
  | issueTicket (s : State) (k : Ticket) :
      Part s { s with callout := ⟨s.callout.tickets.put s.nextTicket k, s.nextTicket⟩ }
  | tickets (s : State) (x : Table Ticket) (hk : Table.keys x = Table.keys s.callout.tickets) :
      Part s { s with callout := { s.callout with tickets := x } }
  | retireTicket (s : State) (n : Nat) : Part s (retireTicket n s)
  | reorderCheck (s : State) (t : Nat) : Part s (reorderCheck t s)
  | updType (s : State) (t : Nat) (f : CartridgeType → CartridgeType) (hf : ∀ ty, ty.InRange → (f ty).InRange) :
      Part s (updType t f s)
  | putType (s : State) (t mode shelf reserve pack lead margin : Nat) (v : Int) (ht : t ≤ 63) (hr : reserve ≤ 15)
      (hp : 1 ≤ pack ∧ pack ≤ 16) (hl : 1 ≤ lead ∧ lead ≤ 60) (hm : margin ≤ 30)
      (hs : shelfAfter mode v (((s.stock.types.get? t).map fun o => o.shelf).getD 0) = some shelf) :
      Part s { s with stock := { s.stock with
        types := s.stock.types.put t (setType (s.stock.types.get? t) shelf reserve pack lead margin) } }
  | delType (s : State) (t : Nat) (hr : ∀ e ∈ s.stock.reqs, e.2.type ≠ t) :
      Part s { s with stock := { s.stock with types := s.stock.types.del t } }
  | checkOverdue (s : State) (t : Nat) : Part s (checkOverdue t s)
  | confirmReq (s : State) (n : Nat) (d : Day) : Part s (updReq n (fun r => { r with confirmDay := some d }) s)
  | lessenReq (s : State) (n q : Nat) (r : Requisition) (hr : s.stock.reqs.get? n = some r) (hq : q < r.quantity) :
      Part s (updReq n (fun r => { r with quantity := r.quantity - q }) s)
  | retireReq (s : State) (n : Nat) : Part s (retireReq n s)
  | returnUnreleased (s : State) (n : Nat) : Part s (returnUnreleased n s)
  | release (s : State) (n q : Nat) (redirect : Bool) (only : Option Nat) (a : Account) (ha : (n, a) ∈ s.bank.accounts)
      (hr : a.role = .user) : Part s (releaseDecision n q redirect only s).1
  | presentation (s : State) :
      Part s { s with release := { s.release with presentations := s.release.presentations + 1 } }
  | holdExpiries (s : State) : Part s (holdExpiries s)
  | abandonments (s : State) : Part s (abandonments s)
  | jobDone (s : State) (n m : Nat) (requeue : Bool) (j : Job) (r : ReleaseInfo) (u : Word) (hj : s.jobAt n = some j)
      (hp : j.phase = .printing r u) : Part s (completeJob j r m (s.actualCost j r m) requeue s)
  | retargetJobs (s : State) (q floor : Nat) : Part s (retargetJobs q floor s)
  | dayBoundary (s : State) : Part s (dayBoundaryEffect s)
  | walk (s : State) (w : SweepWalk) (hs : s.time.sweep.isSome = true) (hw : w.inRange = true) : Part s (setWalk (some w) s)
  | sweepDone (s : State) (hs : s.time.sweep.isSome = true) : Part s { s with
      time := (if s.time.queued then startSweep { s.time with queued := false } else { s.time with sweep := none }) }
  | groupStep (s : State) (n : Nat) : Part s (groupStep n s)
  | accountStep (s : State) (n : Nat) : Part s (accountStep n s)
  | line (s : State) (l : Line) (hk : Table.keys l.stations = Table.keys s.line.stations) : Part s { s with line := l }

/-! ### Retargeted jobs -/

@[simp] theorem Job.number_retargeted (q fl : Nat) (j : Job) : (j.retargeted q fl).number = j.number := by
  unfold Job.retargeted; split <;> rfl

@[simp] theorem Job.owner_retargeted (q fl : Nat) (j : Job) : (j.retargeted q fl).owner = j.owner := by
  unfold Job.retargeted; split <;> rfl

@[simp] theorem Job.seq_retargeted (q fl : Nat) (j : Job) : (j.retargeted q fl).seq = j.seq := by
  unfold Job.retargeted; split <;> rfl

@[simp] theorem Job.phase_retargeted (q fl : Nat) (j : Job) : (j.retargeted q fl).phase = j.phase := by
  unfold Job.retargeted; split <;> rfl

theorem inflightCount_retargetJobs (s : State) (q fl n : Nat) : (retargetJobs q fl s).inflightCount n = s.inflightCount n := by
  simp [State.inflightCount, List.countP_map, Function.comp_def]

/-- No HELD job names the printer any more. -/
theorem target_retargetJobs {s : State} (q fl : Nat) :
    ∀ j ∈ (retargetJobs q fl s).store.records, j.isHeld = true → j.target ≠ .specific q := by
  intro j hj hh
  obtain ⟨i, -, rfl⟩ := List.mem_map.1 hj
  by_cases hn : i.holdsFor q = true
  · simp [Job.retargeted, hn]
  · rw [Job.retargeted, if_neg hn] at hh ⊢
    exact fun ht => hn (by simp [Job.holdsFor, hh, ht])

/-! ### What is made of parts -/

theorem foldl_preserves {σ α : Type} {P : σ → Prop} {f : σ → α → σ} (hf : ∀ s a, P s → P (f s a)) (l : List α) {s : σ}
    (hs : P s) : P (l.foldl f s) := by
  induction l generalizing s with
  | nil => exact hs
  | cons a l ih => exact ih (hf s a hs)

theorem accountWalk_inRange (n : Nat) (u : State) : (accountWalk n u).inRange = true := by
  unfold accountWalk
  split <;> rfl

section

variable {P : State → Prop} (hp : ∀ s t : State, Part s t → P s → P t) {s : State}
include hp

theorem setCauseIf_of_parts (b : Bool) (c : Cause) (hs : P s) : P (setCauseIf b c s) := by
  unfold setCauseIf
  split
  · exact hp _ _ (.cause s c) hs
  · exact hs

theorem updPrinter_of_parts (n : Nat) {f : Printer → Printer} (hf : ∀ p, (f p).state = p.state) (hs : P s) : P (updPrinter n f s) :=
  hp _ _ (.printers s _ (Table.view_modify hf _ _)) hs

theorem updTicket_of_parts (n : Nat) (f : Ticket → Ticket) (hs : P s) : P (updTicket n f s) :=
  hp _ _ (.tickets s _ (Table.keys_modify _ _ _)) hs

/-! ### The Callout Unit -/

theorem issueTicket_of_parts (q : Nat) (hs : P s) : P (issueTicket q s) := by
  cases h : s.printers.get? q with
  | none => simpa only [issueTicket, h] using hs
  | some p =>
    rw [issueTicket_of_get? h]
    exact hp _ _ (.cause _ _) (updPrinter_of_parts hp _ (fun _ => rfl) (hp _ _ (.issueTicket s _) hs))

theorem reconcileTicket_of_parts (n : Nat) (t : Ticket) (p : Printer) (freed : Nat) (hs : P s) :
    P (reconcileTicket n t p s freed).1 := by
  obtain ⟨-, h⟩ | ⟨t', b, -, h⟩ := reconcileTicket_cases n t p s freed <;> rw [h]
  · exact hp _ _ (.retireTicket s n) hs
  · exact setCauseIf_of_parts hp _ _ (updTicket_of_parts hp _ _ hs)

theorem reconcile_of_parts (acc : State × Nat) (q : Nat) (hs : P acc.1) : P (reconcile acc q).1 := by
  obtain ⟨-, h⟩ | ⟨p, -, ⟨n, t, -, h⟩ | ⟨-, ⟨-, h⟩ | ⟨-, ⟨-, h⟩ | ⟨-, -, h⟩ | ⟨-, -, h⟩⟩⟩⟩ := reconcile_cases acc q <;> rw [h]
  · exact hs
  · exact reconcileTicket_of_parts hp n t p _ hs
  · exact updPrinter_of_parts hp _ (fun _ => rfl) hs
  · exact hs
  · exact issueTicket_of_parts hp q hs
  · exact hp _ _ (.cause _ _) (updPrinter_of_parts hp _ (fun _ => rfl) hs)

theorem handOver_of_parts (hs : P s) : P (handOver s) := by
  obtain ⟨-, h⟩ | ⟨q, -, h⟩ := handOver_cases s <;> rw [h]
  · exact hs
  · exact issueTicket_of_parts hp q hs

theorem reconcileAll_of_parts (ps : List Nat) (hs : P s) : P (reconcileAll ps s) :=
  reconcileAll_induct (Q := fun s _ => P s) ps (fun acc q h => reconcile_of_parts hp acc q h)
    (fun _ _ h => handOver_of_parts hp h) hs

theorem judgePrinter_of_parts (n : Nat) (hs : P s) : P (judgePrinter s n) := updPrinter_of_parts hp n (fun _ => rfl) hs

theorem calloutUpdate_of_parts (conds types : List Nat) (hs : P s) : P (calloutUpdate conds types s) :=
  calloutUpdate_induct conds types (fun _ n h => judgePrinter_of_parts hp n h) (fun ps _ h => reconcileAll_of_parts hp ps h) hs

/-! ### The Stock Unit -/

theorem reorderChecks_of_parts (ts : List Nat) (hs : P s) : P (reorderChecks ts s) :=
  reorderChecks_induct ts (fun t s h => hp _ _ (.reorderCheck s t) h) hs

theorem servePending_of_parts (hs : P s) : P (servePending s) :=
  servePending_induct (fun t s h => hp _ _ (.reorderCheck s t) h) hs

theorem takeSwap_of_parts (t : Nat) (hs : P s) : P (takeSwap t s).1 := by
  obtain ⟨-, h⟩ | ⟨-, h⟩ := takeSwap_cases t s <;> rw [h]
  · exact hp _ _ (.reorderCheck _ t) (hp _ _ (.updType s t _ fun ty h => by
      obtain ⟨hshelf, hrest⟩ := h; exact ⟨by dsimp only; omega, hrest⟩) hs)
  · exact hp _ _ (.reorderCheck _ t) (hp _ _ (.cause s _) hs)

/-! ### Cartridges -/

theorem retestSlot_of_parts (q i : Nat) (w : Ripple) (hs : P w.state) : P (retestSlot q i w).state := by
  unfold retestSlot
  split
  · exact hs
  · exact updPrinter_of_parts hp _ (fun _ => rfl) hs

theorem applyLevel_of_parts (q i : Nat) (level : Option Nat) (w : Ripple) (hs : P w.state) :
    P (applyLevel q i level w).state := by
  unfold applyLevel
  split
  · exact hs
  · exact updPrinter_of_parts hp _ (fun _ => rfl) hs
  · split
    · unfold swapSlot
      split
      · exact hs
      · exact retestSlot_of_parts hp _ _ _ (takeSwap_of_parts hp _ (updPrinter_of_parts hp _ (fun _ => rfl) hs))
    · exact retestSlot_of_parts hp _ _ _ (updPrinter_of_parts hp _ (fun _ => rfl) hs)

theorem swapSlot_of_parts (q i n : Nat) (w : Ripple) (hs : P w.state) : P (swapSlot q i n w).state := by
  unfold swapSlot
  split
  · exact hs
  · exact retestSlot_of_parts hp _ _ _ (takeSwap_of_parts hp _ (updPrinter_of_parts hp _ (fun _ => rfl) hs))

theorem applyLevels_of_parts (q i : Nat) (l : List (Option Nat)) (w : Ripple) (hs : P w.state) :
    P (applyLevels q i l w).state := by
  induction l generalizing i w with
  | nil => exact hs
  | cons n l ih => exact ih _ _ (applyLevel_of_parts hp q i n w hs)

theorem changeType_of_parts (q i t : Nat) (w : Ripple) (hs : P w.state) : P (changeType q i t w).state := by
  unfold changeType
  split
  · exact hs
  · split
    · exact hs
    · split <;> exact updPrinter_of_parts hp _ (fun _ => rfl) hs

theorem changeTypes_of_parts (q i : Nat) (l : List Nat) (w : Ripple) (hs : P w.state) : P (changeTypes q i l w).state := by
  induction l generalizing i w with
  | nil => exact hs
  | cons t l ih => exact ih _ _ (changeType_of_parts hp q i t w hs)

theorem checked_of_parts (w : Ripple) (hs : P w.state) : P w.checked := reorderChecks_of_parts hp _ hs

/-! ### Printers -/

theorem returnAll_of_parts (ns : List Nat) (hs : P s) : P (returnAll ns s) :=
  returnAll_induct ns (fun n s h => hp _ _ (.returnUnreleased s n) h) (fun s h => hp _ _ (.cause s _) h) hs

omit hp in
theorem derived_ne_awaiting (empty : Nat) (p : Printer) : p.derived empty ≠ .awaiting := by
  unfold Printer.derived
  repeat' split
  all_goals decide

theorem deriveState_of_parts (q : Nat) (hs : P s) : P (deriveState q s) := by
  unfold deriveState
  split
  · exact hs
  · exact hp _ _ (.serviceState s _ _ (derived_ne_awaiting _ _)) hs

theorem rederiveState_of_parts (q : Nat) (hs : P s) : P (rederiveState q s) := by
  unfold rederiveState
  split
  · exact hs
  · split
    · exact hs
    · exact deriveState_of_parts hp _ hs

theorem applyReport_of_parts (q : Nat) (pr : Printer) (kinds levels : List Nat) (mono colour : Word) (hs : P s) :
    P (applyReport q pr kinds levels mono colour s) :=
  calloutUpdate_of_parts hp _ _ (deriveState_of_parts hp _ (updPrinter_of_parts hp _ (fun _ => rfl) (checked_of_parts hp _
    (applyLevels_of_parts hp _ _ _ _ (setCauseIf_of_parts hp _ _ (updPrinter_of_parts hp _ (fun _ => rfl) hs))))))

theorem applyPrinterSet_of_parts (q floor cls : Nat) (caps : Capabilities) (types : List Nat) (clear : Bool) (hs : P s) :
    P (applyPrinterSet q floor cls caps types clear s) :=
  calloutUpdate_of_parts hp _ _ (rederiveState_of_parts hp _ (updPrinter_of_parts hp _ (fun p => by split <;> rfl) (checked_of_parts hp _
    (changeTypes_of_parts hp _ _ _ _ (updPrinter_of_parts hp _ (fun _ => rfl) hs)))))

theorem applyRetire_of_parts (q : Nat) (pr : Printer) (hi : s.inflightCount q = 0) (hs : P s) : P (applyRetire q pr s) := by
  have hgone : P { retargetJobs q pr.floor s with printers := s.printers.del q } :=
    hp _ _ (.delPrinter _ q (by rwa [inflightCount_retargetJobs]) (target_retargetJobs q pr.floor)) (hp _ _ (.retargetJobs s q pr.floor) hs)
  have hunbind {u : State} (h : P u) : P (unbindStations q u) :=
    hp _ _ (.line _ _ (by simp [Table.keys, Function.comp_def])) h
  obtain ⟨-, h⟩ | ⟨n, k, -, h⟩ := applyRetire_cases s q pr <;> dsimp only at h <;> rw [h]
  · exact hunbind (reorderChecks_of_parts hp _ hgone)
  · exact handOver_of_parts hp (hunbind (reorderChecks_of_parts hp _ (hp _ _ (.retireTicket _ n) hgone)))

/-! ### The station line -/

theorem updStation_of_parts (a : Nat) (f : Station → Station) (hs : P s) : P (updStation a f s) :=
  hp _ _ (.line s _ (Table.keys_modify _ _ _)) hs

theorem servicePresentation_of_parts (q : Nat) (hs : P s) : P (servicePresentation q s).1 := by
  unfold servicePresentation
  split
  · exact hs
  · split
    · exact updTicket_of_parts hp _ _ hs
    · exact hs
    · exact handOver_of_parts hp (hp _ _ (.retireTicket s _) hs)

theorem routePresentation_of_parts (st : Station) (token : Word) (hs : P s) : P (routePresentation st token s).1 := by
  unfold routePresentation
  split
  · exact hs
  · next n acc hb =>
    split
    · exact hs
    · split
      · exact hs
      · split
        · next hr =>
          exact hp _ _ (.release _ _ _ _ _ acc (List.mem_of_find?_eq_some hb) hr) (hp _ _ (.presentation s) hs)
        · exact servicePresentation_of_parts hp _ hs

theorem takePresentation_of_parts (a : Nat) (token : Word) (hs : P s) : P (takePresentation a token s) := by
  unfold takePresentation
  dsimp only
  split
  · exact updStation_of_parts hp _ _ hs
  · exact hp _ _ (.line _ _ rfl) (updStation_of_parts hp _ _ (routePresentation_of_parts hp _ _
      (hp _ _ (.line _ _ rfl) (updStation_of_parts hp _ _ hs))))

theorem judgeExchange_of_parts (ex : Exchange) (v : Verdict) (hs : P s) : P (judgeExchange ex v s) := by
  unfold judgeExchange
  dsimp only
  split
  · exact takePresentation_of_parts hp _ _ (setCauseIf_of_parts hp _ _ (setCauseIf_of_parts hp _ _
      (updStation_of_parts hp _ _ hs)))
  · exact setCauseIf_of_parts hp _ _ (setCauseIf_of_parts hp _ _ (updStation_of_parts hp _ _ hs))

theorem endExchange_of_parts (ex : Exchange) (v : Verdict) (hs : P s) : P (endExchange ex v s) := by
  have h₁ : P { s with line := { s.line with exchange := none } } := hp _ _ (.line s _ rfl) hs
  have h₂ : P (if ex.abandoned then { s with line := { s.line with exchange := none } }
      else judgeExchange ex v { s with line := { s.line with exchange := none } }) := by
    split
    · exact h₁
    · exact judgeExchange_of_parts hp ex v h₁
  unfold endExchange
  dsimp only
  split
  · exact h₂
  · refine hp _ _ (.line _ _ ?_) h₂
    (repeat' split) <;> rfl

/-! ### Timers -/

theorem second_of_parts (w : SecondWork) (hs : P s) : P { s with second := w } := hp _ _ (.second s w) hs

theorem silenceExamination_of_parts (hs : P s) : P (silenceExamination s) := by
  refine second_of_parts hp _ (foldl_preserves (fun s n h => judgePrinter_of_parts hp n h) _ ?_)
  refine foldl_preserves (fun s n h => ?_) _ hs
  exact second_of_parts hp _ (hp _ _ (.serviceState _ _ _ (by decide)) (hp _ _ (.cause s _) h))

theorem runTimer_of_parts (u : Timer) (hs : P s) : P (runTimer u s) := by
  cases u with
  | dayBoundary => exact hp _ _ (.dayBoundary s) hs
  | takeTimeout => exact second_of_parts hp _ (returnAll_of_parts hp _ hs)
  | silence => exact silenceExamination_of_parts hp hs
  | tick n =>
    exact second_of_parts hp _ (hp _ _ (.printers s _ (by simp [Table.view, Function.comp_def])) hs)
  | escalation =>
    exact setCauseIf_of_parts hp _ _ (hp _ _ (.tickets s _ (by simp [Table.keys, Function.comp_def])) hs)
  | abandonment => exact hp _ _ (.abandonments s) hs
  | holdExpiry => exact hp _ _ (.holdExpiries s) hs
  | quiet =>
    change P (quietTimer s)
    unfold quietTimer
    split
    · exact hp _ _ (.line s _ rfl) hs
    · exact hs

/-! ### Sweeps -/

theorem sweepPrinterWalk_of_parts (n : Nat) (h : s.time.sweep = some (.printers n)) (hs : P s) : P (sweepPrinterWalk n s) := by
  unfold sweepPrinterWalk
  split
  · exact hp _ _ (.walk s _ (by simp [h]) rfl) hs
  · next q p _ =>
    refine hp _ _ (.walk _ _ (by simp [h]) ?_) (reorderChecks_of_parts hp _ (updPrinter_of_parts hp _ (fun _ => rfl) hs))
    split
    · simp only [SweepWalk.inRange, decide_eq_true_eq]; omega
    · rfl

theorem sweepGroupWalk_of_parts (n : Nat) (h : s.time.sweep.map (passedOver s) = some (.groups n)) (hs : P s) :
    P (sweepGroupWalk n s) := by
  refine hp _ _ (.walk _ _ (by simpa using congrArg Option.isSome h) ?_) (hp _ _ (.groupStep s n) hs)
  split
  · simp only [SweepWalk.inRange, decide_eq_true_eq]; omega
  · exact accountWalk_inRange 0 s

theorem sweepAccountWalk_of_parts (n : Nat) (h : s.time.sweep = some (.accounts n)) (hs : P s) : P (sweepAccountWalk n s) := by
  unfold sweepAccountWalk
  split
  · exact hp _ _ (.walk s _ (by simp [h]) rfl) hs
  · next m a _ => exact hp _ _ (.walk _ _ (by simp [accountStep, h]) (accountWalk_inRange m s)) (hp _ _ (.accountStep s m) hs)

theorem sweepTypeWalk_of_parts (n : Nat) (h : s.time.sweep.map (passedOver s) = some (.types n)) (hs : P s) :
    P (sweepTypeWalk n s) := by
  have hsome : s.time.sweep.isSome = true := by simpa using congrArg Option.isSome h
  have ht : P (typeStep n s) :=
    hp _ _ (.checkOverdue _ n) (hp _ _ (.reorderCheck _ n) (hp _ _ (.updType s n _ fun _ h => h) hs))
  unfold sweepTypeWalk
  dsimp only
  split
  · refine hp _ _ (.walk _ _ (by simpa using hsome) ?_) ht
    simp only [SweepWalk.inRange, decide_eq_true_eq]; omega
  · exact hp _ _ (.sweepDone _ (by simpa using hsome)) (hp _ _ (.cause _ _) ht)

/-! ### Requests on the stock -/

theorem defineType_of_parts (n : Nat) (ty : CartridgeType)
    (hs : P { s with stock := { s.stock with types := s.stock.types.put n ty } }) : P (defineType n ty s).1 := by
  have hr := hp _ _ (.reorderCheck _ n) hs
  unfold defineType
  dsimp only
  split
  · exact calloutUpdate_of_parts hp _ _ hr
  · exact hr

theorem applyReceive_of_parts (n q : Nat) (r : Requisition) (shelf : Nat) (hr : s.stock.reqs.get? n = some r) (hs : P s) :
    P (applyReceive n q r shelf s) := by
  have h₁ : P (setCauseIf (255 < shelf + q) .stockMismatch (updType r.type (fun t => { t with shelf := min 255 (shelf + q) }) s)) :=
    setCauseIf_of_parts hp _ _ (hp _ _ (.updType s _ _ fun ty h => by
      obtain ⟨-, hrest⟩ := h; exact ⟨by dsimp only; omega, hrest⟩) hs)
  have h₂ : P (if r.quantity ≤ q then servePending (reorderCheck r.type (retireReq n
        (setCauseIf (255 < shelf + q) .stockMismatch (updType r.type (fun t => { t with shelf := min 255 (shelf + q) }) s))))
      else reorderCheck r.type (updReq n (fun r => { r with quantity := r.quantity - q })
        (setCauseIf (255 < shelf + q) .stockMismatch (updType r.type (fun t => { t with shelf := min 255 (shelf + q) }) s)))) := by
    split
    · exact servePending_of_parts hp (hp _ _ (.reorderCheck _ _) (hp _ _ (.retireReq _ n) h₁))
    · next hq => exact hp _ _ (.reorderCheck _ _) (hp _ _ (.lessenReq _ n q r (by simpa using hr) (not_le.1 hq)) h₁)
  unfold applyReceive
  dsimp only
  split
  · exact h₂
  · exact calloutUpdate_of_parts hp _ _ h₂

theorem deed_of_parts {t : State} (ha : Atom s t → P t) (h : Deed s t) (hs : P s) : P t := by
  cases h with
  | atom h => exact ha h
  | overrun => exact hp _ _ (.cause s _) hs
  | sweepPrinter n h => exact sweepPrinterWalk_of_parts hp n h hs
  | sweepGroup n h => exact sweepGroupWalk_of_parts hp n h hs
  | sweepAccount n h => exact sweepAccountWalk_of_parts hp n h hs
  | sweepType n h => exact sweepTypeWalk_of_parts hp n h hs
  | exchangeEnd ex v => exact endExchange_of_parts hp ex v hs
  | paramSet i v hv =>
    have h := hp _ _ (.param s i v hv) hs
    unfold storeParam
    dsimp only
    split
    · exact reconcileAll_of_parts hp _ h
    · exact h
  | printerSet => exact applyPrinterSet_of_parts hp _ _ _ _ _ _ hs
  | printerRetire q pr _ hi => exact applyRetire_of_parts hp _ _ hi hs
  | statusReport => exact applyReport_of_parts hp _ _ _ _ _ _ hs
  | ticketAck => exact updTicket_of_parts hp _ _ hs
  | ticketClose n => exact handOver_of_parts hp (hp _ _ (.retireTicket s n) hs)
  | cartridgeSwapped =>
    exact calloutUpdate_of_parts hp _ _ (rederiveState_of_parts hp _ (checked_of_parts hp _ (swapSlot_of_parts hp _ _ _ _ hs)))
  | cartridgeSeed => exact checked_of_parts hp _ (retestSlot_of_parts hp _ _ _ (updPrinter_of_parts hp _ (fun _ => rfl) hs))
  | typeDefine t mode shelf reserve pack lead margin v ht hr hpk hl hm hsh =>
    exact defineType_of_parts hp _ _ (hp _ _ (.putType s t mode shelf reserve pack lead margin v ht hr hpk hl hm hsh) hs)
  | typeUndefine t hr => exact calloutUpdate_of_parts hp _ _ (hp _ _ (.delType s t hr) hs)
  | reqConfirm n r => exact hp _ _ (.reorderCheck _ r.type) (hp _ _ (.confirmReq s n _) hs)
  | reqReceive n q r hr => exact applyReceive_of_parts hp n q r _ hr hs
  | reqCancel n r =>
    exact servePending_of_parts hp (hp _ _ (.reorderCheck _ _) (hp _ _ (.updType _ _ _ fun _ h => h) (hp _ _ (.retireReq s n) hs)))
  | releaseRequest n q a only hacc hr => exact hp _ _ (.release s n q false only a (Table.mem_of_get? hacc) hr) hs
  | jobDone n m requeue j r u hj hph => exact hp _ _ (.jobDone s n m requeue j r u hj hph) hs

/-- A property that every atom and every part keeps is kept by every move. -/
theorem move_of_parts {t : State} (ha : Atom s t → P t) (h : Move s t) (hs : P s) : P t := by
  cases h with
  | deed h => exact deed_of_parts hp ha h hs
  | second w => exact second_of_parts hp w hs
  | timer u => exact runTimer_of_parts hp u hs
  | reconcile ps => exact reconcileAll_of_parts hp ps hs

end

end Sys2Proof.Machine
end

section
/-!
PROOFS. The numbers of the tables (R1, R31, R63, R67, R79, R86, R89, R124): what of the accounts and the groups no settlement and no
reservation changes, and that every part of a step keeps every table in order of its numbers.
-/

namespace Sys2Proof.Machine

/-! ### What reservations and settlements leave of the Account Unit -/

/-- An account without the fields that reservations, settlements and refills change. -/
def Account.fixed (a : Account) : Account := { a with balance := 0, reserved := 0, exhausted := false }

/-- A group without the fields that reservations, settlements and refills change. -/
def BudgetGroup.fixed (g : BudgetGroup) : BudgetGroup := { g with pool := 0, reserved := 0 }

/-- The Account Unit without the fields that reservations, settlements and refills change. -/
def Bank.fixed (b : Bank) : Bank := ⟨Table.view Account.fixed b.accounts, Table.view BudgetGroup.fixed b.groups, b.prices⟩

/-- The Account Unit of a state without the fields that reservations, settlements and refills change. -/
abbrev State.fixedBank (s : State) : Bank := s.bank.fixed

section

variable (s : State)

theorem fixedBank_updAccount (n : Nat) {f : Account → Account} (h : ∀ a, (f a).fixed = a.fixed) :
    (updAccount n f s).fixedBank = s.fixedBank := by
  simp only [State.fixedBank, Bank.fixed, updAccount_bank, Table.view_modify h]

theorem fixedBank_updGroup (n : Nat) {f : BudgetGroup → BudgetGroup} (h : ∀ g, (f g).fixed = g.fixed) :
    (updGroup n f s).fixedBank = s.fixedBank := by
  simp only [State.fixedBank, Bank.fixed, updGroup_bank, Table.view_modify h]

theorem fixedBank_of_bank {s t : State} (h : t.bank = s.bank) : t.fixedBank = s.fixedBank := by
  simp only [State.fixedBank, Bank.fixed, h]

@[simp] theorem fixedBank_addReservation (n u v : Nat) : (addReservation n u v s).fixedBank = s.fixedBank := by
  unfold addReservation
  split
  · rfl
  · refine (fixedBank_updGroup _ _ ?_).trans (fixedBank_updAccount _ _ ?_) <;> exact fun _ => rfl

@[simp] theorem fixedBank_settle (n : Nat) (r : ReleaseInfo) (c : Nat) : (settle n r c s).fixedBank = s.fixedBank := by
  unfold settle
  split
  · rfl
  · refine (fixedBank_updGroup _ _ ?_).trans (fixedBank_updAccount _ _ ?_) <;> exact fun _ => rfl

@[simp] theorem fixedBank_markExhausted (n : Nat) : (markExhausted n s).fixedBank = s.fixedBank := by
  rw [markExhausted, fixedBank_of_bank (setCauseIf_bank ..)]
  exact fixedBank_updAccount _ _ fun _ => rfl

@[simp] theorem fixedBank_groupStep (n : Nat) : (groupStep n s).fixedBank = s.fixedBank := by
  refine fixedBank_updGroup _ _ fun g => ?_
  split <;> rfl

@[simp] theorem fixedBank_accountStep (n : Nat) : (accountStep n s).fixedBank = s.fixedBank := by
  refine fixedBank_updAccount _ _ fun a => ?_
  split <;> rfl

end

/-! ### The operations that settle and reserve -/

section

variable {Q : Bank → Prop} {s : State} (hsettle : ∀ s n r c, Q s.bank → Q (settle n r c s).bank)
include hsettle

theorem returnUnreleased_bank (n : Nat) (hs : Q s.bank) : Q (returnUnreleased n s).bank := by
  obtain h | ⟨j, r, -, -, h⟩ := returnUnreleased_cases n s <;> rw [h]
  · exact hs
  · exact hsettle (undispatch n s) j.owner r 0 hs

theorem setServiceState_bank (q : Nat) (st : ServiceState) (hs : Q s.bank) : Q (setServiceState q st s).bank := by
  have hrecall (q : Nat) (u : State) (h : Q u.bank) : Q (recallPrinter q u).bank :=
    returnAll_induct (P := fun u : State => Q u.bank) _ (fun n _ h => returnUnreleased_bank hsettle n h) (fun _ h => h) h
  obtain ⟨-, h⟩ | ⟨p, -, ⟨-, -, h⟩ | ⟨-, h⟩⟩ := setServiceState_cases q st s <;> rw [h]
  · exact hs
  · exact hrecall _ _ hs
  · exact hs

theorem abandonments_bank (hs : Q s.bank) : Q (abandonments s).bank := by
  rw [abandonments, setCauseIf_bank]
  refine foldl_preserves (P := fun u : State => Q u.bank) (fun u j hu => ?_) _ hs
  unfold abandonJob
  split
  · exact hsettle u _ _ _ hu
  · exact hu

theorem completeJob_bank (j : Job) (r : ReleaseInfo) (n c : Nat) (requeue : Bool) (hs : Q s.bank) :
    Q (completeJob j r n c requeue s).bank := by
  cases requeue <;> exact hsettle s j.owner r c hs

theorem cancelJob_bank (j : Job) (hs : Q s.bank) : Q (cancelJob j s).bank := by
  unfold cancelJob
  split
  · exact hsettle (undispatch j.number s) _ _ _ hs
  · exact hs

omit hsettle in
theorem releaseDecision_bank (hadd : ∀ s n u v, Q s.bank → Q (addReservation n u v s).bank)
    (hmark : ∀ s n, Q s.bank → Q (markExhausted n s).bank) (owner q : Nat) (redirect : Bool) (only : Option Nat)
    (hs : Q s.bank) : Q (releaseDecision owner q redirect only s).1.bank := by
  obtain ⟨m, h⟩ | ⟨t, pr, cands, -, -, -, -, h⟩ := releaseDecision_cases owner q redirect only s <;> rw [h]
  · exact hs
  · exact releaseWalk_induct (P := fun u : State => Q u.bank) t owner pr cands 0 (fun u j info hu _ _ => hadd u _ _ _ hu)
      (fun u hu => hmark u owner hu) hs

end

section

variable (s : State)

theorem fixedBank_of_settling {f : State → State} (h : ∀ {Q : Bank → Prop}, (∀ s n r c, Q s.bank → Q (settle n r c s).bank) →
    Q s.bank → Q (f s).bank) : (f s).fixedBank = s.fixedBank :=
  h (Q := fun b => b.fixed = s.fixedBank) (fun u n r c hu => (fixedBank_settle u n r c).trans hu) rfl

@[simp] theorem fixedBank_returnUnreleased (n : Nat) : (returnUnreleased n s).fixedBank = s.fixedBank :=
  fixedBank_of_settling s fun h => returnUnreleased_bank h n

@[simp] theorem fixedBank_setServiceState (q : Nat) (st : ServiceState) : (setServiceState q st s).fixedBank = s.fixedBank :=
  fixedBank_of_settling s fun h => setServiceState_bank h q st

@[simp] theorem fixedBank_abandonments : (abandonments s).fixedBank = s.fixedBank :=
  fixedBank_of_settling s fun h => abandonments_bank h

@[simp] theorem fixedBank_completeJob (j : Job) (r : ReleaseInfo) (n c : Nat) (requeue : Bool) :
    (completeJob j r n c requeue s).fixedBank = s.fixedBank :=
  fixedBank_of_settling s fun h => completeJob_bank h j r n c requeue

@[simp] theorem fixedBank_cancelJob (j : Job) : (cancelJob j s).fixedBank = s.fixedBank :=
  fixedBank_of_settling s fun h => cancelJob_bank h j

@[simp] theorem fixedBank_releaseDecision (owner q : Nat) (redirect : Bool) (only : Option Nat) :
    (releaseDecision owner q redirect only s).1.fixedBank = s.fixedBank :=
  releaseDecision_bank (Q := fun b => b.fixed = s.fixedBank) (fun u n a b hu => (fixedBank_addReservation u n a b).trans hu)
    (fun u n hu => (fixedBank_markExhausted u n).trans hu) owner q redirect only rfl

end

/-! ### The numbers of every table -/

/-- The numbers of the records of every table. -/
def State.numbers (s : State) : List (List Nat) :=
  [Table.keys s.printers, Table.keys s.callout.tickets, Table.keys s.stock.types, Table.keys s.stock.reqs,
   Table.keys s.bank.accounts, Table.keys s.bank.groups, Table.keys s.bank.prices, Table.keys s.line.stations]

section

variable {s t : State}

theorem TablesOrdered.of_numbers (h : TablesOrdered s) (hn : t.numbers = s.numbers) : TablesOrdered t := by
  simp only [State.numbers, List.cons.injEq] at hn
  obtain ⟨h₁, h₂, h₃, h₄, h₅, h₆, h₇, h₈, -⟩ := hn
  simpa only [TablesOrdered, Table.Sorted, h₁, h₂, h₃, h₄, h₅, h₆, h₇, h₈] using h

theorem keys_accounts_of_fixedBank (h : t.fixedBank = s.fixedBank) : Table.keys t.bank.accounts = Table.keys s.bank.accounts :=
  Table.keys_eq_of_view_eq (congrArg Bank.accounts h)

theorem numbers_of_fixedBank (hb : t.fixedBank = s.fixedBank) (hp : Table.keys t.printers = Table.keys s.printers)
    (hc : t.callout = s.callout) (hs : t.stock = s.stock) (hl : t.line = s.line) : t.numbers = s.numbers := by
  have hprices : t.fixedBank.prices = s.fixedBank.prices := congrArg Bank.prices hb
  have hgroups := Table.keys_eq_of_view_eq (congrArg Bank.groups hb)
  simp only [State.fixedBank, Bank.fixed] at hprices
  simp only [State.numbers, hp, hc, hs, hl, keys_accounts_of_fixedBank hb, hgroups, hprices]

@[simp] theorem keys_printers_setServiceState (s : State) (q : Nat) (st : ServiceState) :
    Table.keys (setServiceState q st s).printers = Table.keys s.printers := by
  obtain ⟨-, h⟩ | ⟨p, -, ⟨-, -, h⟩ | ⟨-, h⟩⟩ := setServiceState_cases q st s <;> rw [h] <;> simp

theorem TablesOrdered.withPrinters (h : TablesOrdered s) {x : Table Printer} (hs : x.Sorted) (hx : ∀ n ∈ x.keys, n ≤ 255) :
    TablesOrdered { s with printers := x } := by
  obtain ⟨-, -, h⟩ := h
  exact ⟨hs, hx, h⟩

theorem TablesOrdered.withTickets (h : TablesOrdered s) {x : Table Ticket} (hs : x.Sorted) (hx : Numbered x.keys) (n : Nat) :
    TablesOrdered { s with callout := ⟨x, n⟩ } := by
  obtain ⟨hp, hq, -, -, h⟩ := h
  exact ⟨hp, hq, hs, hx, h⟩

theorem TablesOrdered.withTypes (h : TablesOrdered s) {x : Table CartridgeType} (hs : x.Sorted) (hx : ∀ n ∈ x.keys, n ≤ 63) :
    TablesOrdered { s with stock := { s.stock with types := x } } := by
  obtain ⟨h₁, h₂, h₃, h₄, -, -, h⟩ := h
  exact ⟨h₁, h₂, h₃, h₄, hs, hx, h⟩

theorem TablesOrdered.withReqs (h : TablesOrdered s) {x : Table Requisition} (hs : x.Sorted) (hx : Numbered x.keys) (n : Nat) :
    TablesOrdered { s with stock := { s.stock with reqs := x, lastReq := n } } := by
  obtain ⟨h₁, h₂, h₃, h₄, h₅, h₆, -, -, h⟩ := h
  exact ⟨h₁, h₂, h₃, h₄, h₅, h₆, hs, hx, h⟩

theorem TablesOrdered.withAccounts (h : TablesOrdered s) {x : Table Account} (hs : x.Sorted) (hx : Numbered x.keys) :
    TablesOrdered { s with bank := { s.bank with accounts := x } } := by
  obtain ⟨h₁, h₂, h₃, h₄, h₅, h₆, h₇, h₈, -, -, h⟩ := h
  exact ⟨h₁, h₂, h₃, h₄, h₅, h₆, h₇, h₈, hs, hx, h⟩

theorem Numbered.put {α : Type} {x : Table α} (h : Numbered x.keys) {n : Nat} (hn : 1 ≤ n ∧ n ≤ 65535) (a : α) :
    Numbered (Table.keys (x.put n a)) := by
  intro m hm
  obtain rfl | hm := (Table.mem_keys_put x n m a).1 hm
  · exact hn
  · exact h m hm

theorem Numbered.del {α : Type} {x : Table α} (h : Numbered x.keys) (n : Nat) : Numbered (Table.keys (x.del n)) :=
  fun m hm => h m ((Table.mem_keys_del x n m).1 hm).1

/-- A reorder check keeps the numbers or issues one more requisition. -/
theorem TablesOrdered.reorderCheck (h : TablesOrdered s) (n : Nat) : TablesOrdered (reorderCheck n s) := by
  have hpend (b : Bool) {u : State} (hu : TablesOrdered u) : TablesOrdered (setTypePending b n u) :=
    hu.of_numbers (by simp [State.numbers, setTypePending])
  unfold Machine.reorderCheck
  obtain ⟨-, he⟩ | ⟨ty, -, ⟨-, he⟩ | ⟨-, -, ⟨m, r, -, he⟩ | ⟨-, -, he⟩ | ⟨-, -, he⟩⟩⟩ := reorder_cases n s <;> rw [he]
  · exact h
  · exact hpend _ h
  · exact hpend _ (h.of_numbers (by simp [State.numbers]))
  · obtain ⟨-, -, -, -, -, -, hs, hn, -⟩ := id h
    exact hpend _ (h.withReqs (Table.sorted_put hs _ _) (hn.put (issueNumber_range _ _) _) _)
  · exact hpend _ (h.of_numbers (by simp [State.numbers]))

/-- No check of the overdue changes a number. -/
theorem numbers_checkOverdue (n : Nat) : (checkOverdue n s).numbers = s.numbers := by
  unfold checkOverdue
  split
  · rfl
  · simp [State.numbers]

theorem keys_printers_abandonments (s : State) : Table.keys (abandonments s).printers = Table.keys s.printers := by
  rw [abandonments, setCauseIf_printers]
  refine foldl_keeps (fun u => Table.keys u.printers) _ (fun u j => ?_) _ s
  unfold abandonJob
  split <;> simp

theorem keys_stations_reregimed (now : Word) (l : Line) : Table.keys (l.reregimed now).stations = Table.keys l.stations := by
  unfold Line.reregimed
  (repeat' split) <;> rfl

theorem keys_stations_apply (now : Word) (enable : Bool) (rate : LineRate) (w : Nat) (l : Line) :
    Table.keys (l.apply now enable rate w).stations = Table.keys l.stations := by
  unfold Line.apply
  dsimp only
  (repeat' split)
  · simp [Line.disable]
  · rfl
  · rfl

theorem TablesOrdered.atom (h : TablesOrdered s) (ha : Atom s t) : TablesOrdered t := by
  obtain ⟨hp, hp255, -, -, -, -, -, -, hacc, hnum, -, hprices, -⟩ := id h
  cases ha with
  | reset => exact (by decide : TablesOrdered State.reset)
  | printerAdd q floor cls caps types hq =>
    refine h.withPrinters (Table.sorted_put hp _ _) fun n hn => ?_
    obtain rfl | hn := (Table.mem_keys_put _ _ _ _).1 hn
    · exact hq
    · exact hp255 n hn
  | accountAdd p hn => exact h.withAccounts (Table.sorted_put hacc _ _) (hnum.put ⟨by omega, Nat.le_of_lt_succ (u16_lt p 0)⟩ _)
  | accountRetire n => rw [retireJobs_frame]; exact h.withAccounts (Table.sorted_del hacc n) (hnum.del n)
  | accountSet | accountAdjust | stationSet | dispatchTake | jobSubmit => exact h.of_numbers (by simp [State.numbers])
  | groupSet p pool change => exact h.of_numbers (by simp [State.numbers, refreshMembers])
  | priceSet c p hc =>
    have hmem : c ∈ Table.keys s.bank.prices := by rw [hprices]; exact List.mem_range.2 (Nat.lt_succ_of_le hc)
    have hsorted : Table.Sorted s.bank.prices := by rw [Table.Sorted, hprices]; exact List.pairwise_lt_range
    exact h.of_numbers (by simp [State.numbers, Table.keys_put_of_mem hsorted hmem])
  | jobCancel n j =>
    exact h.of_numbers (numbers_of_fixedBank (fixedBank_cancelJob s j) (by rw [cancelJob_frame]) (by rw [cancelJob_frame])
      (by rw [cancelJob_frame]) (by rw [cancelJob_frame]))
  | calendarInstall got => exact h.of_numbers (by simp [State.numbers, installCalendar, keys_stations_reregimed])
  | lineSet enable rate w => exact h.of_numbers (by simp [State.numbers, keys_stations_apply])
  | _ => exact h

/-- Every part of a step keeps the tables in order of their numbers. -/
theorem TablesOrdered.part (h : TablesOrdered s) (hp : Part s t) : TablesOrdered t := by
  obtain ⟨hsp, hp255, hst, hnt, hsty, hty, hsr, hnr, -⟩ := id h
  cases hp with
  | printers x hv => exact h.of_numbers (by simp [State.numbers, Table.keys_eq_of_view_eq hv])
  | tickets x hk | line l hk => exact h.of_numbers (by simp [State.numbers, hk])
  | serviceState q st =>
    exact h.of_numbers (numbers_of_fixedBank (by simp) (keys_printers_setServiceState s q st) (by simp) (by simp) (by simp))
  | delPrinter q =>
    exact h.withPrinters (Table.sorted_del hsp q) fun n hn => hp255 n ((Table.mem_keys_del _ _ _).1 hn).1
  | issueTicket k => exact h.withTickets (Table.sorted_put hst _ _) (hnt.put (issueNumber_range _ _) k) _
  | retireTicket n => exact h.withTickets (Table.sorted_del hst n) (hnt.del n) _
  | reorderCheck n => exact h.reorderCheck n
  | putType n mode shelf reserve pack lead margin v ht =>
    refine h.withTypes (Table.sorted_put hsty _ _) fun m hm => ?_
    obtain rfl | hm := (Table.mem_keys_put _ _ _ _).1 hm
    · exact ht
    · exact hty m hm
  | delType n => exact h.withTypes (Table.sorted_del hsty n) fun m hm => hty m ((Table.mem_keys_del _ _ _).1 hm).1
  | retireReq n => exact h.withReqs (Table.sorted_del hsr n) (hnr.del n) _
  | checkOverdue n => exact h.of_numbers (numbers_checkOverdue n)
  | updType | confirmReq | lessenReq => exact h.of_numbers (by simp [State.numbers])
  | returnUnreleased | release | groupStep | accountStep =>
    exact h.of_numbers (numbers_of_fixedBank (by simp) (by simp) (by simp) (by simp) (by simp))
  | abandonments => exact h.of_numbers (numbers_of_fixedBank (by simp) (keys_printers_abandonments s) (by simp) (by simp) (by simp))
  | jobDone n m requeue j r =>
    exact h.of_numbers (numbers_of_fixedBank (by simp) (by cases requeue <;> simp [completeJob, countCompletion]) (by rw [completeJob_frame])
      (by rw [completeJob_frame]) (by rw [completeJob_frame]))
  | second | cause | param | presentation | holdExpiries | retargetJobs | dayBoundary | walk | sweepDone => 
    exact h.of_numbers (by simp [State.numbers])

/-- Every move keeps the tables in order of their numbers. -/
theorem TablesOrdered.move (h : TablesOrdered s) (hm : Move s t) : TablesOrdered t :=
  move_of_parts (P := TablesOrdered) (fun _ _ hp h => h.part hp) h.atom hm h

end

end Sys2Proof.Machine
end

section
/-!
PROOFS. Budgets and badges (R79, R80, R84, R86, R89): the fields of accounts, groups and prices stay in their ranges, and no two
accounts come to carry one token.
-/

namespace Sys2Proof.Machine

/-! ### A property of every record of a table -/

namespace Table

variable {α : Type} {p : α → Prop} {t : Table α}

theorem forall_modify (h : ∀ e ∈ t, p e.2) (n : Nat) {f : α → α} (hf : ∀ x, p x → p (f x)) : ∀ e ∈ t.modify n f, p e.2 := by
  intro e he
  obtain ⟨d, hd, rfl⟩ := List.mem_map.1 he
  split
  · exact hf d.2 (h d hd)
  · exact h d hd

/-- In an ordered table only the record at the number is changed. -/
theorem mem_modify_of_get? (hs : t.Sorted) {n : Nat} {x : α} (hx : t.get? n = some x) {f : α → α} {e : Nat × α}
    (he : e ∈ t.modify n f) : e = (n, f x) ∨ (e ∈ t ∧ e.1 ≠ n) := by
  obtain ⟨d, hd, rfl⟩ := List.mem_map.1 he
  by_cases hn : d.1 = n
  · have hdx : t.get? n = some d.2 := get?_of_mem hs (hn ▸ hd : (n, d.2) ∈ t)
    rw [if_pos hn, hn, Option.some.inj (hdx.symm.trans hx)]
    exact .inl rfl
  · rw [if_neg hn]
    exact .inr ⟨hd, hn⟩

theorem mem_put {n : Nat} {x : α} {e : Nat × α} (he : e ∈ t.put n x) : e = (n, x) ∨ e ∈ t := by
  induction t with
  | nil => simpa [Table.put] using he
  | cons d t ih =>
    obtain ⟨k, v⟩ := d
    simp only [Table.put] at he
    split at he
    · simp only [List.mem_cons] at he ⊢
      tauto
    · split at he
      · simpa using he
      · simp only [List.mem_cons] at he ih ⊢
        tauto

theorem forall_put (h : ∀ e ∈ t, p e.2) (n : Nat) {x : α} (hx : p x) : ∀ e ∈ t.put n x, p e.2 := by
  intro e he
  obtain rfl | he := mem_put he
  · exact hx
  · exact h e he

theorem forall_del (h : ∀ e ∈ t, p e.2) (n : Nat) : ∀ e ∈ t.del n, p e.2 := fun e he => h e (List.mem_of_mem_filter he)

/-- A record stored at a new number is one more. -/
theorem put_perm {n : Nat} (hn : n ∉ t.keys) (x : α) : (t.put n x).Perm ((n, x) :: t) := by
  induction t with
  | nil => exact .refl _
  | cons d t ih =>
    obtain ⟨k, v⟩ := d
    obtain ⟨hk, ht⟩ : n ≠ k ∧ n ∉ Table.keys t := by simpa [Table.keys] using hn
    simp only [Table.put, hk.symm, if_false]
    split
    · exact .refl _
    · exact ((ih ht).cons _).trans (.swap _ _ _)

end Table

/-! ### Ranges of the budgets -/

/-- Accounts, groups and prices lie in their ranges (R79, R86, R89). -/
abbrev Bank.InRange (b : Bank) : Prop :=
  (∀ e ∈ b.accounts, e.2.InRange) ∧ (∀ e ∈ b.groups, e.2.InRange) ∧ (∀ e ∈ b.prices, e.2.InRange)
  ∧ b.accounts.length ≤ Config.accountEntries

section

variable {s t : State}

theorem Bank.InRange.updAccount (h : s.bank.InRange) (n : Nat) {f : Account → Account} (hf : ∀ a, a.InRange → (f a).InRange) :
    (updAccount n f s).bank.InRange := by
  obtain ⟨ha, hg, hp, hl⟩ := h
  exact ⟨Table.forall_modify ha n hf, hg, hp, by simpa using hl⟩

theorem Bank.InRange.updGroup (h : s.bank.InRange) (n : Nat) {f : BudgetGroup → BudgetGroup}
    (hf : ∀ g, g.InRange → (f g).InRange) : (updGroup n f s).bank.InRange := by
  obtain ⟨ha, hg, hp, hl⟩ := h
  exact ⟨ha, Table.forall_modify hg n hf, hp, hl⟩

theorem Bank.InRange.addReservation (h : s.bank.InRange) (n u v : Nat) : (addReservation n u v s).bank.InRange := by
  unfold Machine.addReservation
  split
  · exact h
  · refine Bank.InRange.updGroup (h.updAccount n ?_) _ ?_ <;> exact fun _ h => h

theorem Bank.InRange.markExhausted (h : s.bank.InRange) (n : Nat) : (markExhausted n s).bank.InRange := by
  rw [Machine.markExhausted, setCauseIf_bank]
  exact h.updAccount n fun _ h => h

/-- A settlement takes from the balance down to the least, and from the pool down to 0. -/
theorem Bank.InRange.settle (h : s.bank.InRange) (n : Nat) (r : ReleaseInfo) (c : Nat) : (settle n r c s).bank.InRange := by
  unfold Machine.settle
  split
  · exact h
  · refine Bank.InRange.updGroup (h.updAccount n fun a ha => ?_) _ fun g hg => ?_
    · obtain ⟨htoken, hgroup, -, hmax, hrest⟩ := ha
      refine ⟨htoken, hgroup, le_max_left _ _, ?_, hrest⟩
      have : Config.balanceMin ≤ Config.balanceMax := by decide
      dsimp only
      omega
    · obtain ⟨hpool, hrest⟩ := hg
      exact ⟨(Nat.sub_le _ _).trans hpool, hrest⟩

theorem Bank.InRange.groupStep (h : s.bank.InRange) (n : Nat) : (groupStep n s).bank.InRange := by
  refine h.updGroup n fun g hg => ?_
  split
  · obtain ⟨hpool, ha, hcap, hrest⟩ := hg
    exact ⟨(min_le_right _ _).trans hcap, ha, hcap, hrest⟩
  · exact hg

theorem Bank.InRange.accountStep (h : s.bank.InRange) (n : Nat) : (accountStep n s).bank.InRange := by
  refine h.updAccount n fun a ha => ?_
  split
  · obtain ⟨htoken, hgroup, hmin, hmax, hal, hcap⟩ := ha
    refine ⟨htoken, hgroup, ?_, ?_, hal, hcap⟩ <;> dsimp only
    · have : Config.balanceMin ≤ 0 := by decide
      omega
    · have : Config.balanceMax = 2000000 := rfl
      omega
  · exact ha

theorem clampBalance_range (b : Int) : Config.balanceMin ≤ clampBalance b ∧ clampBalance b ≤ Config.balanceMax := by
  have : Config.balanceMin ≤ Config.balanceMax := by decide
  unfold clampBalance
  omega

theorem tokenField_ne_zero (w : Word) : tokenField w ≠ some 0 := by
  unfold tokenField
  split <;> simp_all

theorem clampPrice_range (v : Nat) : 1 ≤ clampPrice v ∧ clampPrice v ≤ 1000 := by unfold clampPrice; omega

theorem poolAfter_le {mode pool q : Nat} {v : Int} (hpool : pool ≤ Config.poolMax) (h : poolAfter mode v pool = some q) :
    q ≤ Config.poolMax := by
  unfold poolAfter at h
  have : Config.poolMax = 16000000 := rfl
  (repeat' split at h) <;> simp only [Option.some.injEq, reduceCtorEq] at h <;> omega

theorem Bank.InRange.atom (hb : s.bank.InRange) (ha : Atom s t) : t.bank.InRange := by
  obtain ⟨hacc, hgr, hpr, hlen⟩ := id hb
  cases ha with
  | reset => exact (by decide : Bank.InRange resetBank)
  | accountAdd p hn hg hbal hal hcap hv ht hl =>
    refine ⟨Table.forall_put hacc _ ⟨tokenField_ne_zero _, hg, hbal.1, hbal.2, hal, hcap⟩, hgr, hpr, ?_⟩
    exact (Table.length_put_le _ _ _).trans hl
  | accountSet p a _ hg hal hcap =>
    refine hb.updAccount _ fun x hx => ?_
    obtain ⟨-, -, hmin, hmax, -, -⟩ := hx
    exact ⟨tokenField_ne_zero _, hg, hmin, hmax, hal, hcap⟩
  | accountAdjust n v a =>
    refine hb.updAccount n fun x hx => ?_
    obtain ⟨htoken, hgroup, -, -, hrest⟩ := hx
    exact ⟨htoken, hgroup, (clampBalance_range v).1, (clampBalance_range v).2, hrest⟩
  | accountRetire n =>
    rw [retireJobs_frame]
    exact ⟨Table.forall_del hacc n, hgr, hpr, (Table.length_del_le _ _).trans hlen⟩
  | groupSet p pool change hn hp hal hcap hover hper hph =>
    refine ⟨fun e he => ?_, Table.forall_modify hgr _ fun g hg => ?_, hpr, by simpa [refreshMembers] using hlen⟩
    · obtain ⟨d, hd, rfl⟩ := List.mem_map.1 he
      split <;> exact hacc d hd
    · have hpool : (s.groupAt (byteAt p 0)).pool ≤ Config.poolMax := by
        unfold State.groupAt
        cases hget : s.bank.groups.get? (byteAt p 0) with
        | none => decide
        | some g => exact (hgr _ (Table.mem_of_get? hget)).1
      exact ⟨poolAfter_le hpool hp, hal, hcap, hover, hper.1, hper.2, hph⟩
  | priceSet c p =>
    exact ⟨hacc, hgr, Table.forall_put hpr c ⟨clampPrice_range _, clampPrice_range _, clampPrice_range _, clampPrice_range _⟩, hlen⟩
  | jobCancel n j => exact cancelJob_bank (fun s n r c h => Bank.InRange.settle h n r c) j hb
  | _ => exact hb

/-- Every part of a step keeps the budgets in their ranges. -/
theorem Bank.InRange.part (hb : s.bank.InRange) (hp : Part s t) : t.bank.InRange := by
  have hsettle (s : State) (n : Nat) (r : ReleaseInfo) (c : Nat) (h : s.bank.InRange) : (Machine.settle n r c s).bank.InRange :=
    h.settle n r c
  cases hp with
  | serviceState q st => exact setServiceState_bank hsettle q st hb
  | returnUnreleased n => exact returnUnreleased_bank hsettle n hb
  | release n q redirect only =>
    exact releaseDecision_bank (fun s n u v h => Bank.InRange.addReservation h n u v) (fun s n h => Bank.InRange.markExhausted h n)
      n q redirect only hb
  | abandonments => exact abandonments_bank hsettle hb
  | jobDone n m requeue j r => exact completeJob_bank hsettle j r m _ requeue hb
  | groupStep n => exact hb.groupStep n
  | accountStep n => exact hb.accountStep n
  | holdExpiries | checkOverdue | reorderCheck => simpa using hb
  | _ => exact hb

/-! ### Badge tokens (R80) -/

/-- No two accounts of a table carry the same token. -/
abbrev TokensDistinct (x : Table Account) : Prop := (x.filterMap fun e => e.2.token).Nodup

theorem tokensDistinct_iff {x : Table Account} :
    TokensDistinct x ↔ x.Pairwise fun d e => ∀ b, d.2.token = some b → e.2.token ≠ some b := by
  rw [TokensDistinct, List.Nodup, List.pairwise_filterMap]
  refine ⟨fun h => h.imp fun hde b hd he => hde b hd b he rfl, fun h => h.imp fun hde b hd c he hbc => ?_⟩
  exact hde b hd (hbc ▸ he)

/-- The tokens depend on nothing a settlement or a reservation changes. -/
theorem BadgesUnique.of_view (h : BadgesUnique s)
    (hf : Table.view Account.fixed t.bank.accounts = Table.view Account.fixed s.bank.accounts) : BadgesUnique t := by
  have htokens (x : Table Account) : (x.filterMap fun e => e.2.token) = (Table.view Account.fixed x).filterMap fun e => e.2.token := by
    rw [Table.view, List.filterMap_map]
    rfl
  rw [BadgesUnique, htokens, hf, ← htokens]
  exact h

/-- A token without another holder than account `n` is carried by no other account. -/
theorem BadgesUnique.token_ne_of_tokenHolder (h : BadgesUnique s) {n : Nat} {o : Option Word} (hn : s.tokenHolder n o = none)
    {e : Nat × Account} (he : e ∈ s.bank.accounts) (hne : e.1 ≠ n) (b : Word) (hb : o = some b) : e.2.token ≠ some b := by
  subst hb
  intro htoken
  obtain ⟨d, hd⟩ : ∃ d, s.badge b = some d := Option.isSome_iff_exists.1 (List.find?_isSome.2 ⟨e, he, by simp [htoken]⟩)
  have hdb : d.2.token = some b := by simpa using List.find?_some hd
  have hdn : d.1 = n := by
    by_contra hx
    simp [State.tokenHolder, hd, hx] at hn
  have : Std.Symm fun d e : Nat × Account => ∀ b, d.2.token = some b → e.2.token ≠ some b := ⟨fun d e hde b hb hd => hde b hd hb⟩
  exact (tokensDistinct_iff.1 h).forall (List.mem_of_find?_eq_some hd) he (fun hde => hne (hde ▸ hdn)) b hdb htoken

theorem BadgesUnique.atom (h : BadgesUnique s) (ho : TablesOrdered s) (ha : Atom s t) : BadgesUnique t := by
  obtain ⟨-, -, -, -, -, -, -, -, hsorted, -⟩ := ho
  cases ha with
  | reset => exact (by decide : BadgesUnique State.reset)
  | accountAdd p hn hg hbal hal hcap hv ht hl =>
    have hnew : u16 p 0 ∉ Table.keys s.bank.accounts := (Table.get?_eq_none_iff _ _).1 hv
    have hcons : TokensDistinct ((u16 p 0, newAccount p) :: s.bank.accounts) := by
      refine tokensDistinct_iff.2 (List.pairwise_cons.2 ⟨fun e he b hb => ?_, tokensDistinct_iff.1 h⟩)
      exact h.token_ne_of_tokenHolder ht he (fun hx => hnew (hx ▸ List.mem_map_of_mem he)) b hb
    exact ((Table.put_perm hnew _).filterMap _).nodup_iff.2 hcons
  | accountSet p a ha _ _ _ ht =>
    refine tokensDistinct_iff.2 (List.pairwise_map.2 (((List.pairwise_map.1 hsorted).and (tokensDistinct_iff.1 h)).imp_of_mem ?_))
    rintro d e hd he ⟨hlt, hde⟩ b hb
    have hother {c : Nat × Account} (hc : c ∈ s.bank.accounts) (hne : c.1 ≠ u16 p 0) (hb : tokenField (word p 2) = some b) :
        c.2.token ≠ some b := h.token_ne_of_tokenHolder ht hc hne b hb
    by_cases hdn : d.1 = u16 p 0
    · have hen : e.1 ≠ u16 p 0 := by omega
      simp only [hdn, hen, if_true, if_false] at hb ⊢
      exact hother he hen hb
    · simp only [hdn, if_false] at hb
      split
      · exact fun hx => hother hd hdn hx hb
      · exact hde b hb
  | accountAdjust n v a =>
    refine h.of_view (Table.view_modify ?_ _ _)
    exact fun _ => rfl
  | accountRetire n =>
    rw [retireJobs_frame]
    exact List.Nodup.sublist (List.Sublist.filterMap _ List.filter_sublist) h
  | groupSet p pool change =>
    refine h.of_view ?_
    simp only [refreshMembers, updGroup_bank, Table.view, List.map_map, List.map_inj_left, Function.comp_apply]
    intro e _
    split <;> rfl
  | jobCancel n j => exact h.of_view (congrArg Bank.accounts (fixedBank_cancelJob s j))
  | _ => exact h

/-- Every part of a step keeps every token with one account. -/
theorem BadgesUnique.part (h : BadgesUnique s) (hp : Part s t) : BadgesUnique t := by
  have hfix {u : State} (hf : u.fixedBank = s.fixedBank) : BadgesUnique u := h.of_view (congrArg Bank.accounts hf)
  cases hp with
  | serviceState | returnUnreleased | release | abandonments | jobDone | groupStep | accountStep => exact hfix (by simp)
  | holdExpiries | checkOverdue | reorderCheck => exact hfix (fixedBank_of_bank (by simp))
  | _ => exact h

end

/-- Settles O56: each of the three is kept by every part of a step. -/
theorem stepKeepsTablesBudgetsAndBadges : Obligations.StepKeepsTablesBudgetsAndBadges := by
  intro s t hs h
  refine step_of_moves (P := fun u => TablesOrdered u ∧ BudgetsInRange u ∧ BadgesUnique u) (fun u v hm hu => ?_) (fun _ _ h => h) hs h
  obtain ⟨ho, hb, hbadges⟩ := id hu
  exact move_of_parts (P := fun u => TablesOrdered u ∧ BudgetsInRange u ∧ BadgesUnique u)
    (fun _ _ hp ⟨ho, hb, hbadges⟩ => ⟨ho.part hp, Bank.InRange.part hb hp, hbadges.part hp⟩)
    (fun ha => ⟨ho.atom ha, Bank.InRange.atom hb ha, hbadges.atom ho ha⟩) hm hu

end Sys2Proof.Machine
end

section
/-!
PROOFS. The printers seen through a function of their records: each shared operation changes only certain fields of a printer record,
so that a function blind to those fields sees the same printers, under the same numbers, before and after.
-/

namespace Sys2Proof.Machine

open Table (view view_modify view_map)

section

variable {β : Type} {f : Printer → β} (s : State)

theorem view_updPrinter (n : Nat) {g : Printer → Printer} (h : ∀ p, f (g p) = f p) :
    view f (updPrinter n g s).printers = view f s.printers := view_modify h _ _

/-! ### Tickets and judgments -/

section

variable (hd : ∀ (p : Printer) (b : Bool), f { p with deferred := b } = f p)
include hd

theorem view_issueTicket (q : Nat) : view f (issueTicket q s).printers = view f s.printers := by
  unfold issueTicket
  split
  · rfl
  · exact view_updPrinter _ q fun p => hd p false

theorem view_reconcile (acc : State × Nat) (q : Nat) : view f (reconcile acc q).1.printers = view f acc.1.printers := by
  obtain ⟨-, h⟩ | ⟨p, -, ⟨n, t, -, h⟩ | ⟨-, ⟨-, h⟩ | ⟨-, ⟨-, h⟩ | ⟨-, -, h⟩ | ⟨-, -, h⟩⟩⟩⟩ := reconcile_cases acc q <;> rw [h]
  · obtain ⟨-, h⟩ | ⟨t', b, -, h⟩ := reconcileTicket_cases n t p acc.1 acc.2 <;> simp [h]
  · exact view_updPrinter _ q fun p => hd p false
  · exact view_issueTicket _ hd q
  · exact view_updPrinter acc.1 q fun p => hd p true

theorem view_handOver : view f (handOver s).printers = view f s.printers := by
  obtain ⟨-, h⟩ | ⟨q, -, h⟩ := handOver_cases s <;> rw [h]
  exact view_issueTicket s hd q

theorem view_reconcileAll (ps : List Nat) : view f (reconcileAll ps s).printers = view f s.printers :=
  reconcileAll_induct (Q := fun u _ => view f u.printers = view f s.printers) ps
    (fun acc q h => (view_reconcile hd acc q).trans h) (fun u _ h => (view_handOver u hd).trans h) rfl

theorem view_servicePresentation (q : Nat) : view f (servicePresentation q s).1.printers = view f s.printers := by
  unfold servicePresentation
  split
  · rfl
  · split
    · rfl
    · rfl
    · exact view_handOver _ hd

theorem view_routePresentation (st : Station) (token : Word) :
    view f (routePresentation st token s).1.printers = view f s.printers := by
  unfold routePresentation
  split
  · rfl
  · split
    · rfl
    · split
      · rfl
      · split
        · simp
        · exact view_servicePresentation s hd _

theorem view_takePresentation (a : Nat) (token : Word) :
    view f (takePresentation a token s).printers = view f s.printers := by
  unfold takePresentation
  dsimp only
  split
  · rfl
  · exact view_routePresentation _ hd _ _

theorem view_endExchange (ex : Exchange) (v : Verdict) : view f (endExchange ex v s).printers = view f s.printers := by
  have hj (u : State) : view f (judgeExchange ex v u).printers = view f u.printers := by
    unfold judgeExchange
    dsimp only
    split
    · rw [view_takePresentation _ hd]; simp
    · simp
  have hu : view f (if ex.abandoned then { s with line := { s.line with exchange := none } }
      else judgeExchange ex v { s with line := { s.line with exchange := none } }).printers = view f s.printers := by
    split
    · rfl
    · exact hj _
  unfold endExchange
  dsimp only
  split
  · exact hu
  · exact hu

variable (hf : ∀ (p : Printer) (x : KindTable FilterState), f { p with filters := x } = f p)
include hf

theorem view_calloutUpdate (conds types : List Nat) : view f (calloutUpdate conds types s).printers = view f s.printers :=
  calloutUpdate_induct (P := fun u => view f u.printers = view f s.printers) conds types
    (fun u n h => (view_updPrinter u n fun p => hf p _).trans h) (fun ps u h => (view_reconcileAll u hd ps).trans h) rfl

end

/-! ### Cartridges -/

section

variable (hs : ∀ (p : Printer) (i : Nat) (g : Cartridge → Cartridge), f { p with slots := p.slots.modify i g } = f p)
include hs

theorem view_updSlot (q i : Nat) (g : Cartridge → Cartridge) : view f (updSlot q i g s).printers = view f s.printers :=
  view_updPrinter s q fun p => hs p i g

theorem view_retestSlot (q i : Nat) (w : Ripple) : view f (retestSlot q i w).state.printers = view f w.state.printers := by
  unfold retestSlot
  split
  · rfl
  · exact view_updSlot _ hs _ _ _

theorem view_swapSlot (q i n : Nat) (w : Ripple) : view f (swapSlot q i n w).state.printers = view f w.state.printers := by
  unfold swapSlot
  split
  · rfl
  · rw [view_retestSlot hs, takeSwap_printers, view_updSlot _ hs]

theorem view_applyLevel (q i : Nat) (l : Option Nat) (w : Ripple) :
    view f (applyLevel q i l w).state.printers = view f w.state.printers := by
  unfold applyLevel
  split
  · rfl
  · exact view_updSlot _ hs _ _ _
  · split
    · exact view_swapSlot hs _ _ _ _
    · exact (view_retestSlot hs _ _ _).trans (view_updSlot _ hs _ _ _)

theorem view_applyLevels (q i : Nat) (l : List (Option Nat)) (w : Ripple) :
    view f (applyLevels q i l w).state.printers = view f w.state.printers := by
  induction l generalizing i w with
  | nil => rfl
  | cons n l ih => exact (ih _ _).trans (view_applyLevel hs _ _ _ _)

theorem view_changeTypes (q i : Nat) (l : List Nat) (w : Ripple) :
    view f (changeTypes q i l w).state.printers = view f w.state.printers := by
  induction l generalizing i w with
  | nil => rfl
  | cons t l ih =>
    refine (ih _ _).trans ?_
    unfold changeType
    split
    · rfl
    · split
      · rfl
      · split <;> exact view_updSlot _ hs _ _ _

end

/-! ### The service state -/

section

variable (hst : ∀ (p : Printer) (x : ServiceState), f { p with state := x } = f p)
include hst

theorem view_setServiceState (q : Nat) (st : ServiceState) :
    view f (setServiceState q st s).printers = view f s.printers := by
  obtain ⟨-, h⟩ | ⟨p, -, ⟨-, -, h⟩ | ⟨-, h⟩⟩ := setServiceState_cases q st s <;> rw [h]
  · rw [recallPrinter_printers]
    exact view_updPrinter s q fun p => hst p st
  · exact view_updPrinter s q fun p => hst p st

theorem view_deriveState (q : Nat) : view f (deriveState q s).printers = view f s.printers := by
  unfold deriveState
  split
  · rfl
  · exact view_setServiceState s hst q _

theorem view_rederiveState (q : Nat) : view f (rederiveState q s).printers = view f s.printers := by
  unfold rederiveState
  split
  · rfl
  · split
    · rfl
    · exact view_deriveState s hst q

theorem view_silenceExamination (hf : ∀ (p : Printer) (x : KindTable FilterState), f { p with filters := x } = f p) :
    view f (silenceExamination s).printers = view f s.printers := by
  unfold silenceExamination
  refine (foldl_keeps (fun u => view f u.printers) _ (fun u n => view_updPrinter u n fun p => hf p _) _ _).trans ?_
  exact foldl_keeps (fun u => view f u.printers) silencePrinter
    (fun u n => view_setServiceState (setCause .printerSilent u) hst n .silent) _ _

end

/-! ### Timers, reports and completions -/

theorem view_classTickEffect (hf : ∀ (p : Printer) (x : KindTable FilterState), f { p with filters := x } = f p) (n : Nat) :
    view f (classTickEffect n s).printers = view f s.printers := view_map (fun e => hf e.2 _) _

theorem view_abandonments (hj : ∀ (p : Printer) (x : Word), f { p with jobsAbandoned := x } = f p) :
    view f (abandonments s).printers = view f s.printers := by
  rw [abandonments, setCauseIf_printers]
  refine foldl_keeps (fun u => view f u.printers) _ (fun u j => ?_) _ s
  unfold abandonJob
  split
  · rw [retireJob_printers]
    refine (view_updPrinter _ _ ?_).trans (by rw [settle_printers])
    exact fun p => hj p _
  · rfl

theorem view_completeJob (hj : ∀ (p : Printer) (x y : Word), f { p with jobsCompleted := x, sidesCompleted := y } = f p)
    (j : Job) (r : ReleaseInfo) (n c : Nat) (requeue : Bool) :
    view f (completeJob j r n c requeue s).printers = view f s.printers := by
  have h : (completeJob j r n c requeue s).printers = (updPrinter r.printer (fun q => { q with
      jobsCompleted := q.jobsCompleted + 1, sidesCompleted := q.sidesCompleted + BitVec.ofNat 32 n }) s).printers := by
    cases requeue <;> simp [completeJob, countCompletion]
  rw [h]
  exact view_updPrinter s _ fun p => hj p _ _

end

/-! ### The numbers of the printers -/

section

variable (s : State)

/-- Operations that a blind function does not see keep the numbers. -/
theorem keys_printers_of_view {s t : State} (h : view (fun _ => ()) t.printers = view (fun _ => ()) s.printers) :
    Table.keys t.printers = Table.keys s.printers := Table.keys_eq_of_view_eq h

@[simp] theorem keys_printers_reconcileAll (ps : List Nat) : Table.keys (reconcileAll ps s).printers = Table.keys s.printers :=
  keys_printers_of_view (view_reconcileAll s (fun _ _ => rfl) ps)

@[simp] theorem keys_printers_calloutUpdate (cs ts : List Nat) :
    Table.keys (calloutUpdate cs ts s).printers = Table.keys s.printers :=
  keys_printers_of_view (view_calloutUpdate s (fun _ _ => rfl) (fun _ _ => rfl) cs ts)

@[simp] theorem keys_printers_handOver : Table.keys (handOver s).printers = Table.keys s.printers :=
  keys_printers_of_view (view_handOver s fun _ _ => rfl)

@[simp] theorem keys_printers_endExchange (ex : Exchange) (v : Verdict) :
    Table.keys (endExchange ex v s).printers = Table.keys s.printers :=
  keys_printers_of_view (view_endExchange s (fun _ _ => rfl) ex v)

@[simp] theorem keys_printers_applyLevels (q i : Nat) (l : List (Option Nat)) (w : Ripple) :
    Table.keys (applyLevels q i l w).state.printers = Table.keys w.state.printers :=
  keys_printers_of_view (view_applyLevels (fun _ _ _ => rfl) q i l w)

@[simp] theorem keys_printers_changeTypes (q i : Nat) (l : List Nat) (w : Ripple) :
    Table.keys (changeTypes q i l w).state.printers = Table.keys w.state.printers :=
  keys_printers_of_view (view_changeTypes (fun _ _ _ => rfl) q i l w)

@[simp] theorem keys_printers_swapSlot (q i n : Nat) (w : Ripple) :
    Table.keys (swapSlot q i n w).state.printers = Table.keys w.state.printers :=
  keys_printers_of_view (view_swapSlot (fun _ _ _ => rfl) q i n w)

@[simp] theorem keys_printers_retestSlot (q i : Nat) (w : Ripple) :
    Table.keys (retestSlot q i w).state.printers = Table.keys w.state.printers :=
  keys_printers_of_view (view_retestSlot (fun _ _ _ => rfl) q i w)

@[simp] theorem keys_printers_updSlot (q i : Nat) (g : Cartridge → Cartridge) :
    Table.keys (updSlot q i g s).printers = Table.keys s.printers := by simp [updSlot]

@[simp] theorem keys_printers_deriveState (q : Nat) : Table.keys (deriveState q s).printers = Table.keys s.printers :=
  keys_printers_of_view (view_deriveState s (fun _ _ => rfl) q)

@[simp] theorem keys_printers_rederiveState (q : Nat) : Table.keys (rederiveState q s).printers = Table.keys s.printers :=
  keys_printers_of_view (view_rederiveState s (fun _ _ => rfl) q)

@[simp] theorem keys_printers_applyCounters (q : Nat) (m c : Word) (dm dc : CounterDelta) :
    Table.keys (applyCounters q m c dm dc s).printers = Table.keys s.printers := by simp [applyCounters]

@[simp] theorem keys_printers_applyReport (q : Nat) (pr : Printer) (kinds levels : List Nat) (m c : Word) :
    Table.keys (applyReport q pr kinds levels m c s).printers = Table.keys s.printers := by simp [applyReport]

@[simp] theorem keys_printers_applyPrinterSet (q floor cls : Nat) (caps : Capabilities) (types : List Nat) (clear : Bool) :
    Table.keys (applyPrinterSet q floor cls caps types clear s).printers = Table.keys s.printers := by simp [applyPrinterSet]

@[simp] theorem keys_printers_applySwapped (q i : Nat) :
    Table.keys (applySwapped q i s).printers = Table.keys s.printers := by simp [applySwapped]

@[simp] theorem keys_printers_applySeed (q i e r : Nat) :
    Table.keys (applySeed q i e r s).printers = Table.keys s.printers := by simp [applySeed]

@[simp] theorem keys_printers_defineType (n : Nat) (ty : CartridgeType) :
    Table.keys (defineType n ty s).1.printers = Table.keys s.printers := by
  unfold defineType
  dsimp only
  split <;> simp

@[simp] theorem keys_printers_applyReceive (n q : Nat) (r : Requisition) (shelf : Nat) :
    Table.keys (applyReceive n q r shelf s).printers = Table.keys s.printers := by
  unfold applyReceive
  dsimp only
  (repeat' split) <;> simp

@[simp] theorem keys_printers_sweepPrinterWalk (n : Nat) :
    Table.keys (sweepPrinterWalk n s).printers = Table.keys s.printers := by
  unfold sweepPrinterWalk
  split <;> simp [sweepPrinter]

@[simp] theorem keys_printers_completeJob (j : Job) (r : ReleaseInfo) (n c : Nat) (requeue : Bool) :
    Table.keys (completeJob j r n c requeue s).printers = Table.keys s.printers :=
  keys_printers_of_view (view_completeJob s (fun _ _ _ => rfl) j r n c requeue)

@[simp] theorem keys_printers_runTimer (u : Timer) : Table.keys (runTimer u s).printers = Table.keys s.printers := by
  cases u with
  | silence => exact keys_printers_of_view (view_silenceExamination s (fun _ _ => rfl) fun _ _ => rfl)
  | tick n => exact keys_printers_of_view (view_classTickEffect s (fun _ _ => rfl) n)
  | abandonment => exact keys_printers_of_view (view_abandonments s fun _ _ => rfl)
  | takeTimeout => exact congrArg Table.keys (takeTimeouts_printers s)
  | holdExpiry => exact congrArg Table.keys (holdExpiries_printers s)
  | escalation => exact congrArg Table.keys (escalations_printers s)
  | quiet => exact congrArg Table.keys (quietTimer_printers s)
  | dayBoundary => rfl

end

end Sys2Proof.Machine
end

section
/-!
PROOFS. The line, the bindings and the sweep (R117, R122 to R124, R129 to R133, R157, R164 to R167): which moves touch the station line
and how, and that each of the three stays sound.
-/

namespace Sys2Proof.Machine

open Table (view view_modify view_map)

variable {s t : State}

/-! ### Which moves touch the line -/

theorem line_applyRetire (q : Nat) (pr : Printer) (s : State) : (applyRetire q pr s).line = (unbindStations q s).line := by
  obtain ⟨-, h⟩ | ⟨n, k, -, h⟩ := applyRetire_cases s q pr <;> rw [h] <;> simp

theorem keys_printers_applyRetire (q : Nat) (pr : Printer) (s : State) :
    Table.keys (applyRetire q pr s).printers = Table.keys (s.printers.del q) := by
  obtain ⟨-, h⟩ | ⟨n, k, -, h⟩ := applyRetire_cases s q pr <;> rw [h] <;> simp

/-- A deed leaves the line and the numbers of the printers, or is an atom, the end of an exchange or the retirement of a
printer. -/
theorem Deed.line_cases (h : Deed s t) :
    (t.line = s.line ∧ Table.keys t.printers = Table.keys s.printers) ∨ Atom s t
    ∨ (∃ ex v, s.line.exchange = some ex ∧ t = endExchange ex v s) ∨ ∃ q pr, t = applyRetire q pr s := by
  cases h with
  | atom h => exact .inr (.inl h)
  | exchangeEnd ex v h => exact .inr (.inr (.inl ⟨ex, v, h, rfl⟩))
  | printerRetire q pr => exact .inr (.inr (.inr ⟨q, pr, rfl⟩))
  | sweepPrinter => exact .inl ⟨by rw [sweepPrinterWalk_frame], by simp⟩
  | sweepGroup => exact .inl ⟨by rw [sweepGroupWalk_frame], by rw [sweepGroupWalk_frame]⟩
  | sweepAccount => exact .inl ⟨by rw [sweepAccountWalk_frame], by rw [sweepAccountWalk_frame]⟩
  | sweepType => exact .inl ⟨by rw [sweepTypeWalk_frame], by rw [sweepTypeWalk_frame]⟩
  | printerSet => exact .inl ⟨by rw [applyPrinterSet_frame], by simp⟩
  | cartridgeSwapped => exact .inl ⟨by rw [applySwapped_frame], by simp⟩
  | cartridgeSeed => exact .inl ⟨by rw [applySeed_frame], by simp⟩
  | typeDefine => exact .inl ⟨by rw [defineType_frame], by simp⟩
  | reqReceive => exact .inl ⟨by rw [applyReceive_frame], by simp⟩
  | jobDone => exact .inl ⟨by rw [completeJob_frame], by simp⟩
  | paramSet i v => exact .inl ⟨by simp, by unfold storeParam; dsimp only; split <;> simp⟩
  | _ => exact .inl ⟨by simp, by simp⟩

/-- Of the second event only the quiet timer touches the line. -/
theorem Move.line_cases (h : Move s t) :
    (t.line = s.line ∧ Table.keys t.printers = Table.keys s.printers) ∨ Deed s t ∨ t = quietTimer s := by
  cases h with
  | deed h => exact .inr (.inl h)
  | second => exact .inl ⟨rfl, rfl⟩
  | reconcile => exact .inl ⟨by simp, by simp⟩
  | timer u =>
    by_cases hu : u = .quiet
    · exact .inr (.inr (by rw [hu]; rfl))
    · refine .inl ⟨?_, by simp⟩
      cases u with
      | quiet => exact absurd rfl hu
      | tick | dayBoundary => rfl
      | silence => exact silenceExamination_line s
      | abandonment => exact abandonments_line s
      | takeTimeout => exact takeTimeouts_line s
      | holdExpiry => exact holdExpiries_line s
      | escalation => exact escalations_line s

/-! ### The station records -/

section

variable {listed : Bool} {st : Station}

theorem Station.Sound.set (h : st.Sound listed) (bound : Option Nat) (mode : AcceptMode) (redirect clear : Bool) :
    (st.set bound mode redirect clear).Sound listed := by
  unfold Station.set
  dsimp only
  split <;> exact h

theorem Station.Sound.unbound (h : st.Sound listed) (q : Nat) : (st.unbound q).Sound listed := by
  unfold Station.unbound
  split <;> exact h

theorem Station.Sound.posted (h : st.Sound listed) (m : Message) :
    (if st.state = .alive ∨ st.state = .unknown then { st with slot := some m } else st).Sound listed := by
  obtain ⟨hstate, hslot, hcounts⟩ := h
  split
  · next hp => exact ⟨hstate, fun _ => hp, hcounts⟩
  · exact ⟨hstate, hslot, hcounts⟩

theorem Station.Sound.enlivened (h : st.Sound true) (limit : Nat) (v : Verdict) : (st.enlivened limit v).Sound true := by
  obtain ⟨hstate, hslot, hmisses, hcounts⟩ := h
  unfold Station.enlivened
  dsimp only
  split
  · exact ⟨by simp, fun _ => .inl rfl, by simp, hcounts⟩
  · split
    · exact ⟨by simp, by simp, by dsimp only; omega, hcounts⟩
    · exact ⟨hstate, hslot, by dsimp only; omega, hcounts⟩

theorem Station.Sound.noised (h : st.Sound listed) (limit : Nat) (v : Verdict) : (st.noised limit v).Sound listed := by
  obtain ⟨hstate, hslot, hmisses, hpolls, hbad⟩ := h
  unfold Station.noised
  dsimp only
  split
  · exact ⟨hstate, hslot, hmisses, by simp, by simp⟩
  · exact ⟨hstate, hslot, hmisses, by dsimp only; omega, by dsimp only; split <;> omega⟩

theorem Station.Sound.delivered (h : st.Sound listed) (carried : Option Message) (v : Verdict) :
    (st.delivered carried v).Sound listed := by
  obtain ⟨hstate, -, hcounts⟩ := id h
  unfold Station.delivered
  split
  · exact ⟨hstate, by simp, hcounts⟩
  · exact h

theorem Station.Sound.relisted {was is : Bool} (h : st.Sound was) : (st.relisted was is).Sound is := by
  obtain ⟨hstate, -, -, hcounts⟩ := id h
  unfold Station.relisted
  split
  · next hl => exact ⟨by simp_all, by simp, by simp, hcounts⟩
  · next hl =>
    split
    · exact ⟨by simp_all, fun _ => .inr rfl, by simp, by simp, by simp⟩
    · have : was = is := by revert hl; cases was <;> cases is <;> simp_all
      exact this ▸ h

theorem Station.Sound.disabled (h : st.Sound listed) : st.disabled.Sound listed := by
  obtain ⟨hstate, -, hmisses, hcounts⟩ := h
  unfold Station.disabled
  split
  · exact ⟨hstate, by simp, hmisses, hcounts⟩
  · next hu => exact ⟨by simpa [hu] using hstate, by simp, by simp, hcounts⟩

end

/-! ### The line -/

/-- What an exchange in progress asks of the line. -/
abbrev Line.Carries (l : Line) (ex : Exchange) : Prop :=
  l.enabled = true ∧ l.gap = none ∧ (ex.abandoned = false → ex.station ∈ l.calendar)

/-- The invariant of the line, under the names of its parts. -/
structure Line.Sound (l : Line) : Prop where
  off_iff : l.regime = .off ↔ l.enabled = false ∨ l.calendar = []
  walk : l.walk < max 1 l.calendar.length
  length : l.calendar.length ≤ 256
  listed : ∀ a ∈ l.calendar, isStation a = true
  window : 2 ≤ l.window ∧ l.window ≤ 50
  exchange : ∀ ex ∈ l.exchange, l.Carries ex
  answer : ∀ a ∈ l.answer, l.enabled = true ∧ a ∈ l.calendar
  loading : ∀ x ∈ l.loading, x.2.length < x.1 ∧ x.1 ≤ 256 ∧ ∀ a ∈ x.2, isStation a = true
  gap : l.gap.isSome = true → l.regime = .sparse
  stations : ∀ e ∈ l.stations, e.2.Sound (l.calendar.contains e.1)

theorem lineSound_iff : LineSound s ↔ s.line.Sound := by
  constructor
  · rintro ⟨h₁, h₂, h₃, h₄, h₅, h₆, h₇, h₈, h₉, h₁₀, h₁₁⟩
    exact ⟨h₁, h₂, h₃, h₄, ⟨h₅, h₆⟩, h₇, h₈, h₉, h₁₀, h₁₁⟩
  · intro h
    exact ⟨h.off_iff, h.walk, h.length, h.listed, h.window.1, h.window.2, h.exchange, h.answer, h.loading, h.gap, h.stations⟩

theorem exchange_judgeExchange (s : State) (ex : Exchange) (v : Verdict) :
    (judgeExchange ex v s).line.exchange = s.line.exchange := by
  unfold judgeExchange takePresentation
  dsimp only
  split
  · split <;> simp [postMessage]
  · simp

namespace Line.Sound

variable {l : Line}

theorem withStations (h : l.Sound) {x : Table Station} (hx : ∀ e ∈ x, e.2.Sound (l.calendar.contains e.1)) :
    Line.Sound { l with stations := x } := { h with stations := hx }

theorem mapStations (h : l.Sound) {f : Station → Station} (hf : ∀ st b, st.Sound b → (f st).Sound b) :
    Line.Sound { l with stations := l.stations.map fun e => (e.1, f e.2) } := by
  refine h.withStations fun e he => ?_
  obtain ⟨d, hd, rfl⟩ := List.mem_map.1 he
  exact hf _ _ (h.stations d hd)

theorem modifyStation (h : l.Sound) (a : Nat) {f : Station → Station} (hf : ∀ st b, st.Sound b → (f st).Sound b) :
    Line.Sound { l with stations := l.stations.modify a f } := by
  refine h.withStations fun e he => ?_
  obtain ⟨d, hd, rfl⟩ := List.mem_map.1 he
  split
  · exact hf _ _ (h.stations d hd)
  · exact h.stations d hd

theorem enabled_of_regime (h : l.Sound) (hr : l.regime ≠ .off) : l.enabled = true ∧ l.calendar ≠ [] := by
  simpa using mt h.off_iff.2 hr

theorem on_of_listed (h : l.Sound) (he : l.enabled = true) {a : Nat} (ha : a ∈ l.calendar) : l.regime ≠ .off := by
  intro hr
  obtain hd | hc := h.off_iff.1 hr
  · simp [he] at hd
  · simp [hc] at ha

theorem dropExchange (h : l.Sound) : Line.Sound { l with exchange := none } := { h with exchange := by simp }

theorem period (h : l.Sound) : Line.Sound { l with exchange := l.exchange.map Exchange.period } := by
  refine { h with exchange := ?_ }
  simp only [Option.mem_def, Option.map_eq_some_iff]
  rintro ex ⟨old, ho, rfl⟩
  have := h.exchange old ho
  unfold Exchange.period
  split <;> exact this

/-- An exchange begins with a listed station of an enabled line. -/
theorem beginExchange (h : l.Sound) (he : l.enabled = true) {ex : Exchange} (hx : ex.station ∈ l.calendar) {x : Option Nat}
    (ha : ∀ a ∈ x, a ∈ l.answer) : Line.Sound { l with exchange := some ex, gap := none, answer := x } :=
  { h with
    exchange := by rintro _ ⟨⟩; exact ⟨he, rfl, fun _ => hx⟩
    answer := fun a hm => h.answer a (ha a hm)
    gap := by simp }

theorem advanced (h : l.Sound) : l.advanced.Sound := by
  refine { h with walk := ?_ }
  unfold Line.advanced
  dsimp only
  split <;> omega

theorem disable (h : l.Sound) : (Line.disable { l with enabled := false }).Sound := by
  have hst := (h.mapStations (f := Station.disabled) fun st b hb => hb.disabled).stations
  exact { h with
    off_iff := by simp [Line.disable]
    exchange := by simp [Line.disable]
    answer := by simp [Line.disable]
    gap := by simp [Line.disable]
    stations := hst }

/-- With the line disabled there is neither an exchange nor an answer poll, and the regime is OFF. -/
theorem idle_of_disabled (h : l.Sound) (hd : l.enabled = false) :
    l.exchange = none ∧ l.answer = none ∧ l.regime = .off := by
  refine ⟨?_, ?_, h.off_iff.2 (.inl hd)⟩
  · refine Option.eq_none_iff_forall_not_mem.2 fun ex hx => ?_
    have := (h.exchange ex hx).1
    simp [hd] at this
  · refine Option.eq_none_iff_forall_not_mem.2 fun a ha => ?_
    have := (h.answer a ha).1
    simp [hd] at this

theorem reregimed (h : ∀ ex ∈ l.exchange, l.Carries ex) (ha : ∀ a ∈ l.answer, l.enabled = true ∧ a ∈ l.calendar)
    (hreg : l.enabled = false → l.regime = .off) (hgap : l.gap.isSome = true → l.regime = .sparse) (hw : l.walk = 0)
    (hlen : l.calendar.length ≤ 256) (hl : ∀ a ∈ l.calendar, isStation a = true) (hwin : 2 ≤ l.window ∧ l.window ≤ 50)
    (hld : l.loading = none) (hst : ∀ e ∈ l.stations, e.2.Sound (l.calendar.contains e.1)) (now : Word) :
    (l.reregimed now).Sound := by
  have hload : ∀ x ∈ l.loading, x.2.length < x.1 ∧ x.1 ≤ 256 ∧ ∀ a ∈ x.2, isStation a = true := by simp [hld]
  have hwalk : l.walk < max 1 l.calendar.length := by omega
  unfold Line.reregimed
  split
  · next hc =>
    have hc : l.calendar = [] := by simpa using hc
    exact ⟨by simp [hc], hwalk, hlen, hl, hwin, fun ex hx => ⟨(h ex hx).1, rfl, (h ex hx).2.2⟩, ha, hload, by simp, hst⟩
  · next hc =>
    have hc : l.calendar ≠ [] := by simpa using hc
    split
    · next he =>
      have he : l.enabled = true := by simp_all
      exact ⟨by simp [Line.toFull, he, hc], by simp only [Line.toFull]; omega, hlen, hl, hwin,
        fun ex hx => ⟨he, rfl, (h ex hx).2.2⟩, ha, hload, by simp [Line.toFull], hst⟩
    · next hoff =>
      refine ⟨⟨fun hr => ?_, fun hd => hreg (hd.resolve_right hc)⟩, hwalk, hlen, hl, hwin, h, ha, hload, hgap, hst⟩
      exact .inl (by simpa [hr] using hoff)

/-- A calendar installed whole leaves the line sound. -/
theorem install (h : s.line.Sound) {cal : List Nat} (hlen : cal.length ≤ 256)
    (hl : ∀ a ∈ cal, isStation a = true) : (installCalendar cal s).line.Sound := by
  unfold installCalendar
  dsimp only
  refine reregimed ?_ ?_ (fun hd => ?_) (fun hg => ?_) rfl hlen hl ?_ rfl ?_ s.now
  · intro ex hx
    obtain ⟨old, ho, rfl⟩ := Option.map_eq_some_iff.1 hx
    obtain ⟨hen, hgap, -⟩ := h.exchange old ho
    exact ⟨hen, hgap, fun ha => by simpa [Exchange.recalendared] using (Bool.or_eq_false_iff.1 ha).2⟩
  · intro a ha
    obtain ⟨ha, hc⟩ := Option.filter_eq_some_iff.1 ha
    exact ⟨(h.answer a ha).1, by simpa using hc⟩
  · exact (h.idle_of_disabled hd).2.2
  · exact h.gap hg
  · exact h.window
  · intro e he
    obtain ⟨d, hd, rfl⟩ := List.mem_map.1 he
    exact (h.stations d hd).relisted

theorem apply (h : l.Sound) (now : Word) (enable : Bool) (rate : LineRate) {w : Nat} (hw : 2 ≤ w ∧ w ≤ 50) :
    (l.apply now enable rate w).Sound := by
  have hset : Line.Sound { l with rate := rate, window := w } := { h with window := hw }
  unfold Line.apply
  dsimp only
  split
  · next hd =>
    obtain rfl : enable = false := by simp_all
    exact hset.disable
  · next hd =>
    cases enable with
    | false =>
      obtain hd : l.enabled = false := by simpa using hd
      rw [if_neg (by simp)]
      simpa only [hd] using hset
    | true =>
      by_cases he : l.enabled = true
      · simpa [he] using hset
      · obtain ⟨hex, hans, hoff⟩ := h.idle_of_disabled (Bool.eq_false_iff.2 he)
        by_cases hc : l.calendar = []
        · have hen : Line.Sound { l with enabled := true, rate := rate, window := w } :=
            { hset with off_iff := by simp [hoff, hc], exchange := by simp [hex], answer := by simp [hans] }
          simpa [he, hc] using hen
        · have hen : Line.Sound (Line.toFull now { l with enabled := true, rate := rate, window := w }) :=
            { hset with
              off_iff := by simp [Line.toFull, hc]
              walk := by simp only [Line.toFull]; omega
              exchange := by simp [Line.toFull, hex]
              answer := by simp [Line.toFull, hans]
              gap := by simp [Line.toFull] }
          simpa [he, hc] using hen

/-! #### The end of an exchange -/

theorem withAnswer (h : l.Sound) (hen : l.enabled = true) {a : Nat} (ha : a ∈ l.calendar) :
    Line.Sound { l with answer := some a } := { h with answer := by rintro _ ⟨⟩; exact ⟨hen, ha⟩ }

theorem becomeFull (h : l.Sound) (hen : l.enabled = true) {a : Nat} (ha : a ∈ l.calendar) (now : Word) :
    Line.Sound { l with regime := .full, quietStamp := now, gap := none } :=
  { h with
    off_iff := by simp [hen, List.ne_nil_of_mem ha]
    exchange := fun ex hx => ⟨hen, rfl, (h.exchange ex hx).2.2⟩
    gap := by simp }

/-- With no exchange in progress the gap of a SPARSE line begins. -/
theorem withGap (h : l.Sound) (hex : l.exchange = none) (n : Nat) :
    Line.Sound (if l.regime = .sparse then { l with gap := some n } else l) := by
  split
  · next hr => exact { h with exchange := by simp [hex], gap := fun _ => hr }
  · exact h

theorem updStation (h : s.line.Sound) (a : Nat) {f : Station → Station} (hf : ∀ st b, st.Sound b → (f st).Sound b) :
    (updStation a f s).line.Sound := h.modifyStation a hf

/-- A good PRESENT of a listed station of an enabled line. -/
theorem takePresentation (h : s.line.Sound) (hen : s.line.enabled = true) {a : Nat} (ha : a ∈ s.line.calendar) (token : Word) :
    (takePresentation a token s).line.Sound := by
  have hm : (Machine.updStation a (fun st => { st with last := some (token, s.now) }) s).line.Sound :=
    h.updStation a fun st b hb => hb
  unfold Machine.takePresentation
  dsimp only
  split
  · exact hm
  · have hnow : Line.Sound { (Machine.updStation a (fun st => { st with last := some (token, s.now) }) s).line with
        regime := .full, quietStamp := s.now, gap := none } := hm.becomeFull hen ha _
    refine withAnswer (h := Line.Sound.updStation (by rw [routePresentation_line]; exact hnow) a fun st b hb => hb.posted _) ?_ ?_
    · simpa [Machine.updStation] using hen
    · simpa [Machine.updStation] using ha

/-- A judged exchange of a listed station. -/
theorem judgeExchange (h : s.line.Sound) (hs : s.line.stations.Sorted) (hen : s.line.enabled = true) {ex : Exchange}
    (ha : ex.station ∈ s.line.calendar) (v : Verdict) : (judgeExchange ex v s).line.Sound := by
  have hc : s.line.calendar.contains ex.station = true := by simpa using ha
  have hu : (Machine.updStation ex.station (fun _ => ((((s.stationAt ex.station).counted v).enlivened s.params.missLimit v).noised
      s.params.noiseLimit v).delivered ex.carried v) s).line.Sound := by
    refine h.withStations fun e he => ?_
    obtain ⟨d, hd, rfl⟩ := List.mem_map.1 he
    split
    · next hn =>
      have hat : s.stationAt ex.station = d.2 := by
        simp [State.stationAt, Table.get?_of_mem hs (hn ▸ hd : (ex.station, d.2) ∈ s.line.stations)]
      have hcounted : (d.2.counted v).Sound true := hc ▸ hn ▸ h.stations d hd
      dsimp only
      rw [hat, hn, hc]
      exact ((hcounted.enlivened _ v).noised _ v).delivered _ v
    · exact h.stations d hd
  unfold Machine.judgeExchange
  dsimp only
  split
  · exact takePresentation (by simpa using hu) (by simpa using hen) (by simpa using ha) _
  · simpa using hu

theorem endExchange (h : s.line.Sound) (hs : s.line.stations.Sorted) {ex : Exchange} (hex : s.line.exchange = some ex)
    (v : Verdict) : (endExchange ex v s).line.Sound := by
  obtain ⟨hen, -, hlisted⟩ := h.exchange ex hex
  have hdrop := h.dropExchange
  have hj : (if ex.abandoned then { s with line := { s.line with exchange := none } }
      else Machine.judgeExchange ex v { s with line := { s.line with exchange := none } }).line.Sound := by
    split
    · exact hdrop
    · next hab =>
      exact judgeExchange (s := { s with line := { s.line with exchange := none } }) hdrop hs hen (hlisted (by simpa using hab)) v
  have hx : (if ex.abandoned then { s with line := { s.line with exchange := none } }
      else Machine.judgeExchange ex v { s with line := { s.line with exchange := none } }).line.exchange = none := by
    split
    · rfl
    · exact exchange_judgeExchange _ ex v
  unfold Machine.endExchange
  dsimp only
  revert hj hx
  generalize (if ex.abandoned then { s with line := { s.line with exchange := none } }
      else Machine.judgeExchange ex v { s with line := { s.line with exchange := none } }) = u
  intro hj hx
  split
  · exact hj
  · cases ex.walkFixed with
    | true => exact hj.withGap hx _
    | false => exact hj.advanced.withGap hx _

end Line.Sound

theorem eq_resetStation {e : Nat × Station} (he : e ∈ resetLine.stations) : e.2 = resetStation := by
  obtain ⟨a, -, rfl⟩ := List.mem_map.1 he
  rfl

theorem Line.Sound.reset : resetLine.Sound where
  off_iff := by simp [resetLine]
  walk := by simp [resetLine]
  length := by simp [resetLine]
  listed := by simp [resetLine]
  window := by simp [resetLine]
  exchange := by simp [resetLine]
  answer := by simp [resetLine]
  loading := by simp [resetLine]
  gap := by simp [resetLine]
  stations := by
    intro e he
    rw [eq_resetStation he]
    exact (by decide : resetStation.Sound false)

/-- Every atom keeps the line sound. -/
theorem Line.Sound.atom (h : s.line.Sound) (ha : Atom s t) : t.line.Sound := by
  cases ha with
  | dropExchange => exact h.dropExchange
  | reset => exact .reset
  | linePeriod => exact h.period
  | calendarPoll a hr hc =>
    exact h.beginExchange (h.enabled_of_regime hr).1 (List.mem_of_getElem? hc) fun _ hx => hx
  | answerPoll a hx => exact h.beginExchange (h.answer a hx).1 (h.answer a hx).2 (by simp)
  | stationSet a bound mode redirect clear => exact h.updStation a fun _ _ hb => hb.set bound mode redirect clear
  | calendarLoad total got hg ht hst =>
    refine { h with loading := ?_ }
    rintro _ ⟨⟩
    exact ⟨hg, ht, fun a ha => (hst a ha).elim id fun ⟨l, hl, hal⟩ => (h.loading l hl).2.2 a hal⟩
  | calendarInstall got ht hst =>
    exact h.install ht fun a ha => (hst a ha).elim id fun ⟨l, hl, hal⟩ => (h.loading l hl).2.2 a hal
  | lineSet enable rate w hw => exact h.apply _ enable rate hw
  | accountRetire => rw [retireJobs_frame]; exact h
  | jobCancel n j => rw [cancelJob_frame]; exact h
  | _ => exact h

theorem TablesOrdered.stations_sorted (h : TablesOrdered s) : s.line.stations.Sorted := by
  obtain ⟨-, -, -, -, -, -, -, -, -, -, -, -, h⟩ := h
  rw [Table.Sorted, h]
  exact List.pairwise_lt_range'

/-- Every move keeps the line sound. -/
theorem Line.Sound.move (h : s.line.Sound) (ho : TablesOrdered s) (hm : Move s t) : t.line.Sound := by
  obtain ⟨hl, -⟩ | hd | rfl := hm.line_cases
  · rwa [hl]
  · obtain ⟨hl, -⟩ | ha | ⟨ex, v, hex, rfl⟩ | ⟨q, pr, rfl⟩ := hd.line_cases
    · rwa [hl]
    · exact h.atom ha
    · exact h.endExchange ho.stations_sorted hex v
    · rw [line_applyRetire]
      exact h.mapStations fun _ _ hb => hb.unbound q
  · unfold quietTimer
    split
    · next hq => exact { h with off_iff := by simpa [hq.1] using h.off_iff, gap := fun _ => rfl }
    · exact h

/-! ### The bindings -/

/-- The bindings depend on what the stations are bound to and on the numbers of the printers. -/
theorem bindingsSound_iff :
    BindingsSound s ↔ ∀ e ∈ view Station.bound s.line.stations, ∀ q ∈ e.2, q ∈ Table.keys s.printers := by
  simp only [BindingsSound, view, List.forall_mem_map, Table.get?_isSome_iff]

theorem BindingsSound.of_bound (h : BindingsSound s) (hb : view Station.bound t.line.stations = view Station.bound s.line.stations)
    (hk : ∀ q ∈ Table.keys s.printers, q ∈ Table.keys t.printers) : BindingsSound t := by
  rw [bindingsSound_iff, hb]
  exact fun e he q hq => hk q (bindingsSound_iff.1 h e he q hq)

theorem bound_reregimed (now : Word) (l : Line) :
    view Station.bound (l.reregimed now).stations = view Station.bound l.stations := by
  unfold Line.reregimed
  (repeat' split) <;> rfl

theorem bound_installCalendar (cal : List Nat) (s : State) :
    view Station.bound (installCalendar cal s).line.stations = view Station.bound s.line.stations := by
  refine (bound_reregimed _ _).trans (view_map (fun e => ?_) _)
  unfold Station.relisted
  (repeat' split) <;> rfl

theorem bound_apply (now : Word) (enable : Bool) (rate : LineRate) (w : Nat) (l : Line) :
    view Station.bound (l.apply now enable rate w).stations = view Station.bound l.stations := by
  unfold Line.apply
  dsimp only
  (repeat' split)
  · refine view_map (fun e => ?_) _
    unfold Station.disabled
    split <;> rfl
  · rfl
  · rfl

theorem bound_updStation (a : Nat) {f : Station → Station} (hf : ∀ st, (f st).bound = st.bound) (s : State) :
    view Station.bound (updStation a f s).line.stations = view Station.bound s.line.stations := view_modify hf _ a

theorem bound_postMessage (a : Nat) (m : Message) (s : State) :
    view Station.bound (postMessage a m s).line.stations = view Station.bound s.line.stations :=
  bound_updStation a (fun st => by split <;> rfl) s

theorem bound_takePresentation (a : Nat) (token : Word) (s : State) :
    view Station.bound (takePresentation a token s).line.stations = view Station.bound s.line.stations := by
  have hm := bound_updStation a (f := fun st => { st with last := some (token, s.now) }) (fun _ => rfl) s
  unfold takePresentation
  dsimp only
  split
  · exact hm
  · exact (bound_postMessage a _ _).trans (by rw [routePresentation_line]; exact hm)

theorem bound_judgeExchange (hs : s.line.stations.Sorted) (ex : Exchange) (v : Verdict) :
    view Station.bound (judgeExchange ex v s).line.stations = view Station.bound s.line.stations := by
  have hkeep (limit noise : Nat) (carried : Option Message) (st : Station) :
      ((((st.counted v).enlivened limit v).noised noise v).delivered carried v).bound = st.bound := by
    unfold Station.delivered Station.noised Station.enlivened
    dsimp only
    (repeat' split) <;> rfl
  have hu : view Station.bound (updStation ex.station (fun _ => ((((s.stationAt ex.station).counted v).enlivened
      s.params.missLimit v).noised s.params.noiseLimit v).delivered ex.carried v) s).line.stations
      = view Station.bound s.line.stations := by
    rw [updStation_line]
    refine List.map_map.trans (List.map_congr_left fun d hd => ?_)
    dsimp only [Function.comp]
    split
    · next hn =>
      have hat : s.stationAt ex.station = d.2 := by
        simp [State.stationAt, Table.get?_of_mem hs (hn ▸ hd : (ex.station, d.2) ∈ s.line.stations)]
      rw [hkeep, hat, hn]
    · rfl
  unfold judgeExchange
  dsimp only
  split
  · rw [bound_takePresentation]; simpa using hu
  · simpa using hu

theorem bound_endExchange (hs : s.line.stations.Sorted) (ex : Exchange) (v : Verdict) :
    view Station.bound (endExchange ex v s).line.stations = view Station.bound s.line.stations := by
  have hj : view Station.bound (if ex.abandoned then { s with line := { s.line with exchange := none } }
      else judgeExchange ex v { s with line := { s.line with exchange := none } }).line.stations
      = view Station.bound s.line.stations := by
    split
    · rfl
    · exact bound_judgeExchange (s := { s with line := { s.line with exchange := none } }) hs ex v
  refine Eq.trans (congrArg (view Station.bound) ?_) hj
  unfold endExchange
  dsimp only
  (repeat' split) <;> rfl

/-- Every atom keeps the bindings sound. -/
theorem BindingsSound.atom (h : BindingsSound s) (ha : Atom s t) : BindingsSound t := by
  cases ha with
  | reset =>
    intro e he q hq
    rw [eq_resetStation he] at hq
    simp [resetStation] at hq
  | printerAdd q => exact h.of_bound rfl fun x hx => (Table.mem_keys_put _ _ _ _).2 (.inr hx)
  | stationSet a bound mode redirect clear hb =>
    intro e he q hq
    obtain ⟨d, hd, rfl⟩ := List.mem_map.1 he
    split at hq
    · exact hb q (by unfold Station.set at hq; revert hq; dsimp only; split <;> exact id)
    · exact h d hd q hq
  | calendarInstall got => exact h.of_bound (bound_installCalendar got s) fun _ hx => hx
  | lineSet enable rate w => exact h.of_bound (bound_apply _ _ _ _ _) fun _ hx => hx
  | accountRetire => rw [retireJobs_frame]; exact h
  | jobCancel n j => rw [cancelJob_frame]; exact h
  | _ => exact h

/-- Every deed keeps the bindings sound. -/
theorem BindingsSound.deed (h : BindingsSound s) (ho : TablesOrdered s) (hd : Deed s t) : BindingsSound t := by
  obtain ⟨hl, hk⟩ | ha | ⟨ex, v, hex, rfl⟩ | ⟨q, pr, rfl⟩ := hd.line_cases
  · exact h.of_bound (by rw [hl]) (by rw [hk]; exact fun _ hx => hx)
  · exact h.atom ha
  · exact h.of_bound (bound_endExchange ho.stations_sorted ex v) (by simp)
  · rw [bindingsSound_iff, line_applyRetire, keys_printers_applyRetire]
    simp only [view, unbindStations, List.forall_mem_map]
    intro e he x hx
    have hb : e.2.bound = some x ∧ x ≠ q := by
      unfold Station.unbound at hx
      split at hx
      · simp at hx
      · next hn => exact ⟨hx, fun hxq => hn (hxq ▸ hx)⟩
    exact (Table.mem_keys_del _ _ _).2 ⟨(Table.get?_isSome_iff _ _).1 (h e he x hb.1), hb.2⟩

/-- Every move keeps the bindings sound. -/
theorem BindingsSound.move (h : BindingsSound s) (ho : TablesOrdered s) (hm : Move s t) : BindingsSound t := by
  obtain ⟨hl, hk⟩ | hd | rfl := hm.line_cases
  · exact h.of_bound (by rw [hl]) (by rw [hk]; exact fun _ hx => hx)
  · exact h.deed ho hd
  · refine h.of_bound ?_ (by simp)
    unfold quietTimer
    split <;> rfl

/-! ### The sweep -/

/-- What the sweep's invariant says of the Time Base. -/
abbrev TimeBase.SweepSound (t : TimeBase) : Prop :=
  (t.queued = true → t.sweep.isSome = true) ∧ t.span ≤ 255
  ∧ ∀ w ∈ t.sweep, t.lastSwept.isSome = true ∧ 1 ≤ t.span ∧ t.closing = t.opening - 1 ∧ w.inRange = true

namespace TimeBase.SweepSound

variable {b : TimeBase}

theorem startSweep (b : TimeBase) : (startSweep b).SweepSound := by
  have h : 1 ≤ sweepSpan b.day (b.lastSwept.getD b.day) ∧ sweepSpan b.day (b.lastSwept.getD b.day) ≤ 255 := by
    unfold sweepSpan; omega
  refine ⟨fun _ => rfl, h.2, ?_⟩
  rintro _ ⟨⟩
  exact ⟨rfl, h.1, rfl, rfl⟩

/-- A sweep request starts or queues a sweep, whatever the day number. -/
theorem requestSweep (h : b.SweepSound) (n : Day) : (requestSweep { b with day := n }).SweepSound := by
  obtain ⟨-, hspan, hwalk⟩ := h
  unfold Machine.requestSweep
  split
  · exact startSweep _
  · next w hw => exact ⟨fun _ => by rw [hw]; rfl, hspan, hwalk⟩

/-- The last swept day set while a walk is made, or with none. -/
theorem withLastSwept (h : b.SweepSound) (n d : Day) : TimeBase.SweepSound { b with day := n, lastSwept := some d } :=
  ⟨h.1, h.2.1, fun w hw => ⟨rfl, (h.2.2 w hw).2⟩⟩

theorem unqueue (h : b.SweepSound) : TimeBase.SweepSound { b with queued := false } := ⟨by simp, h.2⟩

theorem setDay (h : b.SweepSound) (n : Day) : (setDay n b).1.SweepSound := by
  unfold Machine.setDay
  (repeat' split)
  · exact h.withLastSwept n n
  · exact h
  · exact h.requestSweep n
  · exact (h.withLastSwept n n).unqueue

end TimeBase.SweepSound

/-- Every atom keeps the sweep sound. -/
theorem TimeBase.SweepSound.atom (h : s.time.SweepSound) (ha : Atom s t) : t.time.SweepSound := by
  cases ha with
  | reset => exact (by decide : State.reset.time.SweepSound)
  | timeSet set n b m =>
    have hset : (if set then (Machine.setDay n { s.time with building := b }).1 else s.time).SweepSound := by
      split
      · exact TimeBase.SweepSound.setDay (b := { s.time with building := b }) h n
      · exact h
    exact hset
  | accountRetire => rw [retireJobs_frame]; exact h
  | jobCancel => rw [cancelJob_frame]; exact h
  | _ => exact h

/-- Every part of a step keeps the sweep sound. -/
theorem TimeBase.SweepSound.part (h : s.time.SweepSound) (hp : Part s t) : t.time.SweepSound := by
  obtain ⟨-, hspan, hwalk⟩ := id h
  cases hp with
  | dayBoundary =>
    unfold dayBoundaryEffect
    dsimp only
    split
    · exact h.withLastSwept _ _
    · exact h.requestSweep _
  | walk w hs hw =>
    refine ⟨fun _ => rfl, hspan, ?_⟩
    rintro _ ⟨⟩
    obtain ⟨v, hv⟩ := Option.isSome_iff_exists.1 hs
    obtain ⟨hlast, hone, hclose, -⟩ := hwalk v hv
    exact ⟨hlast, hone, hclose, hw⟩
  | sweepDone hs =>
    dsimp only
    split
    · exact .startSweep _
    · next hq => exact ⟨fun hq' => absurd hq' hq, hspan, by simp⟩
  | jobDone => rw [completeJob_frame]; exact h
  | _ => simpa using h

/-- Settles O60: the line and the bindings are kept by every move, the sweep by every part of one. -/
theorem stepKeepsLineBindingsAndSweepSound : Obligations.StepKeepsLineBindingsAndSweepSound := by
  intro s t hs h
  have ht := step_of_moves (P := fun u => TablesOrdered u ∧ u.line.Sound ∧ BindingsSound u ∧ u.time.SweepSound)
    (fun u v hm ⟨ho, hl, hb, hsw⟩ => ⟨ho.move hm, hl.move ho hm, hb.move ho hm,
      move_of_parts (P := fun u => u.time.SweepSound) (fun _ _ hp h => h.part hp) hsw.atom hm hsw⟩)
    (fun _ _ h => h) ⟨hs.1, lineSound_iff.1 hs.2.1, hs.2.2⟩ h
  exact ⟨lineSound_iff.2 ht.2.1, ht.2.2⟩

end Sys2Proof.Machine
end

section
/-!
PROOFS. The ranges of parameters and printers (R1, R43, R183): every default lies in its range; and a state in which two records stand
under one number shows that the ranges of a printer are kept only while the tables are in order.
-/

namespace Sys2Proof.Machine

theorem admits_defaultParams (i : ParamId) : i.admits (defaultParams.read i) = true := by
  cases i with
  | faultSeverity k | faultClass k | faultAutoclose k => cases k <;> decide
  | _ => decide

/-- Two printers under the number 1, the first with four cartridges and the second with one, and a PRINTER_SET that gives number 1
the colour capability. -/
def twoUnderOneNumber : State :=
  { State.reset with
    printers := [(1, newPrinter 0 0 0 ⟨false, false, false⟩ [0, 1, 2, 3]), (1, newPrinter 0 0 0 ⟨false, false, false⟩ [0])]
    pending := [.printerSet [1, 0, 0, 1, 0, 0, 1, 2, 3]] }

theorem twoUnderOneNumber_leaves_range : ∃ t, step twoUnderOneNumber = .next t ∧ ¬ PrintersInRange t :=
  ⟨_, rfl, by decide +kernel⟩

/-- Refutes O55: PRINTER_SET compares its capabilities with the first record of the number, and changes every record of it. With
two records under one number, which the statement does not exclude, one of them becomes a colour printer of one slot. -/
theorem not_stepKeepsWordsParametersAndPrintersInRange : ¬ Obligations.StepKeepsWordsParametersAndPrintersInRange := by
  intro h
  obtain ⟨t, ht, hbad⟩ := twoUnderOneNumber_leaves_range
  have hclean : CauseWordClean twoUnderOneNumber := by decide +kernel
  have hrange : PrintersInRange twoUnderOneNumber := by decide +kernel
  exact hbad (h _ t ⟨hclean, admits_defaultParams, hrange⟩ ht).2.2

end Sys2Proof.Machine
end

section
/-!
PROOFS. The stock (R63 to R69): every part of a step keeps the types in range, each requisition of a defined type and not empty, and
at most one OPEN requisition for a type.
-/

namespace Sys2Proof.Machine

variable {s t : State}

/-! ### What is asked of the two tables -/

/-- A requisition agrees with the numbers of the defined types, has a quantity, and is overdue only while CONFIRMED. -/
abbrev Requisition.Sound (types : List Nat) (r : Requisition) : Prop :=
  r.type ∈ types ∧ 1 ≤ r.quantity ∧ r.quantity ≤ 255 ∧ (r.overdue = true → r.confirmDay.isSome)

/-- The types that have an OPEN requisition, once for each. -/
def openTypes (reqs : Table Requisition) : List Nat := (reqs.filter fun e => e.2.confirmDay.isNone).map fun e => e.2.type

/-- The invariant of the stock, under the names of its parts. -/
structure Stock.Sound (k : Stock) : Prop where
  types : ∀ e ∈ k.types, e.2.InRange
  length : k.reqs.length ≤ Config.requisitionEntries
  reqs : ∀ e ∈ k.reqs, e.2.Sound k.types.keys
  single : (openTypes k.reqs).Nodup

theorem stockSound_iff : StockSound s ↔ s.stock.Sound := by
  simp only [StockSound, Table.get?_isSome_iff]
  exact ⟨fun ⟨h₁, h₂, h₃, h₄⟩ => ⟨h₁, h₂, h₃, h₄⟩, fun h => ⟨h.types, h.length, h.reqs, h.single⟩⟩

theorem mem_openTypes {reqs : Table Requisition} {n : Nat} :
    n ∈ openTypes reqs ↔ ∃ e ∈ reqs, e.2.confirmDay = none ∧ e.2.type = n := by
  simp [openTypes, and_assoc]

theorem State.openReq_eq_none_iff (n : Nat) : s.openReq n = none ↔ n ∉ openTypes s.stock.reqs := by
  simp only [State.openReq, List.find?_eq_none, mem_openTypes, not_exists, not_and]
  simp
  exact ⟨fun h a b hm hc ht => h a b hm ht hc, fun h a b hm ht hc => h a b hm hc ht⟩

/-- A change of requisitions that keeps their types and whether they are OPEN. -/
theorem openTypes_map {reqs : Table Requisition} {f : Nat × Requisition → Nat × Requisition}
    (hf : ∀ e, (f e).2.type = e.2.type ∧ (f e).2.confirmDay = e.2.confirmDay) : openTypes (reqs.map f) = openTypes reqs := by
  simp [openTypes, List.filter_map, Function.comp_def, hf]

theorem openTypes_modify (reqs : Table Requisition) (n : Nat) {f : Requisition → Requisition}
    (hf : ∀ r, (f r).type = r.type ∧ (f r).confirmDay = r.confirmDay) : openTypes (reqs.modify n f) = openTypes reqs :=
  openTypes_map fun e => by
    split
    · exact hf e.2
    · exact ⟨rfl, rfl⟩

theorem openTypes_modify_sublist (n : Nat) (reqs : Table Requisition) (d : Day) :
    (openTypes (reqs.modify n fun r => { r with confirmDay := some d })).Sublist (openTypes reqs) := by
  induction reqs with
  | nil => exact .slnil
  | cons e l ih =>
    unfold openTypes Table.modify at ih ⊢
    rw [List.map_cons]
    by_cases hn : e.1 = n
    · rw [if_pos hn, List.filter_cons_of_neg (by simp)]
      exact ih.trans ((List.sublist_cons_self e l).filter _ |>.map _)
    · rw [if_neg hn]
      cases hc : e.2.confirmDay.isNone with
      | true =>
        rw [List.filter_cons_of_pos (by simp [hc]), List.filter_cons_of_pos (by simp [hc])]
        exact ih.cons_cons _
      | false => rw [List.filter_cons_of_neg (by simp [hc]), List.filter_cons_of_neg (by simp [hc])]; exact ih

namespace Stock.Sound

variable {k : Stock}

theorem withTypes (h : k.Sound) {x : Table CartridgeType} (hx : ∀ e ∈ x, e.2.InRange)
    (hk : ∀ e ∈ k.reqs, e.2.type ∈ x.keys) : Stock.Sound { k with types := x } :=
  ⟨hx, h.length, fun e he => ⟨hk e he, (h.reqs e he).2⟩, h.single⟩

theorem updType (h : k.Sound) (n : Nat) {f : CartridgeType → CartridgeType} (hf : ∀ ty, ty.InRange → (f ty).InRange) :
    Stock.Sound { k with types := k.types.modify n f } :=
  h.withTypes (Table.forall_modify h.types n hf) fun e he => by rw [Table.keys_modify]; exact (h.reqs e he).1

/-- A change of requisitions that keeps their types and whether they are OPEN. -/
theorem mapReqs (h : k.Sound) {f : Nat × Requisition → Nat × Requisition}
    (hf : ∀ e, (f e).2.type = e.2.type ∧ (f e).2.confirmDay = e.2.confirmDay)
    (hr : ∀ e ∈ k.reqs, (f e).2.Sound k.types.keys) : Stock.Sound { k with reqs := k.reqs.map f } where
  types := h.types
  length := by simpa using h.length
  reqs := by simpa only [List.forall_mem_map] using hr
  single := by simpa only [openTypes_map hf] using h.single

theorem delReq (h : k.Sound) (n : Nat) : Stock.Sound { k with reqs := k.reqs.del n } where
  types := h.types
  length := (List.length_filter_le _ _).trans h.length
  reqs e he := h.reqs e (List.mem_of_mem_filter he)
  single := h.single.sublist ((List.filter_sublist.filter _).map _)

/-- A requisition confirmed is OPEN no more. -/
theorem confirmReq (h : k.Sound) (n : Nat) (d : Day) :
    Stock.Sound { k with reqs := k.reqs.modify n fun r => { r with confirmDay := some d } } where
  types := h.types
  length := by simpa using h.length
  reqs := by
    have hc (r : Requisition) (hr : r.Sound k.types.keys) : Requisition.Sound k.types.keys { r with confirmDay := some d } :=
      ⟨hr.1, hr.2.1, hr.2.2.1, fun _ => rfl⟩
    exact Table.forall_modify h.reqs n hc
  single := h.single.sublist (openTypes_modify_sublist n k.reqs d)

/-- A requisition issued for a type without an OPEN one. -/
theorem issueReq (h : k.Sound) (hl : k.reqs.length < Config.requisitionEntries) {n : Nat} (hn : n ∉ k.reqs.keys) {r : Requisition}
    (hr : r.Sound k.types.keys) (ho : r.type ∉ openTypes k.reqs) (m : Nat) :
    Stock.Sound ⟨k.types, k.reqs.put n r, m⟩ where
  types := h.types
  length := by
    rw [(Table.put_perm hn r).length_eq]
    exact hl
  reqs := Table.forall_put h.reqs n hr
  single := by
    have hp : (openTypes (k.reqs.put n r)).Perm (openTypes ((n, r) :: k.reqs)) := ((Table.put_perm hn r).filter _).map _
    rw [hp.nodup_iff]
    unfold openTypes
    rw [List.filter_cons]
    split
    · exact List.nodup_cons.2 ⟨ho, h.single⟩
    · exact h.single

end Stock.Sound

/-! ### The reorder check -/

/-- A shortfall is ordered in at least one cartridge. -/
theorem orderQuantity_pos {pack short : Nat} (hp : 1 ≤ pack) (hs : 1 ≤ short) : 1 ≤ orderQuantity pack short := by
  have hd : 1 ≤ (short + pack - 1) / pack := (Nat.one_le_div_iff hp).2 (by omega)
  exact Nat.mul_le_mul hp hd

theorem Stock.Sound.setTypePending (h : s.stock.Sound) (b : Bool) (n : Nat) : (setTypePending b n s).stock.Sound :=
  h.updType n fun _ ht => ht

theorem Stock.Sound.growReq (h : s.stock.Sound) {q : Nat} (hq : 1 ≤ q) (n m : Nat) (r : Requisition) :
    (growReq n q m r s).1.stock.Sound := by
  refine Stock.Sound.setTypePending (s := updReq m _ s) ?_ _ _
  refine h.mapReqs (fun e => ?_) fun e he => ?_
  · split <;> exact ⟨rfl, rfl⟩
  · obtain ⟨ht, hpos, hle, ho⟩ := h.reqs e he
    split
    · exact ⟨ht, by dsimp only; omega, by dsimp only; omega, ho⟩
    · exact ⟨ht, hpos, hle, ho⟩

theorem Stock.Sound.reorderCheck (h : s.stock.Sound) (n : Nat) : (reorderCheck n s).stock.Sound := by
  unfold Machine.reorderCheck
  obtain ⟨-, he⟩ | ⟨ty, hty, ⟨-, he⟩ | ⟨-, hshort, hcase⟩⟩ := reorder_cases n s
  · rwa [he]
  · rw [he]; exact h.setTypePending _ _
  · have hq : 1 ≤ orderQuantity ty.pack (s.wantedCount n + ty.reserve - (ty.shelf + s.onOrder n)) :=
      orderQuantity_pos (h.types _ (Table.mem_of_get? hty)).2.2.1 (by omega)
    obtain ⟨m, r, -, he⟩ | ⟨hopen, hlen, he⟩ | ⟨-, -, he⟩ := hcase <;> rw [he]
    · exact h.growReq hq _ _ _
    · have hfresh : issueNumber s.stock.reqs.keys s.stock.lastReq ∉ s.stock.reqs.keys :=
        issueNumber_fresh _ _ (by simpa [Table.keys] using hlen.trans (by decide))
      refine Stock.Sound.setTypePending (s := setCause .reqOpened _) ?_ _ _
      exact h.issueReq hlen hfresh ⟨Table.mem_keys_of_get? hty, by dsimp only; omega, Nat.min_le_left _ _, by simp⟩
        ((s.openReq_eq_none_iff n).1 hopen) _
    · exact Stock.Sound.setTypePending (by simpa using h) _ _

/-! ### The other parts -/

/-- A requisition received in part. -/
theorem Stock.Sound.lessenReq (h : s.stock.Sound) (ho : TablesOrdered s) {n q : Nat} {r : Requisition}
    (hr : s.stock.reqs.get? n = some r) (hq : q < r.quantity) :
    (updReq n (fun r => { r with quantity := r.quantity - q }) s).stock.Sound := by
  obtain ⟨-, -, -, -, -, -, hs, -⟩ := ho
  refine h.mapReqs (fun e => ?_) fun e he => ?_
  · split <;> exact ⟨rfl, rfl⟩
  · obtain ⟨ht, hpos, hle, hov⟩ := h.reqs e he
    split
    · next hn =>
      have her : e.2 = r := Option.some.inj ((Table.get?_of_mem hs (hn ▸ he : (n, e.2) ∈ s.stock.reqs)).symm.trans hr)
      exact ⟨ht, by dsimp only; rw [her]; omega, by dsimp only; omega, hov⟩
    · exact ⟨ht, hpos, hle, hov⟩

theorem Stock.Sound.checkOverdue (h : s.stock.Sound) (n : Nat) : (checkOverdue n s).stock.Sound := by
  unfold Machine.checkOverdue
  split
  · exact h
  · next ty hty =>
    have hsound : ∀ e ∈ s.stock.reqs, (if (e.2.type == n && e.2.becomesOverdue s.time.opening (ty.lead + s.params.overdueGrace)) = true
        then (e.1, { e.2 with overdue := true }) else e).2.Sound s.stock.types.keys := by
      intro e he
      obtain ⟨ht, hpos, hle, ho⟩ := h.reqs e he
      split
      · next hdue =>
        refine ⟨ht, hpos, hle, fun _ => ?_⟩
        simp only [Requisition.becomesOverdue, Bool.and_eq_true] at hdue
        obtain ⟨d, hd, -⟩ := (Option.any_eq_true _ _).1 hdue.2.2
        simp [hd]
      · exact ⟨ht, hpos, hle, ho⟩
    have hmap := h.mapReqs (fun e => by split <;> exact ⟨rfl, rfl⟩) hsound
    simpa using hmap

theorem shelfAfter_le {mode shelf n : Nat} {v : Int} (h : shelfAfter mode v shelf = some n) (hs : shelf ≤ 255) : n ≤ 255 := by
  unfold shelfAfter at h
  split at h
  · simp at h; omega
  · split at h
    · simp at h; omega
    · simp at h
  · split at h
    · simp at h; omega
    · simp at h

/-- Every atom keeps the stock sound. -/
theorem Stock.Sound.atom (h : s.stock.Sound) (ha : Atom s t) : t.stock.Sound := by
  cases ha with
  | reset => exact stockSound_iff.1 (by decide : StockSound State.reset)
  | accountRetire => rw [retireJobs_frame]; exact h
  | jobCancel => rw [cancelJob_frame]; exact h
  | _ => exact h

/-- Every part of a step keeps the stock sound. -/
theorem Stock.Sound.part (h : s.stock.Sound) (ho : TablesOrdered s) (hp : Part s t) : t.stock.Sound := by
  cases hp with
  | reorderCheck n => exact h.reorderCheck n
  | updType n f hf => exact h.updType n hf
  | putType n mode shelf reserve pack lead margin v ht hr hpk hl hm hs =>
    have hshelf : shelf ≤ 255 := by
      refine shelfAfter_le hs ?_
      cases ho : s.stock.types.get? n with
      | none => exact Nat.zero_le _
      | some o => exact (h.types _ (Table.mem_of_get? ho)).1
    exact h.withTypes (Table.forall_put h.types n ⟨hshelf, hr, hpk.1, hpk.2, hl.1, hl.2, hm⟩)
      fun e he => (Table.mem_keys_put _ _ _ _).2 (.inr (h.reqs e he).1)
  | delType n hr =>
    exact h.withTypes (Table.forall_del h.types n) fun e he => (Table.mem_keys_del _ _ _).2 ⟨(h.reqs e he).1, hr e he⟩
  | checkOverdue n => exact h.checkOverdue n
  | confirmReq n d => exact h.confirmReq n d
  | lessenReq n q r hr hq => exact h.lessenReq ho hr hq
  | retireReq n => exact h.delReq n
  | jobDone => rw [completeJob_frame]; exact h
  | _ => simpa using h

end Sys2Proof.Machine
end

section
/-!
PROOFS. Tickets and the callout position of each printer (R30 to R36): what every change of the ticket table does to the ticket of each
printer; and that a reconciliation, a hand-over and the reconciliations of one event keep the tickets sound, bring the printers named
in line with their causes, and leave every other printer as it was or hand a freed entry over to it.
-/

namespace Sys2Proof.Machine

variable {s t : State}

/-! ### The ticket of a printer -/

/-- In an ordered table a number holds one record. -/
theorem Table.record_eq {α : Type} {t : Table α} (hs : t.Sorted) {e : Nat × α} (he : e ∈ t) {n : Nat} {x : α} (hx : (n, x) ∈ t)
    (hn : e.1 = n) : e.2 = x := by
  subst hn
  exact Option.some.inj ((Table.get?_of_mem hs he).symm.trans (Table.get?_of_mem hs hx))

/-- A search that does not fit a new record finds what it found before. -/
theorem Table.find?_put_of_not {α : Type} {t : Table α} {n : Nat} {x : α} {f : Nat × α → Bool} (hn : n ∉ t.keys)
    (hx : f (n, x) = false) : (t.put n x).find? f = t.find? f := by
  induction t with
  | nil => simp [Table.put, hx]
  | cons e t ih =>
    obtain ⟨k, v⟩ := e
    simp only [Table.keys, List.map_cons, List.mem_cons, not_or] at hn
    obtain ⟨hk, ht⟩ := hn
    simp only [Table.put, Ne.symm hk, if_false]
    split
    · rw [List.find?_cons_of_neg (by simp [hx])]
    · rw [List.find?_cons, List.find?_cons, ih ht]

theorem State.ticketOf_eq_none_iff {q : Nat} : s.ticketOf q = none ↔ ∀ e ∈ s.callout.tickets, e.2.printer ≠ q := by
  simp [State.ticketOf, List.find?_eq_none]

theorem State.mem_of_ticketOf {q : Nat} {e : Nat × Ticket} (h : s.ticketOf q = some e) :
    e ∈ s.callout.tickets ∧ e.2.printer = q :=
  ⟨List.mem_of_find?_eq_some h, by simpa using List.find?_some h⟩

/-- The tickets of a table belong to different printers. -/
abbrev OneEach (tickets : Table Ticket) : Prop := (tickets.map fun e => e.2.printer).Nodup

theorem State.ticketOf_of_mem (h : OneEach s.callout.tickets) {e : Nat × Ticket} (he : e ∈ s.callout.tickets) :
    s.ticketOf e.2.printer = some e := by
  cases hf : s.ticketOf e.2.printer with
  | none => exact absurd rfl (State.ticketOf_eq_none_iff.1 hf e he)
  | some d =>
    obtain ⟨hd, hp⟩ := State.mem_of_ticketOf hf
    exact congrArg some (List.inj_on_of_nodup_map h hd he hp)

theorem State.ticketOf_of_tickets {q : Nat} (h : t.callout.tickets = s.callout.tickets) : t.ticketOf q = s.ticketOf q := by
  simp only [State.ticketOf, h]

@[simp] theorem ticketOf_setCause (c : Cause) (s : State) (q : Nat) : (setCause c s).ticketOf q = s.ticketOf q := rfl

@[simp] theorem ticketOf_setCauseIf (b : Bool) (c : Cause) (s : State) (q : Nat) :
    (setCauseIf b c s).ticketOf q = s.ticketOf q := State.ticketOf_of_tickets (by simp)

@[simp] theorem ticketOf_updPrinter (n : Nat) (f : Printer → Printer) (s : State) (q : Nat) :
    (updPrinter n f s).ticketOf q = s.ticketOf q := rfl

/-- A change of one ticket, which stays its printer's, is seen at that printer alone. -/
theorem ticketOf_updTicket {n : Nat} {k : Ticket} {q : Nat} (hs : Table.Sorted s.callout.tickets) (hk : s.ticketOf q = some (n, k))
    (f : Ticket → Ticket) (hf : (f k).printer = q) (x : Nat) :
    (updTicket n f s).ticketOf x = if x = q then some (n, f k) else s.ticketOf x := by
  obtain ⟨hmem, hq⟩ := State.mem_of_ticketOf hk
  have hsame : ∀ e ∈ s.callout.tickets, (if e.1 = n then (e.1, f e.2) else e).2.printer = e.2.printer := by
    intro e he
    split
    · next hn =>
      rw [Table.record_eq hs he hmem hn, hf, hq]
    · rfl
  have hfind : (updTicket n f s).ticketOf x = (s.ticketOf x).map fun e => if e.1 = n then (e.1, f e.2) else e := by
    rw [State.ticketOf, updTicket_callout]
    dsimp only [Table.modify]
    rw [List.find?_map]
    refine congrArg (Option.map _) (List.find?_congr fun e he => ?_)
    simp only [Function.comp, hsame e he]
  rw [hfind]
  split
  · next hx => rw [hx, hk]; simp
  · next hx =>
    cases he : s.ticketOf x with
    | none => rfl
    | some e =>
      obtain ⟨hem, hex⟩ := State.mem_of_ticketOf he
      have hne : e.1 ≠ n := fun hn => hx (by
        rw [← hex, Table.record_eq hs hem hmem hn, hq])
      simp [hne]

theorem oneEach_modify {tickets : Table Ticket} (h : OneEach tickets) {n : Nat} {f : Ticket → Ticket}
    (hf : ∀ k, (n, k) ∈ tickets → (f k).printer = k.printer) : OneEach (tickets.modify n f) := by
  have hmap : (tickets.modify n f).map (fun e => e.2.printer) = tickets.map fun e => e.2.printer := by
    simp only [Table.modify, List.map_map]
    refine List.map_congr_left fun e he => ?_
    dsimp only [Function.comp]
    split
    · next hn => exact hf e.2 (hn ▸ he)
    · rfl
  rwa [OneEach, hmap]

/-- The ticket of a printer retired is its printer's no more, and every other printer's stays. -/
theorem ticketOf_retireTicket {n : Nat} {k : Ticket} {q : Nat} (hs : Table.Sorted s.callout.tickets) (h : OneEach s.callout.tickets)
    (hk : s.ticketOf q = some (n, k)) (x : Nat) :
    (retireTicket n s).ticketOf x = if x = q then none else s.ticketOf x := by
  obtain ⟨hmem, hq⟩ := State.mem_of_ticketOf hk
  have hone {e : Nat × Ticket} (he : e ∈ s.callout.tickets) : e.1 = n ↔ e.2.printer = q := by
    constructor
    · intro hn
      rw [Table.record_eq hs he hmem hn, hq]
    · intro hp
      have := State.ticketOf_of_mem h he
      rw [hp, hk] at this
      rw [← Option.some.inj this]
  split
  · next hx =>
    rw [hx, State.ticketOf_eq_none_iff]
    intro e he
    obtain ⟨hm, hn⟩ := List.mem_filter.1 he
    exact fun hp => of_decide_eq_true hn ((hone hm).2 hp)
  · next hx =>
    simp only [State.ticketOf, retireTicket_callout, Table.del, List.find?_filter]
    refine List.find?_congr fun e he => ?_
    by_cases hex : e.2.printer = x
    · simp [hex, (hone he).not.2 (hex ▸ hx)]
    · simp [hex]

/-- A new ticket is its printer's, and every other printer's stays. -/
theorem ticketOf_issueTicket_ne {q x : Nat} {p : Printer} (hp : s.printers.get? q = some p) (hlen : s.callout.tickets.length < 65535)
    (hx : x ≠ q) : (issueTicket q s).ticketOf x = s.ticketOf x := by
  unfold State.ticketOf
  rw [issueTicket_callout hp]
  exact Table.find?_put_of_not (State.nextTicket_fresh hlen) (by simpa [State.newTicket] using Ne.symm hx)

/-! ### Soundness while entries are freed -/

/-- A ticket is RESOLVED exactly while it has no causes, and its level is at most 3. -/
abbrev Ticket.Sound (k : Ticket) : Prop := (k.state = .resolved ↔ k.causes = []) ∧ k.level ≤ 3

/-- The tickets are sound, and `freed` more entries may be handed over: the invariant of the tickets within an event (R30, R36). -/
structure State.CalloutSound (s : State) (freed : Nat) : Prop where
  printers : Table.Sorted s.printers
  sorted : Table.Sorted s.callout.tickets
  room : s.callout.tickets.length + freed ≤ Config.ticketEntries
  oneEach : OneEach s.callout.tickets
  sound : ∀ e ∈ s.callout.tickets, e.2.Sound
  printed : ∀ e ∈ s.callout.tickets, e.2.printer ∈ Table.keys s.printers
  deferred : ∀ q p, s.printers.get? q = some p → p.deferred = true → s.ticketOf q = none

theorem calloutSound_iff (h : TablesOrdered s) : TicketsSound s ↔ s.CalloutSound 0 := by
  obtain ⟨hp, -, ht, -⟩ := h
  simp only [TicketsSound, Table.get?_isSome_iff]
  constructor
  · rintro ⟨hlen, hone, hk, hd⟩
    exact ⟨hp, ht, hlen, hone, fun e he => (hk e he).2, fun e he => (hk e he).1, fun q p hq => hd (q, p) (Table.mem_of_get? hq)⟩
  · intro h
    exact ⟨h.room, h.oneEach, fun e he => ⟨h.printed e he, h.sound e he⟩, fun e he => h.deferred e.1 e.2 (Table.get?_of_mem hp he)⟩

namespace State.CalloutSound

variable {n : Nat}

theorem room_lt (h : s.CalloutSound n) : s.callout.tickets.length < 65535 :=
  Nat.lt_of_le_of_lt ((Nat.le_add_right _ _).trans h.room) (by decide)

theorem setCause (h : s.CalloutSound n) (c : Cause) : (setCause c s).CalloutSound n := { h with }

theorem setCauseIf (h : s.CalloutSound n) (b : Bool) (c : Cause) : (setCauseIf b c s).CalloutSound n := by
  unfold Machine.setCauseIf
  split
  · exact h.setCause c
  · exact h

/-- The flag of a printer without a ticket may be set and cleared. -/
theorem setDeferred (h : s.CalloutSound n) {q : Nat} {b : Bool} (hb : b = true → s.ticketOf q = none) :
    (updPrinter q (fun p => { p with deferred := b }) s).CalloutSound n :=
  { h with
    printers := by simpa [Table.Sorted] using h.printers
    printed := by simpa using h.printed
    deferred := by
      intro x p hx hd
      rw [updPrinter_printers, Table.get?_modify] at hx
      rw [ticketOf_updPrinter]
      split at hx
      · next hxq =>
        obtain ⟨p', -, rfl⟩ := Option.map_eq_some_iff.1 hx
        exact hxq ▸ hb hd
      · exact h.deferred x p hx hd }

/-- The ticket of a printer changed to one that is sound and stays that printer's. -/
theorem updTicket (h : s.CalloutSound n) {q m : Nat} {k : Ticket} (hk : s.ticketOf q = some (m, k)) {f : Ticket → Ticket}
    (hq : (f k).printer = q) (hf : (f k).Sound) : (updTicket m f s).CalloutSound n := by
  obtain ⟨hmem, hkq⟩ := State.mem_of_ticketOf hk
  have hof (d : Nat × Ticket) (hd : d ∈ s.callout.tickets) (hm : d.1 = m) : d.2 = k := Table.record_eq h.sorted hd hmem hm
  exact { h with
    sorted := Table.sorted_modify h.sorted _ _
    room := by simpa using h.room
    oneEach := oneEach_modify h.oneEach fun k' hk' => by rw [show k' = k from hof _ hk' rfl, hq, ← hkq]
    sound := by
      intro e he
      obtain ⟨d, hd, rfl⟩ := List.mem_map.1 he
      split
      · next hm => rw [hof d hd hm]; exact hf
      · exact h.sound d hd
    printed := by
      intro e he
      obtain ⟨d, hd, rfl⟩ := List.mem_map.1 he
      split
      · next hm => rw [hof d hd hm, hq, ← hkq]; exact h.printed _ hmem
      · exact h.printed d hd
    deferred := by
      intro x p hx hd
      rw [ticketOf_updTicket h.sorted hk f hq]
      split
      · next hxq => have := h.deferred x p hx hd; rw [hxq, hk] at this; cases this
      · exact h.deferred x p hx hd }

/-- A retired ticket frees an entry. -/
theorem retireTicket (h : s.CalloutSound n) {m : Nat} (hm : m ∈ Table.keys s.callout.tickets) :
    (retireTicket m s).CalloutSound (n + 1) :=
  { h with
    sorted := Table.sorted_del h.sorted m
    room := by
      have hlen := Table.length_del_of_mem h.sorted hm
      have hroom := h.room
      rw [retireTicket_callout]
      dsimp only
      omega
    oneEach := h.oneEach.sublist (List.filter_sublist.map _)
    sound := fun e he => h.sound e (List.mem_of_mem_filter he)
    printed := fun e he => h.printed e (List.mem_of_mem_filter he)
    deferred := fun x p hx hd => ticketOf_retireTicket_of_none m (h.deferred x p hx hd) }

/-- A freed entry is taken by a printer with causes that has no ticket. -/
theorem issueTicket (h : s.CalloutSound (n + 1)) {q : Nat} {p : Printer} (hp : s.printers.get? q = some p)
    (hc : currentCauses s p ≠ []) (hnone : s.ticketOf q = none) : (issueTicket q s).CalloutSound n := by
  have hfresh := State.nextTicket_fresh h.room_lt
  have hmem {e : Nat × Ticket} (he : e ∈ (Machine.issueTicket q s).callout.tickets) :
      e = (s.nextTicket, s.newTicket q p) ∨ e ∈ s.callout.tickets := by
    rw [issueTicket_callout hp] at he
    exact Table.mem_put he
  exact {
    printers := by simpa [Table.Sorted, issueTicket_of_get? hp] using h.printers
    sorted := by rw [issueTicket_callout hp]; exact Table.sorted_put h.sorted _ _
    room := by rw [length_issueTicket_tickets hp h.room_lt]; have := h.room; omega
    oneEach := by
      rw [issueTicket_callout hp]
      refine ((Table.put_perm hfresh _).map _).nodup_iff.2 (List.nodup_cons.2 ⟨?_, h.oneEach⟩)
      simpa [State.newTicket] using State.ticketOf_eq_none_iff.1 hnone
    sound := by
      intro e he
      obtain rfl | he := hmem he
      · exact ⟨by simpa [State.newTicket] using hc, Nat.zero_le _⟩
      · exact h.sound e he
    printed := by
      intro e he
      rw [issueTicket_of_get? hp, setCause_printers, updPrinter_printers, Table.keys_modify]
      obtain rfl | he := hmem he
      · exact Table.mem_keys_of_get? hp
      · exact h.printed e he
    deferred := by
      intro x p' hx hd
      rw [get?_issueTicket_printers hp] at hx
      split at hx
      · cases hx; cases hd
      · next hxq => rw [ticketOf_issueTicket_ne hp h.room_lt hxq]; exact h.deferred x p' hx hd }

end State.CalloutSound

/-! ### One reconciliation -/

theorem Ticket.reconciled_retired {manual : FaultKind → Bool} {now : Word} {cs : List (FaultKind × Nat)} {k : Ticket}
    (h : k.reconciled manual now cs = .retired) : cs = [] := by
  unfold Ticket.reconciled at h
  by_cases hcs : cs = []
  · exact hcs
  · have hne : cs.isEmpty = false := by simpa using hcs
    simp only [hne, Bool.false_eq_true, if_false, Ticket.restate] at h
    split at h
    · cases h
    · split at h <;> cases h
    · cases h

/-- A ticket kept has the causes as they are, is its printer's, and is sound when it was. -/
theorem Ticket.reconciled_kept {manual : FaultKind → Bool} {now : Word} {cs : List (FaultKind × Nat)} {k k' : Ticket} {b : Bool}
    (h : k.reconciled manual now cs = .kept k' b) :
    k'.causes = cs ∧ k'.printer = k.printer ∧ (k.Sound → k'.Sound) := by
  unfold Ticket.reconciled at h
  dsimp only at h
  split at h
  · next hcs =>
    split at h
    · obtain ⟨rfl, -⟩ := TicketMove.kept.inj h
      exact ⟨rfl, rfl, fun hk => ⟨by simpa using hcs, hk.2⟩⟩
    · cases h
  · next hcs =>
    have hne : cs ≠ [] := by simpa using hcs
    unfold Ticket.restate at h
    split at h
    · next hst =>
      obtain ⟨rfl, -⟩ := TicketMove.kept.inj h
      exact ⟨rfl, rfl, fun hk => ⟨by simpa using iff_of_false (by simpa using fun h => by cases hst.symm.trans h) hne, hk.2⟩⟩
    · next a hst =>
      split at h
      · obtain ⟨rfl, -⟩ := TicketMove.kept.inj h
        exact ⟨rfl, rfl, fun hk => ⟨by simpa using hne, hk.2⟩⟩
      · obtain ⟨rfl, -⟩ := TicketMove.kept.inj h
        exact ⟨rfl, rfl, fun hk => ⟨by simpa using iff_of_false (by simpa using fun h => by cases hst.symm.trans h) hne, hk.2⟩⟩
    · obtain ⟨rfl, -⟩ := TicketMove.kept.inj h
      exact ⟨rfl, rfl, fun hk => ⟨by simpa using hne, hk.2⟩⟩

namespace State.CalloutSound

/-- A reconciliation keeps the tickets sound and counts the entries freed. -/
theorem reconcile {acc : State × Nat} (h : acc.1.CalloutSound acc.2) (q : Nat) :
    (reconcile acc q).1.CalloutSound (reconcile acc q).2 := by
  obtain ⟨-, he⟩ | ⟨p, hp, ⟨n, k, hk, he⟩ | ⟨hnone, ⟨-, he⟩ | ⟨hc, ⟨-, he⟩ | ⟨-, hroom, he⟩ | ⟨-, -, he⟩⟩⟩⟩ := reconcile_cases acc q <;> rw [he]
  · exact h
  · obtain ⟨hmem, hkq⟩ := State.mem_of_ticketOf hk
    obtain ⟨-, he⟩ | ⟨k', b, hkept, he⟩ := reconcileTicket_cases n k p acc.1 acc.2 <;> rw [he]
    · exact h.retireTicket (List.mem_map_of_mem hmem)
    · obtain ⟨-, hprinter, hsound⟩ := Ticket.reconciled_kept hkept
      exact (h.updTicket hk (hprinter.trans hkq) (hsound (h.sound _ hmem))).setCauseIf b _
  · exact h.setDeferred (by simp)
  · exact h
  · exact State.CalloutSound.issueTicket { h with room := by omega } hp hc hnone
  · exact (h.setDeferred fun _ => hnone).setCause _

/-- The printer that a hand-over chooses is deferred, has causes and no ticket. -/
theorem candidate (h : s.CalloutSound n) {q : Nat} (hq : bestCandidate (handOverCandidates s) = some q) :
    ∃ p, s.printers.get? q = some p ∧ p.deferred = true ∧ currentCauses s p ≠ [] ∧ s.ticketOf q = none := by
  obtain ⟨c, hc, rfl⟩ : ∃ c ∈ handOverCandidates s, c.1 = q := by
    cases hl : handOverCandidates s with
    | nil => simp [hl, bestCandidate] at hq
    | cons b l =>
      obtain ⟨c, hc, hfold, -⟩ := foldl_keepBest_outranks (hl ▸ handOverCandidates_sorted h.printers)
      rw [hl, bestCandidate_cons, hfold] at hq
      exact ⟨c, hc, Option.some.inj hq⟩
  obtain ⟨howed, hpos⟩ := (mem_handOverCandidates h.printers).1 hc
  obtain ⟨p, hp, hd, hv⟩ := State.owedSeverity_eq_some.1 howed
  refine ⟨p, hp, hd, fun hnil => ?_, h.deferred _ p hp hd⟩
  rw [hnil] at hv
  exact Nat.ne_of_lt hpos hv

theorem handOver (h : s.CalloutSound (n + 1)) : (handOver s).CalloutSound n := by
  obtain ⟨-, he⟩ | ⟨q, hq, he⟩ := handOver_cases s <;> rw [he]
  · exact { h with room := by have := h.room; omega }
  · obtain ⟨p, hp, -, hc, hnone⟩ := h.candidate hq
    exact h.issueTicket hp hc hnone

theorem reconcileAll (h : s.CalloutSound 0) (ps : List Nat) : (reconcileAll ps s).CalloutSound 0 :=
  reconcileAll_induct (Q := State.CalloutSound) ps (fun _ q h => h.reconcile q) (fun _ _ h => h.handOver) h

end State.CalloutSound

/-! ### Where the callout of a printer stands -/

/-- The printer of a number and its ticket are in `t` as they are in `s`. -/
abbrev State.SamePlace (s t : State) (x : Nat) : Prop := t.ticketOf x = s.ticketOf x ∧ t.printers.get? x = s.printers.get? x

/-- A freed entry has gone to the printer of a number between `s` and `t`. -/
abbrev State.HandedTo (s t : State) (x : Nat) : Prop :=
  ∃ p, s.printers.get? x = some p ∧ p.deferred = true ∧ t.printers.get? x = some { p with deferred := false }
    ∧ ∃ e, t.ticketOf x = some e ∧ e.2.causes = currentCauses s p ∧ e.2.causes ≠ []

theorem currentCauses_of_fields (hp : t.params = s.params) (hs : t.stock = s.stock) (p : Printer) :
    currentCauses t p = currentCauses s p := by
  cases s
  cases t
  cases hp
  cases hs
  rfl

theorem State.CalloutInLine.of_samePlace {x : Nat} (h : s.CalloutInLine x) (hx : s.SamePlace t x) (hp : t.params = s.params)
    (hs : t.stock = s.stock) : t.CalloutInLine x := by
  obtain ⟨ht, hr⟩ := hx
  simpa only [State.CalloutInLine, ht, hr, currentCauses_of_fields hp hs] using h

theorem State.HandedTo.inLine {x : Nat} (h : s.HandedTo t x) (hp : t.params = s.params) (hs : t.stock = s.stock) :
    t.CalloutInLine x := by
  obtain ⟨p, -, -, hr, e, he, hc, -⟩ := h
  intro p' hp'
  obtain rfl : { p with deferred := false } = p' := Option.some.inj (hr.symm.trans hp')
  rw [he]
  refine ⟨?_, by simp⟩
  rintro _ ⟨⟩
  rw [hc, currentCauses_of_fields hp hs]
  rfl

theorem samePlace_reconcile {acc : State × Nat} {m : Nat} (h : acc.1.CalloutSound m) {q x : Nat} (hx : x ≠ q) :
    acc.1.SamePlace (reconcile acc q).1 x := by
  obtain ⟨-, he⟩ | ⟨p, hp, ⟨n, k, hk, he⟩ | ⟨hnone, ⟨-, he⟩ | ⟨hc, ⟨-, he⟩ | ⟨-, hroom, he⟩ | ⟨-, -, he⟩⟩⟩⟩ := reconcile_cases acc q <;> rw [he]
  · exact ⟨rfl, rfl⟩
  · obtain ⟨-, he⟩ | ⟨k', b, hkept, he⟩ := reconcileTicket_cases n k p acc.1 acc.2 <;> rw [he]
    · exact ⟨by rw [ticketOf_retireTicket h.sorted h.oneEach hk, if_neg hx], rfl⟩
    · obtain ⟨-, hprinter, -⟩ := Ticket.reconciled_kept hkept
      refine ⟨?_, by simp⟩
      rw [ticketOf_setCauseIf, ticketOf_updTicket h.sorted hk _ (hprinter.trans (State.mem_of_ticketOf hk).2), if_neg hx]
  · exact ⟨rfl, by rw [updPrinter_printers, Table.get?_modify_ne _ _ hx]⟩
  · exact ⟨rfl, rfl⟩
  · exact ⟨ticketOf_issueTicket_ne hp h.room_lt hx, by rw [get?_issueTicket_printers hp, if_neg hx]⟩
  · exact ⟨rfl, by rw [deferCallout, setCause_printers, updPrinter_printers, Table.get?_modify_ne _ _ hx]⟩

/-- A reconciliation brings its printer in line. -/
theorem inLine_reconcile {acc : State × Nat} {m : Nat} (h : acc.1.CalloutSound m) (q : Nat) :
    (reconcile acc q).1.CalloutInLine q := by
  intro p' hp'
  rw [currentCauses_of_fields (s := acc.1) (by simp) (by simp)]
  obtain ⟨hvac, he⟩ | ⟨p, hp, ⟨n, k, hk, he⟩ | ⟨hnone, ⟨hc, he⟩ | ⟨hc, ⟨hd, he⟩ | ⟨-, hroom, he⟩ | ⟨-, -, he⟩⟩⟩⟩ := reconcile_cases acc q <;>
    rw [he] at hp' ⊢
  · cases hvac.symm.trans hp'
  · obtain ⟨hret, he⟩ | ⟨k', b, hkept, he⟩ := reconcileTicket_cases n k p acc.1 acc.2 <;> rw [he] at hp' ⊢
    · obtain rfl : p = p' := Option.some.inj (hp.symm.trans hp')
      have hgone : (retireTicket n acc.1).ticketOf q = none := by rw [ticketOf_retireTicket h.sorted h.oneEach hk, if_pos rfl]
      refine ⟨by simp [hgone], fun _ => ?_⟩
      have hd : p.deferred ≠ true := fun hd => by have := h.deferred q p hp hd; rw [hk] at this; cases this
      simpa [Ticket.reconciled_retired hret] using hd
    · obtain rfl : p = p' := Option.some.inj (hp.symm.trans (by simpa using hp'))
      obtain ⟨hcauses, hprinter, -⟩ := Ticket.reconciled_kept hkept
      have hnew : (setCauseIf b .calloutRaised (updTicket n (fun _ => k') acc.1)).ticketOf q = some (n, k') := by
        rw [ticketOf_setCauseIf, ticketOf_updTicket h.sorted hk _ (hprinter.trans (State.mem_of_ticketOf hk).2), if_pos rfl]
      rw [hnew]
      exact ⟨by rintro _ ⟨⟩; exact hcauses, by simp⟩
  · obtain rfl : { p with deferred := false } = p' := Option.some.inj (.trans (by simp [hp]) hp')
    exact ⟨by simp [hnone], fun _ => iff_of_false (by simp) (not_not.2 hc)⟩
  · obtain rfl : p = p' := Option.some.inj (hp.symm.trans hp')
    exact ⟨by simp [hnone], fun _ => iff_of_true hd hc⟩
  · rw [get?_issueTicket_printers hp, if_pos rfl] at hp'
    obtain rfl : { p with deferred := false } = p' := Option.some.inj hp'
    rw [ticketOf_issueTicket hp hnone]
    exact ⟨by rintro _ ⟨⟩; rfl, by simp⟩
  · obtain rfl : { p with deferred := true } = p' := Option.some.inj (.trans (by simp [deferCallout, hp]) hp')
    exact ⟨by simp [deferCallout, hnone], fun _ => iff_of_true rfl hc⟩

/-- A hand-over leaves a printer where it was, or gives it the freed entry. -/
theorem place_handOver {n : Nat} (h : s.CalloutSound n) (x : Nat) : s.SamePlace (handOver s) x ∨ s.HandedTo (handOver s) x := by
  obtain ⟨-, he⟩ | ⟨q, hq, he⟩ := handOver_cases s <;> rw [he]
  · exact .inl ⟨rfl, rfl⟩
  · obtain ⟨p, hp, hd, hc, hnone⟩ := h.candidate hq
    by_cases hx : x = q
    · subst hx
      exact .inr ⟨p, hp, hd, by rw [get?_issueTicket_printers hp, if_pos rfl], _, ticketOf_issueTicket hp hnone, rfl, hc⟩
    · exact .inl ⟨ticketOf_issueTicket_ne hp h.room_lt hx, by rw [get?_issueTicket_printers hp, if_neg hx]⟩

/-! ### The reconciliations of one event -/

/-- Either the printer is where it was, or a freed entry has gone to it. -/
abbrev State.KeptOrHanded (s t : State) (x : Nat) : Prop := s.SamePlace t x ∨ s.HandedTo t x

theorem State.KeptOrHanded.trans {u : State} {x : Nat} (h₁ : s.KeptOrHanded t x) (h₂ : t.KeptOrHanded u x) (hp : t.params = s.params)
    (hs : t.stock = s.stock) : s.KeptOrHanded u x := by
  obtain ⟨ht, hr⟩ | ⟨p, hget, hd, hgot, hticket⟩ := h₁
  · obtain ⟨ht', hr'⟩ | ⟨p, hget, hd, hgot, e, he, hc, hne⟩ := h₂
    · exact .inl ⟨ht'.trans ht, hr'.trans hr⟩
    · exact .inr ⟨p, hr ▸ hget, hd, hgot, e, he, hc.trans (currentCauses_of_fields hp hs p), hne⟩
  · obtain ⟨ht', hr'⟩ | ⟨p', hget', hd', -⟩ := h₂
    · exact .inr ⟨p, hget, hd, hr'.trans hgot, by rw [ht']; exact hticket⟩
    · obtain rfl := Option.some.inj (hgot.symm.trans hget')
      cases hd'

theorem State.CalloutInLine.of_keptOrHanded {x : Nat} (h : s.CalloutInLine x) (hx : s.KeptOrHanded t x) (hp : t.params = s.params)
    (hs : t.stock = s.stock) : t.CalloutInLine x :=
  hx.elim (fun hx => h.of_samePlace hx hp hs) fun hx => hx.inLine hp hs

/-- The reconciliations one after another: the printers named are in line, every other is where it was. -/
theorem foldl_reconcile (ps : List Nat) {acc : State × Nat} (h : acc.1.CalloutSound acc.2) :
    let r := ps.foldl reconcile acc
    r.1.CalloutSound r.2 ∧ r.1.params = acc.1.params ∧ r.1.stock = acc.1.stock
    ∧ (∀ x, x ∉ ps → acc.1.SamePlace r.1 x) ∧ ∀ x ∈ ps, r.1.CalloutInLine x := by
  induction ps generalizing acc with
  | nil => exact ⟨h, rfl, rfl, fun _ _ => ⟨rfl, rfl⟩, by simp⟩
  | cons q ps ih =>
    obtain ⟨hsound, hparams, hstock, hsame, hline⟩ := ih (h.reconcile q)
    refine ⟨hsound, hparams.trans (by simp), hstock.trans (by simp), fun x hx => ?_, fun x hx => ?_⟩
    · obtain ⟨hxq, hx⟩ := not_or.1 (mt List.mem_cons.2 hx)
      obtain ⟨ht, hr⟩ := hsame x hx
      obtain ⟨ht', hr'⟩ := samePlace_reconcile h hxq
      exact ⟨ht.trans ht', hr.trans hr'⟩
    · by_cases hps : x ∈ ps
      · exact hline x hps
      · obtain rfl := (List.mem_cons.1 hx).resolve_right hps
        exact (inLine_reconcile h x).of_samePlace (hsame x hps) hparams hstock

theorem place_handOvers {n : Nat} (h : s.CalloutSound n) (x : Nat) : s.KeptOrHanded (handOvers n s) x := by
  induction n generalizing s with
  | zero => exact .inl ⟨rfl, rfl⟩
  | succ n ih => exact .trans (place_handOver h x) (ih h.handOver) (by simp) (by simp)

/-- The reconciliations of one event bring the printers named in line, and leave every other as it was or hand a freed entry over
to it. -/
theorem place_reconcileAll (h : s.CalloutSound 0) (ps : List Nat) (x : Nat) :
    (x ∈ ps → (reconcileAll ps s).CalloutInLine x) ∧ (x ∉ ps → s.KeptOrHanded (reconcileAll ps s) x) := by
  obtain ⟨hsound, hparams, hstock, hsame, hline⟩ := foldl_reconcile ps (acc := (s, 0)) h
  refine ⟨fun hx => ?_, fun hx => ?_⟩
  · exact (hline x hx).of_keptOrHanded (place_handOvers hsound x) (handOvers_params _ _) (handOvers_stock _ _)
  · exact .trans (.inl (hsame x hx)) (place_handOvers hsound x) hparams hstock

end Sys2Proof.Machine
end

section
/-!
PROOFS. Every step keeps the tickets sound and the callout position of each printer (R30 to R36): the few ways in which a deed touches
the tickets, and that each of them, each timer and the end of a second event keep both.
-/

namespace Sys2Proof.Machine

open Table (view view_modify view_map)

variable {s t u : State}

/-! ### How a deed touches the tickets -/

/-- The fields of a printer that its callout depends on. -/
def Printer.flags (p : Printer) : Bool × KindTable FilterState := (p.deferred, p.filters)

/-- Tickets, flags, filters and the settings of the kinds are in `t` as they are in `s`, and so is the second event in progress. -/
abbrev State.CalloutKept (s t : State) : Prop :=
  t.callout = s.callout ∧ view Printer.flags t.printers = view Printer.flags s.printers ∧ t.params.kinds = s.params.kinds
  ∧ t.second = s.second

theorem State.CalloutKept.trans (h₁ : s.CalloutKept t) (h₂ : t.CalloutKept u) : s.CalloutKept u :=
  ⟨h₂.1.trans h₁.1, h₂.2.1.trans h₁.2.1, h₂.2.2.1.trans h₁.2.2.1, h₂.2.2.2.trans h₁.2.2.2⟩

/-- The ways in which a command itself touches the callouts. -/
inductive CalloutStep : State → State → Prop
  | kept {s t : State} (h : s.CalloutKept t) : CalloutStep s t
  | reset (s : State) : CalloutStep s (resetAll s)
  | add (s : State) (q floor cls : Nat) (caps : Capabilities) (types : List Nat) (hv : s.printers.get? q = none) :
      CalloutStep s { s with printers := s.printers.put q (newPrinter s.now floor cls caps types) }
  | update (s : State) (conds types : List Nat) : CalloutStep s (calloutUpdate conds types s)
  | param (s : State) (i : ParamId) (v : Nat) : CalloutStep s (storeParam i v s)
  | ack (s : State) (n : Nat) (k : Ticket) (f : Ticket → Ticket) (v : Nat) (hk : (n, k) ∈ s.callout.tickets)
      (hr : k.state ≠ .resolved) (hf : f k = { k with state := .acked v }) : CalloutStep s (updTicket n f s)
  | close (s : State) (n : Nat) (k : Ticket) (hk : (n, k) ∈ s.callout.tickets) (hr : k.state = .resolved) :
      CalloutStep s (handOver (retireTicket n s))
  | retire (s : State) (q : Nat) (pr : Printer) (hp : s.printers.get? q = some pr) : CalloutStep s (applyRetire q pr s)

section

variable {P : State → Prop} (hp : ∀ s t : State, CalloutStep s t → P s → P t)
include hp

theorem kept_of_steps (hs : P s) (h : s.CalloutKept t) : P t := hp s t (.kept h) hs

theorem servicePresentation_of_steps (q : Nat) (hs : P s) : P (servicePresentation q s).1 := by
  unfold servicePresentation
  split
  · exact hs
  · next n k hk =>
    obtain ⟨hmem, -⟩ := State.mem_of_ticketOf hk
    split
    · next hst => exact hp _ _ (.ack s n k _ k.severity hmem (by rw [hst]; exact fun h => by cases h) rfl) hs
    · exact hs
    · next hst => exact hp _ _ (.close s n k hmem hst) hs

theorem routePresentation_of_steps (st : Station) (token : Word) (hs : P s) : P (routePresentation st token s).1 := by
  unfold routePresentation
  split
  · exact hs
  · split
    · exact hs
    · split
      · exact hs
      · split
        · exact kept_of_steps hp hs ⟨by simp, by simp, by simp, by simp⟩
        · exact servicePresentation_of_steps hp _ hs

theorem withLine_of_steps (l : Line) (hs : P s) : P { s with line := l } := kept_of_steps hp hs ⟨rfl, rfl, rfl, rfl⟩

theorem updStation_of_steps (a : Nat) (f : Station → Station) (hs : P s) : P (updStation a f s) := withLine_of_steps hp _ hs

theorem setCauseIf_of_steps (b : Bool) (c : Cause) (hs : P s) : P (setCauseIf b c s) :=
  kept_of_steps hp hs ⟨by simp, by simp, by simp, by simp⟩

theorem updPrinter_of_steps (n : Nat) {f : Printer → Printer} (hf : ∀ p, (f p).flags = p.flags) (hs : P s) : P (updPrinter n f s) :=
  kept_of_steps hp hs ⟨rfl, view_updPrinter s n hf, rfl, rfl⟩

theorem reorderChecks_of_steps (ts : List Nat) (hs : P s) : P (reorderChecks ts s) :=
  kept_of_steps hp hs ⟨by simp, by simp, by simp, by simp⟩

theorem takePresentation_of_steps (a : Nat) (token : Word) (hs : P s) : P (takePresentation a token s) := by
  unfold takePresentation
  dsimp only
  split
  · exact updStation_of_steps hp _ _ hs
  · exact withLine_of_steps hp _ (updStation_of_steps hp _ _ (routePresentation_of_steps hp _ _
      (withLine_of_steps hp _ (updStation_of_steps hp _ _ hs))))

theorem judgeExchange_of_steps (ex : Exchange) (v : Verdict) (hs : P s) : P (judgeExchange ex v s) := by
  have h (u : State) (b : Bool) (c : Cause) : P u → P (setCauseIf b c u) := setCauseIf_of_steps hp b c
  unfold judgeExchange
  dsimp only
  split
  · exact takePresentation_of_steps hp _ _ (h _ _ _ (h _ _ _ (updStation_of_steps hp _ _ hs)))
  · exact h _ _ _ (h _ _ _ (updStation_of_steps hp _ _ hs))

theorem endExchange_of_steps (ex : Exchange) (v : Verdict) (hs : P s) : P (endExchange ex v s) := by
  have hdrop : P { s with line := { s.line with exchange := none } } := withLine_of_steps hp _ hs
  have hj : P (if ex.abandoned then { s with line := { s.line with exchange := none } }
      else judgeExchange ex v { s with line := { s.line with exchange := none } }) := by
    split
    · exact hdrop
    · exact judgeExchange_of_steps hp ex v hdrop
  unfold endExchange
  dsimp only
  split
  · exact hj
  · exact withLine_of_steps hp _ hj

theorem atom_of_steps (h : Atom s t) (hs : P s) : P t := by
  cases h with
  | reset => exact hp _ _ (.reset s) hs
  | printerAdd q floor cls caps types _ _ _ _ _ _ hv => exact hp _ _ (.add s q floor cls caps types hv) hs
  | accountRetire => exact kept_of_steps hp hs (by rw [retireJobs_frame]; exact ⟨rfl, rfl, rfl, rfl⟩)
  | jobCancel => exact kept_of_steps hp hs (by rw [cancelJob_frame]; exact ⟨rfl, rfl, rfl, rfl⟩)
  | _ => exact kept_of_steps hp hs ⟨rfl, rfl, rfl, rfl⟩

theorem retestSlot_of_steps (q i : Nat) {w : Ripple} (hs : P w.state) : P (retestSlot q i w).state :=
  kept_of_steps hp hs ⟨by simp, view_retestSlot (fun _ _ _ => rfl) q i w, by simp, by simp⟩

theorem swapSlot_of_steps (q i n : Nat) {w : Ripple} (hs : P w.state) : P (swapSlot q i n w).state :=
  kept_of_steps hp hs ⟨by simp, view_swapSlot (fun _ _ _ => rfl) q i n w, by simp, by simp⟩

theorem applyLevels_of_steps (q i : Nat) (l : List (Option Nat)) {w : Ripple} (hs : P w.state) : P (applyLevels q i l w).state :=
  kept_of_steps hp hs ⟨by simp, view_applyLevels (fun _ _ _ => rfl) q i l w, by simp, by simp⟩

theorem changeTypes_of_steps (q i : Nat) (l : List Nat) {w : Ripple} (hs : P w.state) : P (changeTypes q i l w).state :=
  kept_of_steps hp hs ⟨by simp, view_changeTypes (fun _ _ _ => rfl) q i l w, by simp, by simp⟩

theorem rederiveState_of_steps (q : Nat) (hs : P s) : P (rederiveState q s) :=
  kept_of_steps hp hs ⟨by simp, view_rederiveState s (fun _ _ => rfl) q, by simp, by simp⟩

theorem deriveState_of_steps (q : Nat) (hs : P s) : P (deriveState q s) :=
  kept_of_steps hp hs ⟨by simp, view_deriveState s (fun _ _ => rfl) q, by simp, by simp⟩

theorem applyPrinterSet_of_steps (q floor cls : Nat) (caps : Capabilities) (types : List Nat) (clear : Bool) (hs : P s) :
    P (applyPrinterSet q floor cls caps types clear s) := by
  have hset : P (updPrinter q (fun p => { p with floor := floor, costClass := cls, caps := caps }) s) :=
    updPrinter_of_steps hp q (fun p => rfl) hs
  refine hp _ _ (.update _ _ _) (rederiveState_of_steps hp q (updPrinter_of_steps hp q (fun p => ?_)
    (reorderChecks_of_steps hp _ (changeTypes_of_steps hp q 0 types hset))))
  split <;> rfl

theorem applyReport_of_steps (q : Nat) (pr : Printer) (kinds levels : List Nat) (mono colour : Word) (hs : P s) :
    P (applyReport q pr kinds levels mono colour s) := by
  have hcounted (dm dc : CounterDelta) : P (applyCounters q mono colour dm dc s) :=
    setCauseIf_of_steps hp _ _ (updPrinter_of_steps hp q (fun p => by rfl) hs)
  refine hp _ _ (.update _ _ _) (deriveState_of_steps hp q (updPrinter_of_steps hp q (fun p => ?_)
    (reorderChecks_of_steps hp _ (applyLevels_of_steps hp q 0 _ (hcounted _ _)))))
  rfl

theorem applySwapped_of_steps (q i : Nat) (hs : P s) : P (applySwapped q i s) :=
  hp _ _ (.update _ _ _) (rederiveState_of_steps hp q (reorderChecks_of_steps hp _ (swapSlot_of_steps hp q i 1000 hs)))

theorem applySeed_of_steps (q i e r : Nat) (hs : P s) : P (applySeed q i e r s) := by
  refine reorderChecks_of_steps hp _ (retestSlot_of_steps hp q i (updPrinter_of_steps hp q (fun p => ?_) hs))
  rfl

theorem defineType_of_steps (n : Nat) (ty : CartridgeType) (hs : P s) : P (defineType n ty s).1 := by
  have hr : P (reorder n { s with stock := { s.stock with types := s.stock.types.put n ty } }).1 :=
    kept_of_steps hp hs ⟨by simp, by simp, by simp, by simp⟩
  unfold defineType
  dsimp only
  split
  · exact hp _ _ (.update _ _ _) hr
  · exact hr

theorem applyReceive_of_steps (n q : Nat) (r : Requisition) (shelf : Nat) (hs : P s) : P (applyReceive n q r shelf s) := by
  have hr (u : State) (h : s.CalloutKept u) : P u := kept_of_steps hp hs h
  unfold applyReceive
  dsimp only
  (repeat' split)
  · exact hr _ ⟨by simp, by simp, by simp, by simp⟩
  · exact hr _ ⟨by simp, by simp, by simp, by simp⟩
  · exact hp _ _ (.update _ _ _) (hr _ ⟨by simp, by simp, by simp, by simp⟩)
  · exact hp _ _ (.update _ _ _) (hr _ ⟨by simp, by simp, by simp, by simp⟩)

theorem sweepPrinterWalk_of_steps (n : Nat) (hs : P s) : P (sweepPrinterWalk n s) := by
  unfold sweepPrinterWalk
  split
  · exact kept_of_steps hp hs ⟨rfl, rfl, rfl, rfl⟩
  · next q p hf =>
    refine kept_of_steps hp (s := updPrinter q (fun p' => { p' with slots := s.sweptSlots p, pMono := 0, pColour := 0, rebase := false }) s)
      ?_ ⟨by simp [sweepPrinter], by simp [sweepPrinter], by simp [sweepPrinter], by simp [sweepPrinter]⟩
    exact updPrinter_of_steps hp q (fun p' => by rfl) hs

theorem deed_of_calloutSteps (h : Deed s t) (hs : P s) : P t := by
  cases h with
  | atom ha => exact atom_of_steps hp ha hs
  | exchangeEnd ex v => exact endExchange_of_steps hp ex v hs
  | paramSet i v => exact hp _ _ (.param s i v) hs
  | printerSet => exact applyPrinterSet_of_steps hp _ _ _ _ _ _ hs
  | printerRetire q pr hpr => exact hp _ _ (.retire s q pr hpr) hs
  | statusReport => exact applyReport_of_steps hp _ _ _ _ _ _ hs
  | ticketAck n k hk hr =>
    cases hst : k.state with
    | resolved => exact absurd hst hr
    | raised => exact hp _ _ (.ack s n k _ _ (Table.mem_of_get? hk) hr (Ticket.acknowledge_eq (.inl ⟨hst, rfl⟩))) hs
    | acked v => exact hp _ _ (.ack s n k _ v (Table.mem_of_get? hk) hr (Ticket.acknowledge_eq (.inr hst))) hs
  | ticketClose n k hk hr => exact hp _ _ (.close s n k (Table.mem_of_get? hk) hr) hs
  | cartridgeSwapped q i => exact applySwapped_of_steps hp q i hs
  | cartridgeSeed => exact applySeed_of_steps hp _ _ _ _ hs
  | typeDefine => exact defineType_of_steps hp _ _ hs
  | typeUndefine n => exact hp _ _ (.update _ _ _) (kept_of_steps hp hs ⟨rfl, rfl, rfl, rfl⟩)
  | reqReceive => exact applyReceive_of_steps hp _ _ _ _ hs
  | overrun => exact kept_of_steps hp hs ⟨rfl, rfl, rfl, rfl⟩
  | sweepPrinter n => exact sweepPrinterWalk_of_steps hp n hs
  | sweepGroup => exact kept_of_steps hp hs (by rw [sweepGroupWalk_frame]; exact ⟨rfl, rfl, rfl, rfl⟩)
  | sweepAccount => exact kept_of_steps hp hs (by rw [sweepAccountWalk_frame]; exact ⟨rfl, rfl, rfl, rfl⟩)
  | sweepType => exact kept_of_steps hp hs (by rw [sweepTypeWalk_frame]; exact ⟨rfl, rfl, rfl, rfl⟩)
  | reqConfirm | reqCancel | releaseRequest => exact kept_of_steps hp hs ⟨by simp, by simp, by simp, by simp⟩
  | jobDone n m requeue j r u hj hph =>
    exact kept_of_steps hp hs ⟨by rw [completeJob_frame], view_completeJob s (fun _ _ _ => rfl) j r m _ requeue,
      by rw [completeJob_frame], by rw [completeJob_frame]⟩

end

/-! ### Escalations -/

/-- A ticket after the escalations of a second event (R34). -/
def State.escalated (s : State) (k : Ticket) : Ticket :=
  if s.escalates k then { k with level := k.level + 1, point := s.now } else k

theorem tickets_escalations (s : State) :
    (escalations s).callout.tickets = s.callout.tickets.map fun e => (e.1, s.escalated e.2) := by
  simp [escalations, State.escalated]

theorem printer_escalated (s : State) (k : Ticket) : (s.escalated k).printer = k.printer := by
  unfold State.escalated
  split <;> rfl

theorem causes_escalated (s : State) (k : Ticket) : (s.escalated k).causes = k.causes := by
  unfold State.escalated
  split <;> rfl

theorem ticketOf_escalations (s : State) (q : Nat) :
    (escalations s).ticketOf q = (s.ticketOf q).map fun e => (e.1, s.escalated e.2) := by
  rw [State.ticketOf, tickets_escalations, List.find?_map]
  refine congrArg (Option.map _) (List.find?_congr fun e _ => ?_)
  simp only [Function.comp, printer_escalated]

/-! ### The tickets stay sound -/

namespace State.CalloutSound

variable {n : Nat}

/-- The soundness reads of the printers their numbers and the deferred flags alone. -/
theorem of_deferred (h : s.CalloutSound n) (hc : t.callout.tickets = s.callout.tickets)
    (hp : view Printer.deferred t.printers = view Printer.deferred s.printers) : t.CalloutSound n where
  printers := by rw [Table.Sorted, Table.keys_eq_of_view_eq hp]; exact h.printers
  sorted := hc ▸ h.sorted
  room := hc ▸ h.room
  oneEach := hc ▸ h.oneEach
  sound := hc ▸ h.sound
  printed := by rw [hc, Table.keys_eq_of_view_eq hp]; exact h.printed
  deferred := by
    intro q p hq hd
    have hflags := Table.map_get?_eq_of_view_eq hp q
    rw [hq, Option.map_some] at hflags
    obtain ⟨p', hq', hf⟩ := Option.map_eq_some_iff.1 hflags.symm
    rw [State.ticketOf_of_tickets hc]
    exact h.deferred q p' hq' (hf.trans hd)

theorem kept (h : s.CalloutSound n) (hk : s.CalloutKept t) : t.CalloutSound n := by
  obtain ⟨hc, hp, -, -⟩ := hk
  refine h.of_deferred (by rw [hc]) ?_
  have := congrArg (view Prod.fst) hp
  rwa [Table.view_view, Table.view_view] at this

theorem calloutUpdate (h : s.CalloutSound 0) (conds types : List Nat) : (calloutUpdate conds types s).CalloutSound 0 := by
  refine calloutUpdate_induct (P := fun u => u.CalloutSound 0) conds types (fun u n hu => hu.of_deferred rfl ?_)
    (fun ps _ hu => hu.reconcileAll ps) h
  exact view_updPrinter u n fun p => rfl

/-- A printer added has no ticket and is not deferred. -/
theorem add (h : s.CalloutSound n) (q floor cls : Nat) (caps : Capabilities) (types : List Nat) :
    State.CalloutSound { s with printers := s.printers.put q (newPrinter s.now floor cls caps types) } n :=
  { h with
    printers := Table.sorted_put h.printers _ _
    printed := fun e he => (Table.mem_keys_put _ _ _ _).2 (.inr (h.printed e he))
    deferred := by
      intro x p hx hd
      rw [Table.get?_put] at hx
      split at hx
      · cases hx; cases hd
      · exact h.deferred x p hx hd }

/-- A printer without a ticket may go. -/
theorem delPrinter (h : s.CalloutSound n) {q : Nat} (hq : s.ticketOf q = none) :
    State.CalloutSound { s with printers := s.printers.del q } n :=
  { h with
    printers := Table.sorted_del h.printers q
    printed := fun e he => (Table.mem_keys_del _ _ _).2 ⟨h.printed e he, State.ticketOf_eq_none_iff.1 hq e he⟩
    deferred := by
      intro x p hx hd
      rw [Table.get?_del] at hx
      split at hx
      · cases hx
      · exact h.deferred x p hx hd }

theorem applyRetire (h : s.CalloutSound 0) (q : Nat) (pr : Printer) : (applyRetire q pr s).CalloutSound 0 := by
  obtain ⟨hnone, he⟩ | ⟨m, k, hk, he⟩ := applyRetire_cases s q pr <;> rw [he]
  · exact (h.delPrinter hnone).of_deferred (by simp) (by simp)
  · have hgone : (Machine.retireTicket m s).CalloutSound 1 := h.retireTicket (List.mem_map_of_mem (State.mem_of_ticketOf hk).1)
    have hnone : (Machine.retireTicket m s).ticketOf q = none := by rw [ticketOf_retireTicket h.sorted h.oneEach hk, if_pos rfl]
    exact ((hgone.delPrinter hnone).of_deferred (by simp) (by simp)).handOver

theorem step (h : s.CalloutSound 0) (hst : CalloutStep s t) : t.CalloutSound 0 := by
  cases hst with
  | kept hk => exact h.kept hk
  | reset => exact (calloutSound_iff (by decide : TablesOrdered State.reset)).1 (by decide) |>.kept ⟨rfl, rfl, rfl, rfl⟩
  | add q floor cls caps types => exact h.add q floor cls caps types
  | update conds types => exact h.calloutUpdate conds types
  | param i v =>
    have hset : State.CalloutSound { s with params := s.params.write v i } 0 := { h with }
    unfold storeParam
    dsimp only
    split
    · exact hset.reconcileAll _
    · exact hset
  | ack m k f v hk hr hf =>
    refine h.updTicket (State.ticketOf_of_mem h.oneEach hk) (by rw [hf]) ?_
    obtain ⟨hst, hl⟩ := h.sound _ hk
    rw [hf]
    exact ⟨iff_of_false (by simp) fun hc => hr (hst.2 hc), hl⟩
  | close m k hk => exact (h.retireTicket (List.mem_map_of_mem hk)).handOver
  | retire q pr => exact h.applyRetire q pr

/-- An escalation raises a level below 3. -/
theorem escalations (h : s.CalloutSound n) : (escalations s).CalloutSound n := by
  have hkeys : Table.keys (Machine.escalations s).callout.tickets = Table.keys s.callout.tickets := by
    rw [tickets_escalations, Table.keys_map]
  exact {
    printers := by simpa [Table.Sorted] using h.printers
    sorted := by rw [Table.Sorted, hkeys]; exact h.sorted
    room := by rw [tickets_escalations, List.length_map]; exact h.room
    oneEach := by
      have hmap : ((Machine.escalations s).callout.tickets.map fun e => e.2.printer) = s.callout.tickets.map fun e => e.2.printer := by
        rw [tickets_escalations, List.map_map]
        exact List.map_congr_left fun e _ => printer_escalated s e.2
      rw [OneEach, hmap]
      exact h.oneEach
    sound := by
      rw [tickets_escalations]
      intro e he
      obtain ⟨d, hd, rfl⟩ := List.mem_map.1 he
      obtain ⟨hst, hl⟩ := h.sound d hd
      dsimp only [State.escalated]
      split
      · next hesc =>
        have hlow : d.2.level < 3 := by simp [State.escalates] at hesc; exact hesc.1.2
        exact ⟨hst, hlow⟩
      · exact ⟨hst, hl⟩
    printed := by
      rw [tickets_escalations]
      intro e he
      obtain ⟨d, hd, rfl⟩ := List.mem_map.1 he
      rw [printer_escalated, escalations_printers]
      exact h.printed d hd
    deferred := by
      intro q p hq hd
      rw [escalations_printers] at hq
      rw [ticketOf_escalations, h.deferred q p hq hd]
      rfl }

theorem runTimer (h : s.CalloutSound n) (u : Timer) : (runTimer u s).CalloutSound n := by
  cases u with
  | dayBoundary => exact { h with }
  | takeTimeout => exact h.of_deferred (by simp [Machine.runTimer]) (by simp [Machine.runTimer])
  | silence =>
    exact h.of_deferred (by simp [Machine.runTimer]) (view_silenceExamination s (fun _ _ => rfl) fun _ _ => rfl)
  | tick m => exact h.of_deferred rfl (view_classTickEffect s (fun _ _ => rfl) m)
  | escalation => exact h.escalations
  | abandonment => exact h.of_deferred (by simp [Machine.runTimer]) (view_abandonments s fun _ _ => rfl)
  | holdExpiry => exact h.of_deferred (by simp [Machine.runTimer]) (by simp [Machine.runTimer])
  | quiet => exact h.of_deferred (by simp [Machine.runTimer]) (by simp [Machine.runTimer])

theorem move (h : s.CalloutSound 0) (hm : Move s t) : t.CalloutSound 0 := by
  cases hm with
  | deed hd => exact deed_of_calloutSteps (P := fun u => u.CalloutSound 0) (fun _ _ hst h => h.step hst) hd h
  | second => exact { h with }
  | timer u => exact h.runTimer u
  | reconcile ps => exact h.reconcileAll ps

end State.CalloutSound

/-! ### The kinds that a callout lists -/

/-- The kinds that are causes: CONFIRMED, with a severity that is not 0 (R29). The step of a toner kind does not matter here. -/
def causeKinds (kinds : KindTable KindSetting) (filters : KindTable FilterState) : List FaultKind :=
  FaultKind.all.filter fun k => decide (filters.at k = .confirmed ∧ 1 ≤ (kinds.at k).severity)

theorem one_le_effSeverity_iff (s : State) (p : Printer) (k : FaultKind) :
    1 ≤ effSeverity s p k ↔ 1 ≤ (s.params.kinds.at k).severity := by
  have htoner (base : Nat) (cs : List Cartridge) : 1 ≤ tonerSeverity s base cs ↔ 1 ≤ base := by
    unfold tonerSeverity
    (repeat' split) <;> omega
  cases k with
  | tonerEmptyK | tonerEmptyColour => exact htoner _ _
  | _ => exact Iff.rfl

theorem kinds_currentCauses (s : State) (p : Printer) :
    (currentCauses s p).map Prod.fst = causeKinds s.params.kinds p.filters := by
  unfold currentCauses causeKinds
  rw [List.map_filterMap, ← List.filterMap_eq_filter]
  refine List.filterMap_congr fun k _ => ?_
  simp only [one_le_effSeverity_iff, Option.guard, decide_eq_true_eq]
  split <;> rfl

/-- The callout of a printer lists its causes as kinds, or the printer is deferred exactly while it has causes (R35). -/
abbrev State.Listed (s : State) (x : Nat) : Prop :=
  ∀ p ∈ s.printers.get? x, (∀ e ∈ s.ticketOf x, e.2.causes.map Prod.fst = causeKinds s.params.kinds p.filters)
    ∧ (s.ticketOf x = none → (p.deferred = true ↔ causeKinds s.params.kinds p.filters ≠ []))

/-- Every printer but those the second event in progress still owes a reconciliation has its callout in line. -/
abbrev State.OwesOnly (s : State) : Prop := ∀ x, x ∉ s.second.unreconciled → s.Listed x

/-- A second event that owes reconciliations has a judgment still to make. -/
abbrev State.WillJudge (s : State) : Prop := s.second.unreconciled ≠ [] → ∃ u ∈ s.second.due, u.judges = true

theorem calloutsComplete_iff (h : TablesOrdered s) : CalloutsComplete s ↔ (s.inReset = false → s.OwesOnly ∧ s.WillJudge) := by
  have hne (p : Printer) : currentCauses s p ≠ [] ↔ causeKinds s.params.kinds p.filters ≠ [] := by
    rw [← kinds_currentCauses, ne_eq, ne_eq, List.map_eq_nil_iff]
  refine imp_congr_right fun _ => and_congr_left fun _ => ?_
  constructor
  · intro hc x hx p hp
    simpa only [kinds_currentCauses, hne] using hc (x, p) (Table.mem_of_get? hp) hx
  · intro hc e he hx
    simpa only [kinds_currentCauses, hne] using hc e.1 hx e.2 (Table.get?_of_mem h.1 he)

/-- What a callout depends on: the causes its ticket lists, its flag and the kinds that are its causes. -/
theorem State.Listed.of_same {x : Nat} (h : s.Listed x)
    (ht : (t.ticketOf x).map (fun e => e.2.causes) = (s.ticketOf x).map fun e => e.2.causes)
    (hp : ∀ p' ∈ t.printers.get? x, ∃ p ∈ s.printers.get? x, p'.deferred = p.deferred
      ∧ causeKinds t.params.kinds p'.filters = causeKinds s.params.kinds p.filters) : t.Listed x := by
  intro p' hp'
  obtain ⟨p, hget, hd, hk⟩ := hp p' hp'
  obtain ⟨hlist, hflag⟩ := h p hget
  rw [hd, hk]
  cases hs : s.ticketOf x with
  | none =>
    rw [hs, Option.map_none, Option.map_eq_none_iff] at ht
    exact ⟨by simp [ht], fun _ => hflag hs⟩
  | some e =>
    rw [hs, Option.map_some, Option.map_eq_some_iff] at ht
    obtain ⟨e', he', hc⟩ := ht
    rw [he']
    refine ⟨?_, by simp⟩
    rintro _ ⟨⟩
    rw [hc]
    exact hlist e hs

theorem State.CalloutInLine.listed {x : Nat} (h : s.CalloutInLine x) : s.Listed x := by
  intro p hp
  obtain ⟨hlist, hflag⟩ := h p hp
  rw [← kinds_currentCauses]
  exact ⟨fun e he => by rw [hlist e he], fun hn => (hflag hn).trans (by simp)⟩

theorem State.Listed.of_keptOrHanded {x : Nat} (h : s.Listed x) (hx : s.KeptOrHanded t x) (hp : t.params = s.params)
    (hs : t.stock = s.stock) : t.Listed x := by
  obtain ⟨ht, hr⟩ | hx := hx
  · exact h.of_same (by rw [ht]) fun p' hp' => ⟨p', by rwa [hr] at hp', rfl, by rw [hp]⟩
  · exact (hx.inLine hp hs).listed

theorem State.Listed.kept {x : Nat} (h : s.Listed x) (hc : t.callout.tickets = s.callout.tickets)
    (hf : view Printer.flags t.printers = view Printer.flags s.printers) (hk : t.params.kinds = s.params.kinds) : t.Listed x := by
  refine h.of_same (by rw [State.ticketOf_of_tickets hc]) fun p' hp' => ?_
  have hflags := Table.map_get?_eq_of_view_eq hf x
  rw [hp', Option.map_some] at hflags
  obtain ⟨p, hp, he⟩ := Option.map_eq_some_iff.1 hflags.symm
  refine ⟨p, hp, (congrArg Prod.fst he).symm, ?_⟩
  rw [hk, show p'.filters = p.filters from (congrArg Prod.snd he).symm]

end Sys2Proof.Machine
end

section
/-!
PROOFS. The callout of every printer stays in line (R30 to R36): every deed keeps it, a judgment notes the printers that it may have
put out of line, and after the last judgment of a second event they are reconciled.
-/

namespace Sys2Proof.Machine

open Table (view view_modify view_map)

variable {s t : State}

/-! ### A command's own work -/

theorem reconcileAll_listed (h : s.CalloutSound 0) (ps : List Nat) {x : Nat} (hx : x ∈ ps ∨ s.Listed x) :
    (reconcileAll ps s).Listed x := by
  obtain ⟨hin, hout⟩ := place_reconcileAll h ps x
  by_cases hps : x ∈ ps
  · exact (hin hps).listed
  · exact (hx.resolve_left hps).of_keptOrHanded (hout hps) (by simp) (by simp)

theorem handOver_listed {n : Nat} (h : s.CalloutSound n) {x : Nat} (hx : s.Listed x) : (handOver s).Listed x :=
  hx.of_keptOrHanded (place_handOver h x) (by simp) (by simp)

theorem State.listed_of_vacant {x : Nat} (h : s.printers.get? x = none) : s.Listed x := by
  intro p hp
  cases h.symm.trans hp

/-- A printer is among those that satisfy a condition if it does. -/
theorem State.mem_printersWhere_of_get? {f : Nat → Printer → Bool} {x : Nat} {p : Printer} (hp : s.printers.get? x = some p)
    (hf : f x p = true) : x ∈ s.printersWhere f :=
  List.mem_map.2 ⟨(x, p), List.mem_filter.2 ⟨Table.mem_of_get? hp, hf⟩, rfl⟩

theorem get?_foldl_judgePrinter (conds : List Nat) (s : State) {x : Nat} (hx : x ∉ conds) :
    (conds.foldl judgePrinter s).printers.get? x = s.printers.get? x := by
  induction conds generalizing s with
  | nil => rfl
  | cons n conds ih =>
    obtain ⟨hn, hx⟩ := not_or.1 (mt List.mem_cons.2 hx)
    rw [List.foldl_cons, ih _ hx, judgePrinter, updPrinter_printers, Table.get?_modify_ne _ _ hn]

theorem callout_foldl_judgePrinter (conds : List Nat) (s : State) :
    (conds.foldl judgePrinter s).callout = s.callout ∧ (conds.foldl judgePrinter s).params = s.params := by
  induction conds generalizing s with
  | nil => exact ⟨rfl, rfl⟩
  | cons n conds ih => exact ih (judgePrinter s n)

theorem State.CalloutSound.judged {n : Nat} (h : s.CalloutSound n) (conds : List Nat) :
    (conds.foldl judgePrinter s).CalloutSound n := by
  refine foldl_preserves (P := fun u => State.CalloutSound u n) (f := judgePrinter) (fun u m hu => hu.of_deferred rfl ?_) conds h
  exact view_updPrinter u m fun p => rfl

/-- A judgment puts no other printer out of line. -/
theorem judged_listed {conds : List Nat} {x : Nat} (hn : x ∉ conds) (hx : s.Listed x) : (conds.foldl judgePrinter s).Listed x := by
  obtain ⟨hc, hp⟩ := callout_foldl_judgePrinter conds s
  refine hx.of_same (by rw [State.ticketOf_of_tickets (congrArg Callout.tickets hc)]) fun p' hp' => ⟨p', ?_, rfl, by rw [hp]⟩
  rwa [get?_foldl_judgePrinter conds s hn] at hp'

theorem calloutUpdate_listed (h : s.CalloutSound 0) (conds types : List Nat) {x : Nat} (hx : s.Listed x) :
    (calloutUpdate conds types s).Listed x := by
  refine reconcileAll_listed (h.judged conds) _ ?_
  by_cases hm : x ∈ conds
  · cases hget : (conds.foldl judgePrinter s).printers.get? x with
    | none => exact .inr (State.listed_of_vacant hget)
    | some p => exact .inl (State.mem_printersWhere_of_get? hget (by simp [hm]))
  · exact .inr (judged_listed hm hx)

/-- The severities of the other kinds stay. -/
theorem severity_write (p : Params) (i : ParamId) (v : Nat) {k : FaultKind} (h : i ≠ .faultSeverity k) :
    ((p.write v i).kinds.at k).severity = (p.kinds.at k).severity := by
  cases i with
  | faultSeverity j =>
    have hne : k ≠ j := fun hkj => h (by rw [hkj])
    simp [Params.write, Params.setKind, KindTable.at_upd, hne]
  | faultClass j | faultAutoclose j =>
    simp only [Params.write, Params.setKind, KindTable.at_upd]
    split
    · next hkj => rw [hkj]
    · rfl
  | _ => rfl

theorem causeKinds_write (p : Params) (i : ParamId) (v : Nat) {filters : KindTable FilterState}
    (h : ∀ k, i = .faultSeverity k → filters.at k ≠ .confirmed) :
    causeKinds (p.write v i).kinds filters = causeKinds p.kinds filters := by
  refine List.filter_congr fun k _ => decide_eq_decide.2 (and_congr_right fun hk => ?_)
  rw [severity_write p i v fun hi => h k hi hk]

theorem storeParam_listed (h : s.CalloutSound 0) (i : ParamId) (v : Nat) {x : Nat} (hx : s.Listed x) : (storeParam i v s).Listed x := by
  have hset : State.CalloutSound { s with params := s.params.write v i } 0 := { h with }
  have hsame (hk : ∀ p ∈ s.printers.get? x, ∀ k, i = .faultSeverity k → p.filters.at k ≠ .confirmed) :
      State.Listed { s with params := s.params.write v i } x :=
    hx.of_same rfl fun p hp => ⟨p, hp, rfl, causeKinds_write s.params i v (hk p hp)⟩
  unfold storeParam
  dsimp only
  split
  · next k =>
    refine reconcileAll_listed hset _ ?_
    by_cases hc : ∃ p ∈ s.printers.get? x, p.filters.at k = .confirmed
    · obtain ⟨p, hp, hk⟩ := hc
      exact .inl (State.mem_printersWhere_of_get? (s := { s with params := _ }) hp (by simp [hk]))
    · refine .inr (hsame fun p hp j hj hconf => hc ⟨p, hp, ?_⟩)
      cases hj
      exact hconf
  · next hi => exact hsame fun p _ k hk => absurd hk (hi k)

theorem add_listed (h : s.CalloutSound 0) (q floor cls : Nat) (caps : Capabilities) (types : List Nat)
    (hv : s.printers.get? q = none) {x : Nat} (hx : s.Listed x) :
    State.Listed { s with printers := s.printers.put q (newPrinter s.now floor cls caps types) } x := by
  intro p hp
  rw [Table.get?_put] at hp
  split at hp
  · next hxq =>
    cases hp
    have hnone : s.ticketOf x = none := State.ticketOf_eq_none_iff.2 fun e he hex =>
      (Table.get?_eq_none_iff _ _).1 hv (hxq ▸ hex ▸ h.printed e he)
    have hclear : causeKinds s.params.kinds (newPrinter s.now floor cls caps types).filters = [] := by
      simp [causeKinds, newPrinter]
    refine ⟨fun e he => ?_, fun _ => ?_⟩
    · cases hnone.symm.trans he
    · rw [hclear]; simp [newPrinter]
  · exact hx p hp

theorem ack_listed {n : Nat} {k : Ticket} {f : Ticket → Ticket} {v : Nat} (h : s.CalloutSound 0) (hk : (n, k) ∈ s.callout.tickets)
    (hf : f k = { k with state := .acked v }) {x : Nat} (hx : s.Listed x) : (updTicket n f s).Listed x := by
  refine hx.of_same ?_ fun p hp => ⟨p, hp, rfl, rfl⟩
  have hof := State.ticketOf_of_mem h.oneEach hk
  rw [ticketOf_updTicket h.sorted hof f (by rw [hf])]
  split
  · next hxk => rw [hxk, hof, Option.map_some, Option.map_some, hf]
  · rfl

/-- A RESOLVED ticket has no causes, so its printer is in line without it. -/
theorem retireTicket_listed {n : Nat} {k : Ticket} (h : s.CalloutSound 0) (hk : (n, k) ∈ s.callout.tickets) (hr : k.state = .resolved)
    {x : Nat} (hx : s.Listed x) : (retireTicket n s).Listed x := by
  have hof := State.ticketOf_of_mem h.oneEach hk
  have hgone := ticketOf_retireTicket h.sorted h.oneEach hof
  by_cases hxk : x = k.printer
  · subst hxk
    intro p hp
    have hnil : causeKinds s.params.kinds p.filters = [] := by
      rw [← (hx p hp).1 _ hof, (h.sound _ hk).1.1 hr]; rfl
    have hflag : p.deferred ≠ true := fun hd => by have := h.deferred _ p hp hd; rw [hof] at this; cases this
    rw [hgone, if_pos rfl]
    exact ⟨by simp, fun _ => by simpa [hnil] using hflag⟩
  · exact hx.of_same (by rw [hgone, if_neg hxk]) fun p hp => ⟨p, hp, rfl, rfl⟩

theorem delPrinter_listed (q : Nat) {x : Nat} (hx : s.Listed x) : State.Listed { s with printers := s.printers.del q } x := by
  intro p hp
  rw [Table.get?_del] at hp
  split at hp
  · cases hp
  · exact hx p hp

theorem applyRetire_listed (h : s.CalloutSound 0) (q : Nat) (pr : Printer) {x : Nat} (hx : s.Listed x) :
    (applyRetire q pr s).Listed x := by
  obtain ⟨hnone, he⟩ | ⟨m, k, hk, he⟩ := applyRetire_cases s q pr <;> rw [he]
  · exact (delPrinter_listed q hx).kept (by simp) (by simp) (by simp)
  · have hgone := ticketOf_retireTicket h.sorted h.oneEach hk
    have hsound : (retireTicket m s).CalloutSound 1 := h.retireTicket (List.mem_map_of_mem (State.mem_of_ticketOf hk).1)
    have hdel := hsound.delPrinter (q := q) (by rw [hgone, if_pos rfl])
    have hdl : State.Listed { retireTicket m s with printers := s.printers.del q } x := by
      by_cases hxq : x = q
      · exact State.listed_of_vacant (by rw [hxq]; exact Table.get?_del_self _ _)
      · have hother : (retireTicket m s).Listed x := hx.of_same (by rw [hgone, if_neg hxq]) fun p hp => ⟨p, hp, rfl, rfl⟩
        exact delPrinter_listed q hother
    exact handOver_listed (hdel.of_deferred (by simp) (by simp)) (hdl.kept (by simp) (by simp) (by simp))

/-- A printer in line stays in line, whatever a command does to the callouts. -/
theorem CalloutStep.listed (hst : CalloutStep s t) (h : s.CalloutSound 0) {x : Nat} (hx : s.Listed x) : t.Listed x := by
  cases hst with
  | kept hk => exact hx.kept (by rw [hk.1]) hk.2.1 hk.2.2.1
  | reset => exact State.listed_of_vacant rfl
  | add q floor cls caps types hv => exact add_listed h q floor cls caps types hv hx
  | update conds types => exact calloutUpdate_listed h conds types hx
  | param i v => exact storeParam_listed h i v hx
  | ack n k f v hk hr hf => exact ack_listed h hk hf hx
  | close n k hk hr => exact handOver_listed (h.retireTicket (List.mem_map_of_mem hk)) (retireTicket_listed h hk hr hx)
  | retire q pr => exact applyRetire_listed h q pr hx

/-! ### The timers of a second event -/

@[simp] theorem due_silenceExamination (s : State) : (silenceExamination s).second.due = s.second.due := by
  refine (foldl_keeps (fun u : State => u.second.due) judgePrinter (fun _ _ => rfl) _ _).trans ?_
  exact foldl_keeps (fun u : State => u.second.due) silencePrinter (fun u n => by simp [silencePrinter, noteReturned]) _ _

@[simp] theorem runTimer_due (u : Timer) (s : State) : (runTimer u s).second.due = s.second.due := by
  cases u with
  | silence => exact due_silenceExamination s
  | tick | takeTimeout => simp [runTimer, classTickEffect, takeTimeouts, noteUnreconciled, noteReturned]
  | _ => simp [runTimer]

/-- A timer that judges nothing leaves the reconciliations owed. -/
theorem runTimer_unreconciled {u : Timer} (hu : u.judges = false) (s : State) :
    (runTimer u s).second.unreconciled = s.second.unreconciled := by
  cases u with
  | silence | tick => cases hu
  | takeTimeout => simp [runTimer, takeTimeouts, noteReturned]
  | _ => simp [runTimer]

theorem unreconciled_silenceExamination (s : State) :
    (silenceExamination s).second.unreconciled = s.second.unreconciled ++ s.printersWhere fun _ p => s.silenceDue p := by
  unfold silenceExamination
  dsimp only [noteUnreconciled]
  congr 1
  refine (foldl_keeps (fun u : State => u.second.unreconciled) judgePrinter (fun _ _ => rfl) _ _).trans ?_
  exact foldl_keeps (fun u : State => u.second.unreconciled) silencePrinter (fun u n => by simp [silencePrinter, noteReturned]) _ _

/-- The silence examination judges the printers that it notes, and no other. -/
theorem silenceExamination_listed {x : Nat} (hn : x ∉ s.printersWhere fun _ p => s.silenceDue p) (hx : s.Listed x) :
    (silenceExamination s).Listed x := by
  have hsilenced (l : List Nat) (u : State) : view Printer.flags (l.foldl silencePrinter u).printers = view Printer.flags u.printers :=
    foldl_keeps (fun u : State => view Printer.flags u.printers) silencePrinter
      (fun u n => view_setServiceState (setCause .printerSilent u) (fun _ _ => rfl) n .silent) l u
  have hkept : State.Listed ((s.printersWhere fun _ p => s.silenceDue p).foldl silencePrinter s) x := by
    refine hx.kept ?_ (hsilenced _ s) ?_
    · exact foldl_keeps (fun u : State => u.callout.tickets) silencePrinter (fun u n => by rw [silencePrinter_callout]) _ _
    · exact foldl_keeps (fun u : State => u.params.kinds) silencePrinter (fun u n => by rw [silencePrinter_params]) _ _
  exact judged_listed hn hkept

theorem confirmedMoved_eq_false_iff {before after : KindTable FilterState} :
    confirmedMoved before after = false ↔ ∀ k, before.at k = .confirmed ↔ after.at k = .confirmed := by
  have hall (k : FaultKind) : k ∈ FaultKind.all := by cases k <;> decide
  simp only [confirmedMoved, List.any_eq_false, hall, true_implies, bne_iff_ne, ne_eq, Decidable.not_not]
  refine forall_congr' fun k => ?_
  rw [Bool.eq_iff_iff, beq_iff_eq, beq_iff_eq]

theorem causeKinds_of_confirmed {kinds : KindTable KindSetting} {f g : KindTable FilterState}
    (h : ∀ k, f.at k = .confirmed ↔ g.at k = .confirmed) : causeKinds kinds f = causeKinds kinds g :=
  List.filter_congr fun k _ => decide_eq_decide.2 (and_congr_left' (h k))

/-- A tick notes the printers where a kind entered or left CONFIRMED, and no other changes its causes. -/
theorem classTickEffect_listed (n : Nat) {x : Nat}
    (hn : x ∉ s.printersWhere fun _ p => confirmedMoved p.filters (judgeTick n s p)) (hx : s.Listed x) :
    (classTickEffect n s).Listed x := by
  refine hx.of_same rfl fun p' hp' => ?_
  have hview := Table.get?_view (fun p : Printer => { p with filters := judgeTick n s p }) s.printers x
  have hget : (s.printers.get? x).map (fun p : Printer => { p with filters := judgeTick n s p }) = some p' := hview.symm.trans hp'
  obtain ⟨p, hp, rfl⟩ := Option.map_eq_some_iff.1 hget
  refine ⟨p, hp, rfl, (causeKinds_of_confirmed (confirmedMoved_eq_false_iff.1 ?_)).symm⟩
  exact Bool.eq_false_iff.2 fun hm => hn (State.mem_printersWhere_of_get? hp hm)

/-- A timer puts no printer out of line but those that it notes. -/
theorem runTimer_owesOnly (u : Timer) (h : s.OwesOnly) : (runTimer u s).OwesOnly := by
  intro x hx
  by_cases hu : u.judges = true
  · cases u with
    | silence =>
      rw [runTimer, unreconciled_silenceExamination, List.mem_append, not_or] at hx
      exact silenceExamination_listed hx.2 (h x hx.1)
    | tick n =>
      obtain ⟨ho, hm⟩ := not_or.1 (mt List.mem_append.2 hx)
      exact classTickEffect_listed n hm (h x ho)
    | _ => cases hu
  · have hl := h x (by rwa [runTimer_unreconciled (by simpa using hu)] at hx)
    cases u with
    | silence | tick => exact absurd rfl hu
    | escalation =>
      refine hl.of_same ?_ fun p hp => ⟨p, by rwa [runTimer, escalations_printers] at hp, rfl, by rw [runTimer, escalations_params]⟩
      rw [runTimer, ticketOf_escalations, Option.map_map]
      exact congrArg (fun f => Option.map f (s.ticketOf x)) (funext fun e => causes_escalated s e.2)
    | abandonment => exact hl.kept (by simp [runTimer]) (view_abandonments s fun _ _ => rfl) (by simp [runTimer])
    | _ => exact hl.kept (by simp [runTimer]) (by simp [runTimer]) (by simp [runTimer])

/-! ### The second event -/

theorem passTimer_due (s : State) (u : Timer) : (passTimer s u).second.due = s.second.due.erase u := by
  unfold passTimer
  dsimp only
  split <;> simp [closeTimer, reconcileSecond]

/-- The invariant of the callouts within a second event. -/
structure State.CalloutsKept (s : State) : Prop where
  sound : s.CalloutSound 0
  owes : s.OwesOnly
  judges : s.WillJudge

theorem reconcileSecond_kept (h : s.CalloutSound 0) (ho : s.OwesOnly) : (reconcileSecond s).CalloutsKept where
  sound := { h.reconcileAll (s.printersWhere fun n _ => n ∈ s.second.unreconciled) with }
  owes := by
    intro x _
    refine reconcileAll_listed h (s.printersWhere fun n _ => n ∈ s.second.unreconciled) ?_
    by_cases hx : x ∈ s.second.unreconciled
    · cases hget : s.printers.get? x with
      | none => exact .inr (State.listed_of_vacant hget)
      | some p => exact .inl (State.mem_printersWhere_of_get? hget (by simpa using hx))
    · exact .inr (ho x hx)
  judges := fun hne => absurd rfl hne

theorem passTimer_kept (h : s.CalloutsKept) (u : Timer) : (passTimer s u).CalloutsKept := by
  have hs : (closeTimer u (runTimer u s)).CalloutSound 0 := { h.sound.runTimer u with }
  have ho : (closeTimer u (runTimer u s)).OwesOnly := runTimer_owesOnly u h.owes
  unfold passTimer
  dsimp only
  split
  · exact reconcileSecond_kept hs ho
  · next hlast =>
    refine ⟨hs, ho, fun hne => ?_⟩
    by_cases hu : u.judges = true
    · simpa [hu] using hlast
    · obtain ⟨v, hv, hj⟩ := h.judges (by rw [← runTimer_unreconciled (by simpa using hu)]; exact hne)
      refine ⟨v, ?_, hj⟩
      have hne : v ≠ u := fun hvu => hu (hvu ▸ hj)
      simpa [closeTimer] using (List.mem_erase_of_ne hne).2 hv

theorem foldl_passTimer_kept (l : List Timer) (h : s.CalloutsKept) : (l.foldl passTimer s).CalloutsKept :=
  foldl_preserves (P := State.CalloutsKept) (f := passTimer) (fun _ u h => passTimer_kept h u) l h

theorem due_foldl_passTimer {l : List Timer} (h : s.second.due = l) : (l.foldl passTimer s).second.due = [] := by
  induction l generalizing s with
  | nil => exact h
  | cons u l ih => exact ih (by rw [passTimer_due, h, List.erase_cons_head])

/-- When the second event is over no reconciliation is owed. -/
theorem finishSecond_kept (h : s.CalloutsKept) : (finishSecond s).CalloutsKept := by
  obtain ⟨hs, ho, hj⟩ := foldl_passTimer_kept s.second.due h
  have hnone : (s.second.due.foldl passTimer s).second.unreconciled = [] := by
    by_contra hne
    obtain ⟨u, hu, -⟩ := hj hne
    rw [due_foldl_passTimer rfl] at hu
    cases hu
  exact ⟨{ hs with }, fun x _ => ho x (by rw [hnone]; exact List.not_mem_nil), fun hne => absurd rfl hne⟩

theorem timerRow_kept (h : s.CalloutsKept) (u : Timer) : (timerRow u s).CalloutsKept := by
  unfold timerRow
  split
  · exact h
  · split
    · exact passTimer_kept (foldl_passTimer_kept _ h) u
    · exact h

/-! ### A step -/

theorem CalloutStep.unreconciled (hst : CalloutStep s t) (h : s.second.unreconciled = []) : t.second.unreconciled = [] := by
  cases hst with
  | kept hk => rw [hk.2.2.2]; exact h
  | reset => rfl
  | retire q pr => rw [applyRetire_frame]; exact h
  | _ => simpa using h

theorem step_kept (hst : CalloutStep s t) (h : s.CalloutsKept ∧ s.second.unreconciled = []) :
    t.CalloutsKept ∧ t.second.unreconciled = [] := by
  obtain ⟨⟨hs, ho, -⟩, hnil⟩ := h
  have hnil' := hst.unreconciled hnil
  exact ⟨⟨hs.step hst, fun x _ => hst.listed hs (ho x (by simp [hnil])), fun hne => absurd hnil' hne⟩, hnil'⟩

theorem beginSecond_kept (h : s.CalloutsKept) (hnil : s.second.unreconciled = []) : (beginSecond s).CalloutsKept :=
  ⟨{ h.sound with }, fun x _ => h.owes x (by simp [hnil]), fun hne => absurd rfl hne⟩

theorem clockPeriod_kept (h : s.CalloutsKept) (hnil : s.second.unreconciled = []) : (clockPeriod s).CalloutsKept := by
  have hl : (linePeriod s).CalloutsKept := ⟨{ h.sound with }, h.owes, h.judges⟩
  unfold clockPeriod dividerPeriod
  split
  · split
    · exact beginSecond_kept hl hnil
    · exact ⟨{ hl.sound with }, hl.owes, hl.judges⟩
  · exact hl

theorem Effect.kept (he : Effect s t) (h : s.CalloutsKept) (hnil : s.second.unreconciled = []) : t.CalloutsKept := by
  have hdeed (u : State) (hd : Deed s u) : u.CalloutsKept :=
    (deed_of_calloutSteps (P := fun u => u.CalloutsKept ∧ u.second.unreconciled = []) (fun _ _ => step_kept) hd ⟨h, hnil⟩).1
  cases he with
  | none => exact h
  | deed hd => exact hdeed t hd
  | answered hv x =>
    have hu := hv.elim (fun he => he ▸ h) (hdeed _)
    exact ⟨{ hu.sound with }, hu.owes, hu.judges⟩
  | second => exact beginSecond_kept h hnil
  | period => exact clockPeriod_kept h hnil

/-- An event keeps the callouts in line, unless a reset hold stands after it. -/
theorem Event.kept (he : Event s t) (h : s.inReset = false → s.CalloutsKept) (hr : t.inReset = false) : t.CalloutsKept := by
  cases he with
  | none => exact h hr
  | row u =>
    by_cases hs : s.inReset = true
    · rw [timerRow, if_pos hs] at hr ⊢
      exact h hr
    · exact timerRow_kept (h (by simpa using hs)) u
  | pins x =>
    obtain ⟨-, -, he⟩ | ⟨-, hx, he⟩ | ⟨-, hx, he⟩ | ⟨hs, -, he⟩ := setPins_cases x s <;> rw [he] at hr ⊢
    · exact ⟨(calloutSound_iff (by decide : TablesOrdered State.reset)).1 (by decide) |>.kept ⟨rfl, rfl, rfl, rfl⟩,
        fun _ _ => State.listed_of_vacant rfl, fun hne => absurd rfl hne⟩
    · exact absurd (hx.symm.trans hr) (by simp)
    · exact absurd (hx.symm.trans hr) (by simp)
    · exact h hs
  | command hs he => exact he.kept (finishSecond_kept (h hs)) rfl

/-- Settles O57: the tickets are kept sound by every move and the stock by every part of one; the callouts stay in line through the
second event in progress and through the command's own work. -/
theorem stepKeepsTicketsAndStockSound : Obligations.StepKeepsTicketsAndStockSound := by
  constructor
  · rintro s t ⟨ho, hk⟩ h
    obtain ⟨ho', hk'⟩ := step_of_moves (P := fun u => TablesOrdered u ∧ u.CalloutSound 0)
      (fun u v hm ⟨ho, hk⟩ => ⟨ho.move hm, hk.move hm⟩) (fun _ _ h => ⟨h.1, { h.2 with }⟩) ⟨ho, (calloutSound_iff ho).1 hk⟩ h
    refine ⟨(calloutSound_iff ho').2 hk', fun hc => (calloutsComplete_iff ho').2 fun hr => ?_⟩
    obtain ⟨l, he⟩ := step_event h
    have ht := he.kept (s := { s with pending := l }) (fun hs => ?_) hr
    · exact ⟨ht.owes, ht.judges⟩
    · obtain ⟨howes, hjudges⟩ := (calloutsComplete_iff ho).1 hc hs
      exact ⟨{ (calloutSound_iff ho).1 hk with }, howes, hjudges⟩
  · rintro s t ⟨ho, hk⟩ h
    have ht := step_of_moves (P := fun u => TablesOrdered u ∧ u.stock.Sound) (fun u v hm hu => ?_) (fun _ _ h => h)
      ⟨ho, stockSound_iff.1 hk⟩ h
    · exact stockSound_iff.2 ht.2
    · exact move_of_parts (P := fun u => TablesOrdered u ∧ u.stock.Sound) (fun _ _ hp ⟨ho, hk⟩ => ⟨ho.part hp, hk.part ho hp⟩)
        (fun ha => ⟨hu.1.atom ha, hu.2.atom ha⟩) hm hu

end Sys2Proof.Machine
end

section
/-!
PROOFS. The jobs in their orders (R99 to R109, R137): the one way in which a job changes its phase or retires, and that the dispatch
order stays that of the RELEASING jobs and the expiry order that of the HELD jobs.
-/

namespace Sys2Proof.Machine

variable {s t : State}

/-! ### Orders -/

theorem insertBefore_perm (newer : Nat → Bool) (n : Nat) (l : List Nat) : (insertBefore newer n l).Perm (n :: l) := by
  induction l with
  | nil => rfl
  | cons m l ih =>
    unfold insertBefore
    split
    · rfl
    · exact (ih.cons m).trans (.swap n m l)

@[simp] theorem mem_insertBefore {newer : Nat → Bool} {n m : Nat} {l : List Nat} :
    m ∈ insertBefore newer n l ↔ m = n ∨ m ∈ l := by
  rw [(insertBefore_perm newer n l).mem_iff, List.mem_cons]

/-! ### A job changes its phase or retires -/

theorem State.mem_of_jobAt {n : Nat} {j : Job} (h : s.jobAt n = some j) : j ∈ s.store.records ∧ j.number = n :=
  ⟨List.mem_of_find?_eq_some h, by simpa using List.find?_some h⟩

/-- What becomes of a job record when job `n` passes to a phase, or to none when it retires. -/
def Job.moved (n : Nat) (ph : Option JobPhase) (j : Job) : Option Job :=
  if j.number = n then ph.map fun p => { j with phase := p } else some j

theorem Job.moved_of_ne {n : Nat} {ph : Option JobPhase} {j : Job} (h : j.number ≠ n) : j.moved n ph = some j := if_neg h

theorem Job.eq_of_moved {n : Nat} {ph : Option JobPhase} {i j : Job} (h : j.moved n ph = some i) : i = { j with phase := i.phase } := by
  unfold Job.moved at h
  split at h
  · obtain ⟨p, -, rfl⟩ := Option.map_eq_some_iff.1 h
    rfl
  · obtain rfl := Option.some.inj h
    rfl

theorem Job.number_of_moved {n : Nat} {ph : Option JobPhase} {i j : Job} (h : j.moved n ph = some i) : i.number = j.number := by
  rw [Job.eq_of_moved h]

theorem Job.owner_of_moved {n : Nat} {ph : Option JobPhase} {i j : Job} (h : j.moved n ph = some i) : i.owner = j.owner := by
  rw [Job.eq_of_moved h]

theorem Job.seq_of_moved {n : Nat} {ph : Option JobPhase} {i j : Job} (h : j.moved n ph = some i) : i.seq = j.seq := by
  rw [Job.eq_of_moved h]

theorem numbers_moved_sublist (n : Nat) (ph : Option JobPhase) (l : List Job) :
    ((l.filterMap (Job.moved n ph)).map Job.number).Sublist (l.map Job.number) := by
  induction l with
  | nil => exact .slnil
  | cons j l ih =>
    rw [List.filterMap_cons]
    split
    · exact ih.cons _
    · next i h =>
      rw [List.map_cons, Job.number_of_moved h]
      exact ih.cons_cons _

/-- What the move of job `j` books with its owner: the reservation of a release, the settlement of a job that leaves the flight. -/
inductive Job.Booked (j : Job) (s t : State) : Option JobPhase → Prop
  | released (r : ReleaseInfo) (pr : Printer) (hj : j.phase = .held) (hc : r.cost = r.accountPortion + r.poolPortion)
      (hmax : r.cost ≤ Config.costMax) (hpr : s.printers.get? r.printer = some pr)
      (hacc : Table.Sorted s.printers → pr.accepts = true)
      (hto : ∀ q, j.target = .specific q → r.printer = q) (hi : s.inflightCount r.printer < s.params.printerInflight)
      (hb : t.bank = (addReservation j.owner r.accountPortion r.poolPortion s).bank) : Booked j s t (some (.releasing r))
  | taken (r : ReleaseInfo) (u : Word) (hj : j.phase = .releasing r) (hb : t.bank = s.bank) : Booked j s t (some (.printing r u))
  | settled (r : ReleaseInfo) (c : Nat) (ph : Option JobPhase) (hj : j.phase.info? = some r) (hp : ph = none ∨ ph = some .held)
      (hb : t.bank = (settle j.owner r c s).bank) : Booked j s t ph
  | retired (hj : j.phase = .held) (hb : t.bank = s.bank) : Booked j s t none

/-- Whether a phase is RELEASING. -/
def JobPhase.isReleasing : JobPhase → Bool
  | .releasing _ => true
  | _ => false

theorem Job.isReleasing_eq (j : Job) : j.isReleasing = j.phase.isReleasing := rfl

theorem Job.isHeld_iff {j : Job} : j.isHeld = true ↔ j.phase = .held := by simp [Job.isHeld]

/-- Job `j` passes to a phase, or retires when there is none: the records, the orders and the owner's account follow, and no
parameter and no printer's service state changes. -/
structure State.Moved (s t : State) (j : Job) (ph : Option JobPhase) : Prop where
  job : s.jobAt j.number = some j
  records : t.store.records = s.store.records.filterMap (Job.moved j.number ph)
  nextSeq : t.store.nextSeq = s.store.nextSeq
  dispatch : t.release.dispatch
    = if ph.any JobPhase.isReleasing then s.release.dispatch ++ [j.number] else s.release.dispatch.erase j.number
  expiry : t.store.expiry
    = if ph = some .held then insertBefore (s.newerThan j.seq) j.number s.store.expiry else s.store.expiry.erase j.number
  booked : j.Booked s t ph
  params : t.params = s.params
  states : Table.view Printer.state t.printers = Table.view Printer.state s.printers

/-- A job that passes to HELD was in flight. -/
theorem Job.Booked.not_held {j : Job} {ph : Option JobPhase} (h : j.Booked s t ph) (hph : ph = some .held) : j.phase ≠ .held := by
  cases h with
  | released | taken | retired => cases hph
  | settled r c ph hj => intro hh; rw [hh] at hj; cases hj

/-- A job that passes to RELEASING was HELD. -/
theorem Job.Booked.held {j : Job} {r : ReleaseInfo} (h : j.Booked s t (some (.releasing r))) : j.phase = .held := by
  cases h with
  | released _ _ hj => exact hj
  | settled r c ph hj hp => obtain hp | hp := hp <;> cases hp

/-! ### The job store in order -/

/-- The Job Store in order (`jobOrdersSound_iff`): at most 2,048 jobs, each under its own number, and in the orders exactly the
RELEASING and the HELD ones. -/
structure State.JobsSound (s : State) : Prop where
  length : s.store.records.length ≤ Config.jobEntries
  nodup : (s.store.records.map Job.number).Nodup
  numbered : Numbered (s.store.records.map Job.number)
  dispatch_nodup : s.release.dispatch.Nodup
  expiry_nodup : s.store.expiry.Nodup
  mem_dispatch : ∀ n, n ∈ s.release.dispatch ↔ ∃ j ∈ s.store.records, j.number = n ∧ j.isReleasing = true
  mem_expiry : ∀ n, n ∈ s.store.expiry ↔ ∃ j ∈ s.store.records, j.number = n ∧ j.isHeld = true

theorem jobOrdersSound_iff : JobOrdersSound s ↔ s.JobsSound := by
  constructor
  · rintro ⟨hlen, hnd, hnum, hdn, hen, hd, he, hj⟩
    exact ⟨hlen, hnd, hnum, hdn, hen, fun n => ⟨hd n, by rintro ⟨j, hm, rfl, hr⟩; exact (hj j hm).1 hr⟩,
      fun n => ⟨he n, by rintro ⟨j, hm, rfl, hr⟩; exact (hj j hm).2 hr⟩⟩
  · intro h
    exact ⟨h.length, h.nodup, h.numbered, h.dispatch_nodup, h.expiry_nodup, fun n => (h.mem_dispatch n).1, fun n => (h.mem_expiry n).1,
      fun j hj => ⟨fun hr => (h.mem_dispatch _).2 ⟨j, hj, rfl, hr⟩, fun hr => (h.mem_expiry _).2 ⟨j, hj, rfl, hr⟩⟩⟩

namespace State.JobsSound

theorem jobAt (h : s.JobsSound) {j : Job} (hj : j ∈ s.store.records) : s.jobAt j.number = some j := State.jobAt_of_mem h.nodup hj

theorem eq_of_number (h : s.JobsSound) {i j : Job} (hi : i ∈ s.store.records) (hj : j ∈ s.store.records)
    (hn : i.number = j.number) : i = j := List.inj_on_of_nodup_map h.nodup hi hj hn

/-- The records after a move: the others as they were, and the job in its new phase. -/
theorem mem_moved (h : s.JobsSound) {j : Job} (hj : j ∈ s.store.records) (ph : Option JobPhase) (i : Job) :
    i ∈ s.store.records.filterMap (Job.moved j.number ph)
      ↔ (i ∈ s.store.records ∧ i.number ≠ j.number) ∨ ∃ p ∈ ph, i = { j with phase := p } := by
  rw [List.mem_filterMap]
  constructor
  · rintro ⟨k, hk, hm⟩
    by_cases hn : k.number = j.number
    · obtain rfl := h.eq_of_number hk hj hn
      rw [Job.moved, if_pos rfl, Option.map_eq_some_iff] at hm
      obtain ⟨p, hp, rfl⟩ := hm
      exact .inr ⟨p, hp, rfl⟩
    · rw [Job.moved_of_ne hn] at hm
      obtain rfl := Option.some.inj hm
      exact .inl ⟨hk, hn⟩
  · rintro (⟨hi, hn⟩ | ⟨p, hp, rfl⟩)
    · exact ⟨i, hi, Job.moved_of_ne hn⟩
    · exact ⟨j, hj, by rw [Job.moved, if_pos rfl, Option.mem_def.1 hp]; rfl⟩

/-- Which numbers have a job of a kind after a move: the others as before, and the moved one by its new phase. -/
theorem exists_moved (h : s.JobsSound) {j : Job} (hj : j ∈ s.store.records) (ph : Option JobPhase) (f : JobPhase → Bool) (n : Nat) :
    (∃ i ∈ s.store.records.filterMap (Job.moved j.number ph), i.number = n ∧ f i.phase = true)
      ↔ if n = j.number then ph.any f = true else ∃ i ∈ s.store.records, i.number = n ∧ f i.phase = true := by
  simp only [h.mem_moved hj]
  split
  · next hn =>
    subst hn
    constructor
    · rintro ⟨i, ⟨-, hne⟩ | ⟨p, hp, rfl⟩, hi, hf⟩
      · exact absurd hi hne
      · exact Option.any_eq_true_iff_get _ _ |>.2 ⟨Option.isSome_iff_exists.2 ⟨p, hp⟩, by simpa [Option.mem_def.1 hp] using hf⟩
    · intro hf
      obtain ⟨p, hp, hf⟩ := (Option.any_eq_true ..).1 hf
      exact ⟨_, .inr ⟨p, hp, rfl⟩, rfl, hf⟩
  · next hn =>
    constructor
    · rintro ⟨i, ⟨hi, -⟩ | ⟨p, -, rfl⟩, hin, hf⟩
      · exact ⟨i, hi, hin, hf⟩
      · exact absurd hin.symm hn
    · rintro ⟨i, hi, rfl, hf⟩
      exact ⟨i, .inl ⟨hi, hn⟩, rfl, hf⟩

/-- A job stands in the dispatch order when it is RELEASING, in the expiry order when it is HELD. -/
theorem number_mem_dispatch (h : s.JobsSound) {j : Job} (hj : j ∈ s.store.records) :
    j.number ∈ s.release.dispatch ↔ j.isReleasing = true := by
  rw [h.mem_dispatch]
  exact ⟨fun ⟨i, hi, hn, hr⟩ => h.eq_of_number hi hj hn ▸ hr, fun hr => ⟨j, hj, rfl, hr⟩⟩

theorem number_mem_expiry (h : s.JobsSound) {j : Job} (hj : j ∈ s.store.records) :
    j.number ∈ s.store.expiry ↔ j.phase = .held := by
  rw [h.mem_expiry, ← Job.isHeld_iff]
  exact ⟨fun ⟨i, hi, hn, hr⟩ => h.eq_of_number hi hj hn ▸ hr, fun hr => ⟨j, hj, rfl, hr⟩⟩

theorem moved {j : Job} {ph : Option JobPhase} (h : s.JobsSound) (hm : s.Moved t j ph) : t.JobsSound := by
  obtain ⟨hj, -⟩ := State.mem_of_jobAt hm.job
  have hsub := numbers_moved_sublist j.number ph s.store.records
  have hdisp : t.release.dispatch.Nodup
      ∧ ∀ n, n ∈ t.release.dispatch ↔ if n = j.number then ph.any JobPhase.isReleasing = true else n ∈ s.release.dispatch := by
    rw [hm.dispatch]
    split
    · next hr =>
      obtain ⟨p, rfl, hp⟩ := (Option.any_eq_true ..).1 hr
      obtain ⟨r, rfl⟩ : ∃ r, p = .releasing r := by cases p <;> simp_all [JobPhase.isReleasing]
      have hnot : j.number ∉ s.release.dispatch := by
        rw [h.number_mem_dispatch hj, Job.isReleasing_eq, hm.booked.held]; simp [JobPhase.isReleasing]
      refine ⟨List.nodup_append.2 ⟨h.dispatch_nodup, by simp, by rintro a ha b hb rfl; simp at hb; exact hnot (hb ▸ ha)⟩, fun n => ?_⟩
      by_cases hn : n = j.number <;> simp [hn, JobPhase.isReleasing]
    · next hr =>
      refine ⟨h.dispatch_nodup.erase _, fun n => ?_⟩
      rw [h.dispatch_nodup.mem_erase_iff]
      by_cases hn : n = j.number <;> simp [hn, hr]
  have hexp : t.store.expiry.Nodup
      ∧ ∀ n, n ∈ t.store.expiry ↔ if n = j.number then ph.any (· == .held) = true else n ∈ s.store.expiry := by
    rw [hm.expiry]
    split
    · next hp =>
      have hnot : j.number ∉ s.store.expiry := mt (h.number_mem_expiry hj).1 (hm.booked.not_held hp)
      refine ⟨(insertBefore_perm _ _ _).nodup_iff.2 (List.nodup_cons.2 ⟨hnot, h.expiry_nodup⟩), fun n => ?_⟩
      by_cases hn : n = j.number <;> simp [hn, hp]
    · next hp =>
      refine ⟨h.expiry_nodup.erase _, fun n => ?_⟩
      rw [h.expiry_nodup.mem_erase_iff]
      by_cases hn : n = j.number
      · cases ph <;> simp_all
      · simp [hn]
  refine ⟨?_, ?_, ?_, hdisp.1, hexp.1, fun n => ?_, fun n => ?_⟩
  · rw [hm.records]; exact (List.length_filterMap_le ..).trans h.length
  · rw [hm.records]; exact h.nodup.sublist hsub
  · rw [hm.records]; exact fun n hn => h.numbered n (hsub.subset hn)
  · rw [hdisp.2, hm.records]
    refine Iff.trans ?_ (h.exists_moved hj ph JobPhase.isReleasing n).symm
    split
    · rfl
    · exact h.mem_dispatch n
  · rw [hexp.2, hm.records]
    refine Iff.trans ?_ (h.exists_moved hj ph (· == .held) n).symm
    split
    · rfl
    · exact h.mem_expiry n

end State.JobsSound

end Sys2Proof.Machine
end

section
/-!
PROOFS. Which operations move jobs (R105 to R109, R143, R147 to R151, R153): each of them is made of moves of single jobs, so that a
property which every move of a job keeps is kept by all of them.
-/

namespace Sys2Proof.Machine

variable {s t : State}

/-! ### What the moves read -/

theorem filterMap_moved_some (n : Nat) (p : JobPhase) (l : List Job) :
    l.filterMap (Job.moved n (some p)) = l.map fun j => if j.number == n then { j with phase := p } else j := by
  rw [← List.filterMap_eq_map]
  congr 1
  funext j
  by_cases h : j.number = n <;> simp [Job.moved, h]

theorem filterMap_moved_none (n : Nat) (l : List Job) : l.filterMap (Job.moved n none) = l.filter fun j => j.number != n := by
  rw [← List.filterMap_eq_filter]
  congr 1
  funext j
  by_cases h : j.number = n <;> simp [Job.moved, h, Option.guard]

theorem bank_settle_of_bank {u : State} (h : u.bank = s.bank) (n : Nat) (r : ReleaseInfo) (c : Nat) :
    (settle n r c u).bank = (settle n r c s).bank := by
  unfold settle
  rw [h]
  split <;> simp [updGroup, updAccount, h]

theorem newerThan_of_store {u : State} (h : u.store.records = s.store.records) (q : Word) : u.newerThan q = s.newerThan q := by
  funext n
  simp only [State.newerThan, State.jobAt, h]

/-- A job keeps its sequence through a change of its phase. -/
theorem newerThan_updJob_phase (n : Nat) (p : JobPhase) (q : Word) :
    (updJob n (fun j => { j with phase := p }) s).newerThan q = s.newerThan q := by
  funext m
  simp only [State.newerThan, State.jobAt, updJob_store, List.find?_map, Option.any_map]
  have hfind : ((fun j : Job => j.number == m) ∘ fun j : Job => if j.number == n then { j with phase := p } else j)
      = fun j => j.number == m := by
    funext j
    simp only [Function.comp_apply]
    split <;> rfl
  rw [hfind]
  refine congrArg (fun f => Option.any f _) (funext fun j => ?_)
  by_cases h : j.number == n <;> simp [h]

/-- What the accounts and the groups say of the reservations. -/
def State.ledger (s : State) : Table (Nat × Role × Nat) × Table Nat :=
  (Table.view (fun a => (a.group, a.role, a.reserved)) s.bank.accounts, Table.view BudgetGroup.reserved s.bank.groups)

/-- Two states with the same jobs in the same orders, the same reservations and the same service states. -/
structure State.SameFlights (s t : State) : Prop where
  store : t.store = s.store
  dispatch : t.release.dispatch = s.release.dispatch
  ledger : t.ledger = s.ledger
  params : t.params = s.params
  states : Table.view Printer.state t.printers = Table.view Printer.state s.printers

theorem State.SameFlights.of_ledger (hl : t.ledger = s.ledger) (hst : t.store = s.store) (hd : t.release.dispatch = s.release.dispatch)
    (hp : t.params = s.params) (hpr : t.printers = s.printers) : s.SameFlights t := ⟨hst, hd, hl, hp, by rw [hpr]⟩

theorem ledger_updAccount (n : Nat) {f : Account → Account}
    (h : ∀ a, ((f a).group, (f a).role, (f a).reserved) = (a.group, a.role, a.reserved)) : (updAccount n f s).ledger = s.ledger :=
  Prod.ext (Table.view_modify (f := fun a : Account => (a.group, a.role, a.reserved)) h _ n) rfl

theorem ledger_of_bank (h : t.bank = s.bank) : t.ledger = s.ledger := by simp only [State.ledger, h]

theorem State.SameFlights.markExhausted (n : Nat) (s : State) : s.SameFlights (markExhausted n s) :=
  .of_ledger ((ledger_of_bank (by rw [Machine.markExhausted, setCauseIf_bank])).trans
    (ledger_updAccount (s := s) n (f := fun a => { a with exhausted := true }) fun _ => rfl)) (by simp) (by simp) (by simp) (by simp)

/-! ### The single moves -/

namespace State.JobsSound

theorem erase_expiry (h : s.JobsSound) {j : Job} (hj : j ∈ s.store.records) (hp : j.phase ≠ .held) :
    s.store.expiry.erase j.number = s.store.expiry :=
  List.erase_of_not_mem fun hm => hp ((h.number_mem_expiry hj).1 hm)

/-- A job that is not RELEASING is not in the dispatch order. -/
theorem undispatch_eq (h : s.JobsSound) {j : Job} (hj : j ∈ s.store.records) (hp : j.isReleasing = false) :
    undispatch j.number s = s := by
  have hmem : j.number ∉ s.release.dispatch := fun hm => by rw [h.number_mem_dispatch hj, hp] at hm; cases hm
  simp only [undispatch, List.erase_of_not_mem hmem]

end State.JobsSound

namespace State.Moved
/-- A settled job that leaves the part. -/
theorem settled_retire {j : Job} {r : ReleaseInfo} (hj : s.jobAt j.number = some j) (hr : j.phase.info? = some r)
    (c : Nat) : s.Moved (retireJob j.number (settle j.owner r c (undispatch j.number s))) j none where
  job := hj
  records := by simp [filterMap_moved_none]
  nextSeq := by simp
  dispatch := by simp
  expiry := by simp
  booked := .settled r c none hr (.inl rfl) (bank_settle_of_bank (s := s) (u := undispatch j.number s) rfl ..)
  params := by simp
  states := by simp

/-- A settled job that returns to HELD. -/
theorem settled_return {j : Job} {r : ReleaseInfo} (hj : s.jobAt j.number = some j) (hr : j.phase.info? = some r)
    (c : Nat) : s.Moved (returnToHeld j (settle j.owner r c (undispatch j.number s))) j (some .held) where
  job := hj
  records := by simp [filterMap_moved_some, returnToHeld]
  nextSeq := by simp [returnToHeld]
  dispatch := by simp [JobPhase.isReleasing]
  expiry := by
    simp only [returnToHeld, newerThan_updJob_phase]
    rw [newerThan_of_store (s := s) (by simp)]
    simp
  booked := .settled r c _ hr (.inr rfl) (bank_settle_of_bank (s := s) (u := undispatch j.number s) rfl ..)
  params := by simp
  states := by simp

theorem retire_held (h : s.JobsSound) {j : Job} (hj : s.jobAt j.number = some j) (hp : j.phase = .held) :
    s.Moved (retireJob j.number s) j none where
  job := hj
  records := by simp [filterMap_moved_none]
  nextSeq := by simp
  dispatch := by rw [show s.release.dispatch.erase j.number = s.release.dispatch from
    congrArg (fun u : State => u.release.dispatch) (h.undispatch_eq (State.mem_of_jobAt hj).1 (by simp [Job.isReleasing, hp]))]; rfl
  expiry := by simp
  booked := .retired hp rfl
  params := by simp
  states := by simp

theorem take (h : s.JobsSound) {j : Job} {r : ReleaseInfo} (hj : s.jobAt j.number = some j) (hp : j.phase = .releasing r) :
    s.Moved (updJob j.number (startPrinting s.now) (undispatch j.number s)) j (some (.printing r s.now)) where
  job := hj
  records := by
    rw [updJob_of_mem (s := undispatch j.number s) (g := fun i => { i with phase := .printing r s.now }) h.nodup
      (State.mem_of_jobAt hj).1 (startPrinting_of_releasing s.now hp), filterMap_moved_some]
    simp
  nextSeq := by simp
  dispatch := by simp [JobPhase.isReleasing]
  expiry := by simp [h.erase_expiry (State.mem_of_jobAt hj).1 (by simp [hp])]
  booked := .taken r s.now hp rfl
  params := by simp
  states := by simp

theorem release {j : Job} {r : ReleaseInfo} {pr : Printer} (hj : s.jobAt j.number = some j) (hp : j.phase = .held)
    (hc : r.cost = r.accountPortion + r.poolPortion) (hmax : r.cost ≤ Config.costMax)
    (hpr : s.printers.get? r.printer = some pr) (hacc : Table.Sorted s.printers → pr.accepts = true)
    (hto : ∀ q, j.target = .specific q → r.printer = q)
    (hi : s.inflightCount r.printer < s.params.printerInflight) :
    s.Moved (releaseJob j.number j.owner r s) j (some (.releasing r)) where
  job := hj
  records := by simp [filterMap_moved_some, releaseJob, startRelease]
  nextSeq := by simp [releaseJob, startRelease]
  dispatch := by simp [releaseJob, JobPhase.isReleasing]
  expiry := by simp [releaseJob, startRelease]
  booked := .released r pr hp hc hmax hpr hacc hto hi (by simp [releaseJob])
  params := by simp
  states := by simp

/-- The other jobs stay as they are. -/
theorem jobAt_ne {j i : Job} {ph : Option JobPhase} (h : s.JobsSound) (hm : s.Moved t j ph) (hi : s.jobAt i.number = some i)
    (hne : i.number ≠ j.number) : t.jobAt i.number = some i := by
  refine (h.moved hm).jobAt ?_
  rw [hm.records, h.mem_moved (State.mem_of_jobAt hm.job).1]
  exact .inl ⟨(State.mem_of_jobAt hi).1, hne⟩

end State.Moved

/-! ### The operations -/

theorem sidesCost_le (factor price : Nat) (duplex : Bool) (n : Nat) : sidesCost factor price duplex n ≤ Config.costMax := min_le_left _ _

/-- What an offer says of the job it makes: the printer, and a cost within its limit that the two portions add up to (R90, R93). -/
theorem offer_eq_some {q owner : Nat} {pr : Printer} {j : Job} {r : ReleaseInfo} (h : s.offer q owner pr j = some r) :
    r.printer = q ∧ r.cost = r.accountPortion + r.poolPortion ∧ r.cost ≤ Config.costMax := by
  unfold State.offer at h
  split at h
  · cases h
  · obtain ⟨uv, huv, rfl⟩ := Option.map_eq_some_iff.1 h
    refine ⟨rfl, ?_, sidesCost_le ..⟩
    obtain ⟨-, rfl⟩ | ⟨hlt, -, h0, -, rfl⟩ := portions_cases huv <;> dsimp only <;> omega

theorem expiring_sublist (skip due : Nat → Bool) (l : List Nat) : (expiring skip due l).Sublist l := by
  induction l with
  | nil => exact .slnil
  | cons n l ih =>
    unfold expiring
    split
    · exact ih.cons _
    · split
      · exact ih.cons_cons _
      · exact List.nil_sublist _

/-- A candidate at a printer is HELD, and with a SPECIFIC target it names the printer. -/
theorem Job.candidate_iff {n : Nat} {pr : Printer} {j : Job} :
    j.candidate n pr = true ↔ j.phase = .held ∧ j.target.suits n pr = true ∧ (j.size = .a4 ∨ pr.caps.a3 = true) := by
  simp [Job.candidate, Job.isHeld_iff, and_assoc]

theorem Target.eq_of_suits {q n : Nat} {pr : Printer} (h : (Target.specific q).suits n pr = true) : n = q :=
  (of_decide_eq_true h).symm

theorem mem_of_leastLoaded {count : Nat → Nat} {l : List Nat} {n : Nat} (h : leastLoaded count l = some n) : n ∈ l := by
  have hmem (l : List Nat) (best : Option Nat)
      (h : l.foldl (fun best n => if best.any fun b => count b ≤ count n then best else some n) best = some n) : best = some n ∨ n ∈ l := by
    induction l generalizing best with
    | nil => exact .inl h
    | cons m l ih =>
      obtain h | h := ih _ h
      · dsimp only at h
        split at h
        · exact .inl h
        · exact .inr (List.mem_cons.2 (.inl (Option.some.inj h).symm))
      · exact .inr (List.mem_cons_of_mem _ h)
  simpa using hmem l none h

/-- The target of a release decision accepts releases (R140). -/
theorem accepts_of_releaseTarget {q n : Nat} {redirect : Bool} {pr : Printer} (h : s.releaseTarget q redirect = some n)
    (hp : s.printers.get? n = some pr) (ho : Table.Sorted s.printers) : pr.accepts = true := by
  unfold State.releaseTarget at h
  split at h
  · cases h
  · next p hq =>
    split at h
    · next hacc =>
      obtain rfl := Option.some.inj h
      exact Option.some.inj (hq.symm.trans hp) ▸ hacc
    · split at h
      · obtain ⟨e, he, rfl⟩ := List.mem_map.1 (mem_of_leastLoaded h)
        obtain ⟨hmem, hf⟩ := List.mem_filter.1 he
        obtain rfl := Option.some.inj ((Table.get?_of_mem ho hmem).symm.trans hp)
        exact (Bool.and_eq_true_iff.1 hf).2
      · cases h

section

variable {P : State → Prop} (hj : ∀ u, P u → u.JobsSound) (hk : ∀ u v, u.SameFlights v → P u → P v)
  (hm : ∀ u v j ph, u.Moved v j ph → P u → P v)

include hj hm in
/-- The retirement of HELD jobs, one after another. -/
theorem retireJobs_of_moves (ns : List Nat) (hnd : ns.Nodup) (hheld : ∀ n ∈ ns, ∃ j, s.jobAt n = some j ∧ j.phase = .held)
    (hs : P s) : P (retireJobs ns s) := by
  unfold retireJobs
  induction ns generalizing s with
  | nil => exact hs
  | cons n ns ih =>
    obtain ⟨j, hjn, hph⟩ := hheld n (List.mem_cons_self ..)
    obtain ⟨-, rfl⟩ := State.mem_of_jobAt hjn
    obtain ⟨hn, hnd⟩ := List.nodup_cons.1 hnd
    have hmove := State.Moved.retire_held (hj s hs) hjn hph
    refine ih hnd (fun m hmem => ?_) (hm _ _ _ _ hmove hs)
    obtain ⟨i, him, hph⟩ := hheld m (List.mem_cons_of_mem _ hmem)
    obtain ⟨-, rfl⟩ := State.mem_of_jobAt him
    exact ⟨i, hmove.jobAt_ne (hj s hs) him fun h => hn (h ▸ hmem), hph⟩

include hk in
theorem of_same (hs : P s) (h : s.SameFlights t) : P t := hk s t h hs

include hm in
theorem of_moved {j : Job} {ph : Option JobPhase} (hs : P s) (h : s.Moved t j ph) : P t := hm s t j ph h hs

include hk hm

theorem returnUnreleased_of_moves (n : Nat) (hs : P s) : P (returnUnreleased n s) := by
  obtain h | ⟨j, r, hjn, hr, h⟩ := returnUnreleased_cases n s <;> rw [h]
  · exact hs
  · obtain ⟨-, rfl⟩ := State.mem_of_jobAt hjn
    have hback := of_moved hm hs (.settled_return hjn (r := r) (by simp [hr, JobPhase.info?]) 0)
    exact of_same hk hback (.of_ledger rfl rfl (by simp) rfl rfl)

theorem returnAll_of_moves (ns : List Nat) (hs : P s) : P (returnAll ns s) :=
  returnAll_induct ns (fun n _ h => returnUnreleased_of_moves hk hm n h)
    (fun _ h => of_same hk h (.of_ledger rfl rfl rfl rfl rfl)) hs

include hj

theorem holdExpiries_of_moves (hs : P s) : P (holdExpiries s) := by
  have hsub := expiring_sublist (fun n => s.second.returned.contains n) s.holdDue s.store.expiry
  have hretired := retireJobs_of_moves hj hm _ ((hj s hs).expiry_nodup.sublist hsub) (fun n hn => ?_) hs
  · exact of_same hk hretired (.of_ledger (ledger_of_bank (setCauseIf_bank ..)) (setCauseIf_store ..)
      (congrArg Release.dispatch (setCauseIf_release ..)) (setCauseIf_params ..) (setCauseIf_printers ..))
  · obtain ⟨j, hmem, rfl, hh⟩ := ((hj s hs).mem_expiry n).1 (hsub.subset hn)
    exact ⟨j, (hj s hs).jobAt hmem, Job.isHeld_iff.1 hh⟩

theorem abandonments_of_moves (hs : P s) : P (abandonments s) := by
  have hall (js : List Job) (hnd : (js.map Job.number).Nodup) {u : State} (hu : P u) (hin : ∀ j ∈ js, u.jobAt j.number = some j) :
      P (js.foldl abandonJob u) := by
    induction js generalizing u with
    | nil => exact hu
    | cons j js ih =>
      obtain ⟨hn, hnd⟩ := List.nodup_cons.1 hnd
      have hjn := hin j (List.mem_cons_self ..)
      have hrest (i : Job) (hi : i ∈ js) : u.jobAt i.number = some i ∧ i.number ≠ j.number :=
        ⟨hin i (List.mem_cons_of_mem _ hi), fun h => hn (h ▸ List.mem_map_of_mem hi)⟩
      rw [List.foldl_cons]
      unfold abandonJob
      split
      · next r w hr =>
        have hview (v : State) : Table.view Printer.state (updPrinter r.printer (fun p => { p with
            jobsAbandoned := p.jobsAbandoned + 1 }) v).printers = Table.view Printer.state v.printers :=
          view_updPrinter v _ fun _ => rfl
        have hmove := State.Moved.settled_retire hjn (r := r) (by rw [hr]; rfl) (if u.params.abandonCharge = 1 then r.cost else 0)
        rw [(hj u hu).undispatch_eq (State.mem_of_jobAt hjn).1 (by simp [Job.isReleasing, hr])] at hmove
        refine ih hnd (of_same hk (of_moved hm hu hmove) ⟨rfl, rfl, rfl, rfl, hview _⟩) fun i hi => ?_
        have hkept := hmove.jobAt_ne (hj u hu) (hrest i hi).1 (hrest i hi).2
        exact hkept
      · exact ih hnd hu fun i hi => (hrest i hi).1
  have hgone := hall (s.store.records.filter s.abandonDue) ((hj s hs).nodup.sublist (List.filter_sublist.map _)) hs
    fun j hmem => (hj s hs).jobAt (List.mem_filter.1 hmem).1
  exact of_same hk hgone (.of_ledger (ledger_of_bank (setCauseIf_bank ..)) (setCauseIf_store ..)
    (congrArg Release.dispatch (setCauseIf_release ..)) (setCauseIf_params ..) (setCauseIf_printers ..))

theorem completeJob_of_moves {j : Job} {r : ReleaseInfo} {u : Word} (n c : Nat) (requeue : Bool) (hjn : s.jobAt j.number = some j)
    (hr : j.phase = .printing r u) (hs : P s) : P (completeJob j r n c requeue s) := by
  have hsame := (hj s hs).undispatch_eq (State.mem_of_jobAt hjn).1 (by simp [Job.isReleasing, hr])
  have hinfo : j.phase.info? = some r := by rw [hr]; rfl
  have hview (u : State) : Table.view Printer.state (updPrinter r.printer (fun q => { q with
      jobsCompleted := q.jobsCompleted + 1, sidesCompleted := q.sidesCompleted + BitVec.ofNat 32 n }) u).printers
      = Table.view Printer.state u.printers := view_updPrinter u _ fun _ => rfl
  cases requeue with
  | true =>
    have hback := of_moved hm hs (.settled_return hjn hinfo c)
    rw [hsame] at hback
    exact of_same hk hback ⟨rfl, rfl, rfl, rfl, hview _⟩
  | false =>
    have hgone := of_moved hm hs (.settled_retire hjn hinfo c)
    rw [hsame] at hgone
    exact of_same hk hgone ⟨rfl, rfl, rfl, rfl, hview _⟩

omit hk in
theorem cancelJob_of_moves {j : Job} (hjn : s.jobAt j.number = some j) (hp : ∀ r u, j.phase ≠ .printing r u) (hs : P s) :
    P (cancelJob j s) := by
  unfold cancelJob
  split
  · next r hr => exact of_moved hm hs (.settled_retire hjn (by rw [hr]; rfl) 0)
  · next hnr =>
    refine of_moved hm hs (.retire_held (hj s hs) hjn ?_)
    cases hph : j.phase with
    | held => rfl
    | releasing r => exact absurd hph (hnr r)
    | printing r u => exact absurd hph (hp r u)

theorem releaseWalk_of_moves (q owner : Nat) (pr : Printer) (cands : List Job) (n : Nat) (hnd : (cands.map Job.number).Nodup)
    (hc : ∀ j ∈ cands, s.jobAt j.number = some j ∧ j.owner = owner ∧ j.candidate q pr = true)
    (hpr : s.printers.get? q = some pr) (hacc : Table.Sorted s.printers → pr.accepts = true) (hs : P s) :
    P (releaseWalk q owner pr cands n s).1 := by
  induction cands generalizing n s with
  | nil => exact hs
  | cons j js ih =>
    unfold releaseWalk
    split
    · exact hs
    · split
      · exact hs
      · next hi =>
        cases ho : s.offer q owner pr j with
        | none => exact of_same hk hs (.markExhausted owner s)
        | some r =>
          obtain ⟨hjn, rfl, hcand⟩ := hc j (List.mem_cons_self ..)
          obtain ⟨hph, hsuits, -⟩ := Job.candidate_iff.1 hcand
          obtain ⟨rfl, hcost, hmax⟩ := offer_eq_some ho
          have hmove : s.Moved (releaseJob j.number j.owner r s) j (some (.releasing r)) :=
            .release hjn hph hcost hmax hpr hacc (fun p hp => Target.eq_of_suits (hp ▸ hsuits)) (not_le.1 hi)
          obtain ⟨hn, hnd⟩ := List.nodup_cons.1 hnd
          refine ih _ hnd (fun i him => ?_) (by simpa using hpr) (by simpa using hacc) (of_moved hm hs hmove)
          obtain ⟨hin, hio⟩ := hc i (List.mem_cons_of_mem _ him)
          exact ⟨hmove.jobAt_ne (hj s hs) hin fun h => hn (h ▸ List.mem_map_of_mem him), hio⟩

theorem releaseDecision_of_moves (owner q : Nat) (redirect : Bool) (only : Option Nat) (hs : P s) :
    P (releaseDecision owner q redirect only s).1 := by
  obtain ⟨m, h⟩ | ⟨t, pr, cands, ht, hpr, -, rfl, h⟩ := releaseDecision_cases owner q redirect only s <;> rw [h]
  · exact hs
  · have hsub := (List.filter_sublist (p := fun j : Job => j.candidate t pr && only.all fun n => n == j.number)
      (l := s.jobsOf owner)).trans List.filter_sublist
    refine releaseWalk_of_moves hj hk hm t owner pr _ 0 ((hj s hs).nodup.sublist (hsub.map _)) (fun j hmem => ?_) hpr
      (accepts_of_releaseTarget ht hpr) hs
    obtain ⟨hown, hc⟩ := List.mem_filter.1 hmem
    obtain ⟨hrec, ho⟩ := List.mem_filter.1 hown
    exact ⟨(hj s hs).jobAt hrec, by simpa using ho, (Bool.and_eq_true_iff.1 hc).1⟩

end

end Sys2Proof.Machine
end

section
/-!
PROOFS. The books of the jobs (R93, R94, R101, R103): every owner is a live account of role USER with at most 32 jobs, and the reserved
amounts of the accounts and of the groups are the sums of the portions of the jobs in flight.
-/

namespace Sys2Proof.Machine

variable {s t : State}

/-! ### Shares -/

/-- The account portion of a job in flight. -/
def JobPhase.accountPortion (p : JobPhase) : Nat := (p.info?.map fun r => r.accountPortion).getD 0

/-- The pool portion of a job in flight. -/
def JobPhase.poolPortion (p : JobPhase) : Nat := (p.info?.map fun r => r.poolPortion).getD 0

/-- What a job has reserved with account `n`. -/
def Job.accountShare (n : Nat) (j : Job) : Nat := if j.owner = n then j.phase.accountPortion else 0

/-- The group of an account. -/
def State.groupOf (s : State) (n : Nat) : Option Nat := (s.bank.accounts.get? n).map Account.group

/-- The role of an account. -/
def State.roleOf (s : State) (n : Nat) : Option Role := (s.bank.accounts.get? n).map Account.role

/-- The reserved amount of an account. -/
def State.reservedOf (s : State) (n : Nat) : Option Nat := (s.bank.accounts.get? n).map Account.reserved

/-- The reserved amount of a group's pool. -/
def State.poolReservedOf (s : State) (g : Nat) : Option Nat := (s.bank.groups.get? g).map BudgetGroup.reserved

/-- What a job has reserved with the pool of group `g`. -/
def State.poolShare (s : State) (g : Nat) (j : Job) : Nat := if s.groupOf j.owner = some g then j.phase.poolPortion else 0

theorem sum_map_filter_eq {α : Type} (p : α → Bool) (f : α → Nat) (l : List α) :
    ((l.filter p).map f).sum = (l.map fun x => if p x then f x else 0).sum := by
  induction l with
  | nil => rfl
  | cons x l ih =>
    by_cases h : p x <;> simp [h, ih]

theorem portionsOwned_eq (n : Nat) : s.portionsOwned n = (s.store.records.map (Job.accountShare n)).sum := by
  rw [State.portionsOwned, State.jobsOf, sum_map_filter_eq]
  simp only [beq_iff_eq]
  rfl

theorem poolPortionsOf_eq (g : Nat) : s.poolPortionsOf g = (s.store.records.map (s.poolShare g)).sum := by
  rw [State.poolPortionsOf]
  refine congrArg List.sum (List.map_congr_left fun j _ => ?_)
  unfold State.poolShare State.groupOf JobPhase.poolPortion
  cases s.bank.accounts.get? j.owner <;> simp

theorem length_jobsOf (n : Nat) : (s.jobsOf n).length = (s.store.records.map Job.owner).count n := by
  rw [State.jobsOf, List.count, List.countP_map, List.countP_eq_length_filter]
  rfl

/-- The sum of a measure over the jobs after a move: the moved job counts by its new phase. -/
theorem sum_filterMap_moved {l : List Job} (hnd : (l.map Job.number).Nodup) {j : Job} (hj : j ∈ l) (ph : Option JobPhase) (w : Job → Nat) :
    ((l.filterMap (Job.moved j.number ph)).map w).sum + w j
      = (l.map w).sum + (ph.map fun p => w { j with phase := p }).getD 0 := by
  induction l with
  | nil => cases hj
  | cons i l ih =>
    obtain ⟨hi, hnd⟩ := List.nodup_cons.1 hnd
    obtain rfl | hj := List.mem_cons.1 hj
    · have hrest : l.filterMap (Job.moved j.number ph) = l :=
        (List.filterMap_congr (g := some) fun k hk => Job.moved_of_ne (n := j.number) fun h => hi (h ▸ List.mem_map_of_mem hk)).trans
          List.filterMap_some
      cases ph with
      | none => simp [Job.moved, hrest]; omega
      | some p => simp [Job.moved, hrest]; omega
    · have hne : i.number ≠ j.number := fun h => hi (h ▸ List.mem_map_of_mem hj)
      have hsum := ih hnd hj
      simp only [List.filterMap_cons, Job.moved_of_ne hne, List.map_cons, List.sum_cons]
      omega

/-! ### The books -/

/-- The books of the jobs (`books_iff`): the Job Store in order, every job of a live USER with at most 32 of them, and every
reserved amount the sum of its shares. -/
structure State.Books (s : State) : Prop where
  jobs : s.JobsSound
  owned : ∀ j ∈ s.store.records, s.roleOf j.owner = some .user
  few : ∀ n, (s.jobsOf n).length ≤ 32
  accounts : ∀ n, ∀ v ∈ s.reservedOf n, v = (s.store.records.map (Job.accountShare n)).sum
  groups : ∀ g, ∀ v ∈ s.poolReservedOf g, v = (s.store.records.map (s.poolShare g)).sum
  costs : ∀ j ∈ s.store.records, ∀ r ∈ j.phase.info?, r.cost = r.accountPortion + r.poolPortion ∧ r.cost ≤ Config.costMax

theorem sorted_groups (ho : TablesOrdered s) : Table.Sorted s.bank.groups := by
  obtain ⟨-, -, -, -, -, -, -, -, -, -, hg, -⟩ := ho
  rw [Table.Sorted, hg]
  exact List.pairwise_lt_range

theorem sorted_accounts (ho : TablesOrdered s) : Table.Sorted s.bank.accounts := by
  obtain ⟨-, -, -, -, -, -, -, -, ha, -⟩ := ho
  exact ha

theorem books_iff (ho : TablesOrdered s) : JobOrdersSound s ∧ OwnersSound s ∧ ReservationsBalance s ↔ s.Books := by
  have howner (n : Nat) : ((s.bank.accounts.get? n).any fun a => a.role == .user) = true ↔ s.roleOf n = some .user := by
    unfold State.roleOf
    cases s.bank.accounts.get? n <;> simp
  constructor
  · rintro ⟨hj, ⟨hown, hfew⟩, hacc, hgr, hcost⟩
    refine ⟨jobOrdersSound_iff.1 hj, fun j hj => (howner _).1 (hown j hj), fun n => ?_, fun n v hv => ?_, fun g v hv => ?_, hcost⟩
    · cases hn : s.bank.accounts.get? n with
      | some a => exact hfew _ (Table.mem_of_get? hn)
      | none =>
        suffices s.jobsOf n = [] by simp [this]
        refine List.filter_eq_nil_iff.2 fun j hj ho => ?_
        obtain rfl : j.owner = n := by simpa using ho
        simpa [hn] using hown j hj
    · obtain ⟨a, ha, rfl⟩ := Option.map_eq_some_iff.1 hv
      rw [← portionsOwned_eq]; exact hacc _ (Table.mem_of_get? ha)
    · obtain ⟨x, hx, rfl⟩ := Option.map_eq_some_iff.1 hv
      rw [← poolPortionsOf_eq]; exact hgr _ (Table.mem_of_get? hx)
  · intro h
    refine ⟨jobOrdersSound_iff.2 h.jobs, ⟨fun j hj => (howner _).2 (h.owned j hj), fun e _ => h.few e.1⟩, fun e he => ?_, fun e he => ?_,
      h.costs⟩
    · rw [portionsOwned_eq]
      exact h.accounts _ _ (by rw [State.reservedOf, Table.get?_of_mem (sorted_accounts ho) he]; rfl)
    · rw [poolPortionsOf_eq]
      exact h.groups _ _ (by rw [State.poolReservedOf, Table.get?_of_mem (sorted_groups ho) he]; rfl)

/-! ### What reservations and settlements change of the books -/

/-- A field of a record of a table, after a change of one record. -/
theorem Table.map_get?_modify {α β : Type} {f : α → β} {g : α → α} {h : β → β} (hfg : ∀ x, f (g x) = h (f x)) (x : Table α)
    (n m : Nat) : ((x.modify n g).get? m).map f = ((x.get? m).map f).map fun v => if m = n then h v else v := by
  rw [Table.get?_modify]
  by_cases hm : m = n
  · simp [hm, Function.comp_def, hfg]
  · simp [hm, Function.comp_def]

theorem reservedOf_settle (n : Nat) (r : ReleaseInfo) (c m : Nat) :
    (settle n r c s).reservedOf m = (s.reservedOf m).map fun v => if m = n then v - r.accountPortion else v := by
  cases h : s.bank.accounts.get? n with
  | none =>
    rw [settle, h]
    by_cases hm : m = n <;> simp [State.reservedOf, hm, h, Function.comp_def]
  | some a =>
    rw [settle_of_get? h]
    simp only [State.reservedOf, updGroup_bank, updAccount_bank]
    refine Table.map_get?_modify (f := Account.reserved) (h := (· - r.accountPortion)) ?_ s.bank.accounts n m
    exact fun _ => rfl

theorem poolReservedOf_settle (n : Nat) (r : ReleaseInfo) (c g : Nat) :
    (settle n r c s).poolReservedOf g = (s.poolReservedOf g).map fun v => if s.groupOf n = some g then v - r.poolPortion else v := by
  cases h : s.bank.accounts.get? n with
  | none => simp [settle, State.groupOf, h]
  | some a =>
    rw [settle_of_get? h, State.groupOf, h, Option.map_some]
    simp only [Option.some.injEq, eq_comm (a := a.group)]
    simp only [State.poolReservedOf, updGroup_bank, updAccount_bank]
    refine Table.map_get?_modify (f := BudgetGroup.reserved) (h := (· - r.poolPortion)) ?_ s.bank.groups a.group g
    exact fun _ => rfl

theorem reservedOf_addReservation (n u v m : Nat) :
    (addReservation n u v s).reservedOf m = (s.reservedOf m).map fun x => if m = n then x + u else x := by
  cases h : s.bank.accounts.get? n with
  | none =>
    rw [addReservation, h]
    by_cases hm : m = n <;> simp [State.reservedOf, hm, h, Function.comp_def]
  | some a =>
    rw [addReservation_of_get? h]
    simp only [State.reservedOf, updGroup_bank, updAccount_bank]
    refine Table.map_get?_modify (f := Account.reserved) (h := (· + u)) ?_ s.bank.accounts n m
    exact fun _ => rfl

theorem poolReservedOf_addReservation (n u v g : Nat) :
    (addReservation n u v s).poolReservedOf g = (s.poolReservedOf g).map fun x => if s.groupOf n = some g then x + v else x := by
  cases h : s.bank.accounts.get? n with
  | none => simp [addReservation, State.groupOf, h]
  | some a =>
    rw [addReservation_of_get? h, State.groupOf, h, Option.map_some]
    simp only [Option.some.injEq, eq_comm (a := a.group)]
    simp only [State.poolReservedOf, updGroup_bank, updAccount_bank]
    refine Table.map_get?_modify (f := BudgetGroup.reserved) (h := (· + v)) ?_ s.bank.groups a.group g
    exact fun _ => rfl

theorem groupOf_of_fixedBank (h : t.fixedBank = s.fixedBank) : t.groupOf = s.groupOf := by
  funext n
  have hn := congrArg (Option.map Account.group) (Table.map_get?_eq_of_view_eq (congrArg Bank.accounts h) n)
  rwa [Option.map_map, Option.map_map] at hn

theorem roleOf_of_fixedBank (h : t.fixedBank = s.fixedBank) : t.roleOf = s.roleOf := by
  funext n
  have hn := congrArg (Option.map Account.role) (Table.map_get?_eq_of_view_eq (congrArg Bank.accounts h) n)
  rwa [Option.map_map, Option.map_map] at hn

/-- A move of a job changes nothing of the bank but what a settlement or a reservation does. -/
theorem Job.Booked.fixedBank {j : Job} {ph : Option JobPhase} (h : j.Booked s t ph) : t.fixedBank = s.fixedBank := by
  cases h with
  | released r pr _ _ _ _ _ _ _ hb => exact (fixedBank_of_bank hb).trans (fixedBank_addReservation ..)
  | taken r u _ hb => exact fixedBank_of_bank hb
  | settled r c ph _ _ hb => exact (fixedBank_of_bank hb).trans (fixedBank_settle ..)
  | retired _ hb => exact fixedBank_of_bank hb

/-- A reserved amount that is a sum of shares stays so through a move of a job: `reserved` is the amount as the bank holds it, `portion`
what a release adds to it and `here` says whether the job's owner concerns it. -/
theorem State.Moved.reserved_eq {j : Job} {ph : Option JobPhase} (hs : s.JobsSound) (hm : s.Moved t j ph) {w : Job → Nat} {here : Prop}
    [Decidable here] {portion : ReleaseInfo → Nat} {reserved : Bank → Option Nat}
    (hw : ∀ p, w { j with phase := p } = if here then (p.info?.map portion).getD 0 else 0)
    (hsettle : ∀ r c, reserved (settle j.owner r c s).bank = (reserved s.bank).map fun v => if here then v - portion r else v)
    (hadd : ∀ r : ReleaseInfo, reserved (addReservation j.owner r.accountPortion r.poolPortion s).bank
      = (reserved s.bank).map fun v => if here then v + portion r else v)
    (hold : ∀ v ∈ reserved s.bank, v = (s.store.records.map w).sum) :
    ∀ v ∈ reserved t.bank, v = (t.store.records.map w).sum := by
  obtain ⟨hj, -⟩ := State.mem_of_jobAt hm.job
  have hsum := sum_filterMap_moved hs.nodup hj ph w
  have hwj : w j = if here then (j.phase.info?.map portion).getD 0 else 0 := hw j.phase
  rw [hm.records]
  intro v hv
  cases hm.booked with
  | released r pr hph _ _ _ _ _ _ hb =>
    rw [hb, hadd] at hv
    obtain ⟨x, hx, rfl⟩ := Option.map_eq_some_iff.1 hv
    have hx := hold x hx
    simp only [Option.map_some, Option.getD_some, hw, hph, JobPhase.info?] at hsum
    split <;> simp_all
  | taken r u hph hb =>
    rw [hb] at hv
    have hx := hold v hv
    simp only [Option.map_some, Option.getD_some, hw, hph, JobPhase.info?] at hsum
    omega
  | settled r c ph hph hp hb =>
    rw [hb, hsettle] at hv
    obtain ⟨x, hx, rfl⟩ := Option.map_eq_some_iff.1 hv
    have hx := hold x hx
    have hnone : (ph.map fun p => w { j with phase := p }).getD 0 = 0 := by
      obtain rfl | rfl := hp
      · rfl
      · simp [hw, JobPhase.info?]
    rw [hnone, hwj, hph] at hsum
    split
    · simp_all; omega
    · simp_all
  | retired hph hb =>
    rw [hb] at hv
    have hx := hold v hv
    simp only [Option.map_none, Option.getD_none, hwj, hph, JobPhase.info?] at hsum
    simp_all

theorem owners_moved_sublist (n : Nat) (ph : Option JobPhase) (l : List Job) :
    ((l.filterMap (Job.moved n ph)).map Job.owner).Sublist (l.map Job.owner) := by
  induction l with
  | nil => exact .slnil
  | cons j l ih =>
    rw [List.filterMap_cons]
    split
    · exact ih.cons _
    · next i h =>
      rw [List.map_cons, Job.owner_of_moved h]
      exact ih.cons_cons _

namespace State.Books

theorem moved {j : Job} {ph : Option JobPhase} (h : s.Books) (hm : s.Moved t j ph) : t.Books := by
  obtain ⟨hj, -⟩ := State.mem_of_jobAt hm.job
  have hgroup := groupOf_of_fixedBank hm.booked.fixedBank
  refine { jobs := h.jobs.moved hm, owned := fun i hi => ?_, few := fun n => ?_, accounts := fun n => ?_, groups := fun g => ?_,
           costs := fun i hi r hr => ?_ }
  · rw [hm.records] at hi
    rw [roleOf_of_fixedBank hm.booked.fixedBank]
    obtain ⟨k, hk, hko⟩ := List.mem_map.1 ((owners_moved_sublist _ _ _).subset (List.mem_map_of_mem hi))
    exact hko ▸ h.owned k hk
  · rw [length_jobsOf, hm.records]
    exact ((owners_moved_sublist ..).count_le n).trans (length_jobsOf (s := s) n ▸ h.few n)
  · exact hm.reserved_eq h.jobs (here := n = j.owner) (portion := fun r => r.accountPortion)
      (reserved := fun b => (b.accounts.get? n).map Account.reserved) (fun p => if_congr eq_comm rfl rfl)
      (fun r c => reservedOf_settle j.owner r c n)
      (fun r => reservedOf_addReservation j.owner r.accountPortion r.poolPortion n) (h.accounts n)
  · have hshare : t.poolShare g = s.poolShare g := by funext i; simp only [State.poolShare, hgroup]
    rw [hshare]
    exact hm.reserved_eq h.jobs (here := s.groupOf j.owner = some g) (portion := fun r => r.poolPortion)
      (reserved := fun b => (b.groups.get? g).map BudgetGroup.reserved) (fun p => rfl)
      (fun r c => poolReservedOf_settle j.owner r c g) (fun r => poolReservedOf_addReservation j.owner r.accountPortion r.poolPortion g)
      (h.groups g)
  · rw [hm.records, h.jobs.mem_moved hj] at hi
    obtain ⟨hi, -⟩ | ⟨p, hp, rfl⟩ := hi
    · exact h.costs i hi r hr
    · cases hm.booked with
      | released r' pr _ hc hmax =>
        cases hp
        cases hr
        exact ⟨hc, hmax⟩
      | taken r' u hph =>
        cases hp
        cases hr
        exact h.costs j hj _ (by rw [hph]; rfl)
      | settled r' c ph _ hph =>
        obtain rfl | rfl := hph
        · cases hp
        · cases hp
          cases hr
      | retired => cases hp

end State.Books

end Sys2Proof.Machine
end

section
/-!
PROOFS. Every step keeps the jobs in their orders and the reserved amounts equal to the shares of the jobs in flight (R93, R94, R99 to
R106, R137).
-/

namespace Sys2Proof.Machine

variable {s t : State}

/-! ### States with the same jobs -/

/-- Two states with the same jobs in the same orders and the same reservations. -/
structure State.SameJobs (s t : State) : Prop where
  store : t.store = s.store
  dispatch : t.release.dispatch = s.release.dispatch
  ledger : t.ledger = s.ledger

theorem State.SameFlights.sameJobs (h : s.SameFlights t) : s.SameJobs t := ⟨h.store, h.dispatch, h.ledger⟩

theorem State.JobsSound.of_eq (h : s.JobsSound) (hs : t.store = s.store) (hd : t.release.dispatch = s.release.dispatch) : t.JobsSound := by
  cases s; cases t; cases hs
  obtain ⟨h₁, h₂, h₃, h₄, h₅, h₆, h₇⟩ := h
  exact ⟨h₁, h₂, h₃, hd ▸ h₄, h₅, fun n => hd ▸ h₆ n, h₇⟩

/-- The books after a change of the accounts that concerns no job: of every owner the role stays, of every owner of a job in flight the
group, and a new reserved amount is 0 for an account without jobs. -/
theorem State.Books.of_accounts (h : s.Books) (hs : t.store = s.store) (hd : t.release.dispatch = s.release.dispatch)
    (hrole : ∀ j ∈ s.store.records, t.roleOf j.owner = some .user)
    (hgroup : ∀ j ∈ s.store.records, j.inFlight = true → t.groupOf j.owner = s.groupOf j.owner)
    (hres : ∀ n, ∀ v ∈ t.reservedOf n, v ∈ s.reservedOf n ∨ v = 0 ∧ ∀ j ∈ s.store.records, j.owner ≠ n)
    (hpool : ∀ g, t.poolReservedOf g = s.poolReservedOf g) : t.Books where
  jobs := h.jobs.of_eq hs hd
  owned := by rwa [hs]
  few := by
    intro n
    rw [length_jobsOf, hs, ← length_jobsOf]
    exact h.few n
  accounts := by
    intro n v hv
    rw [hs]
    obtain hv | ⟨rfl, hnone⟩ := hres n v hv
    · exact h.accounts n v hv
    · refine (List.sum_eq_zero fun x hx => ?_).symm
      obtain ⟨j, hj, rfl⟩ := List.mem_map.1 hx
      exact if_neg (hnone j hj)
  groups := by
    intro g v hv
    rw [hpool] at hv
    rw [hs, h.groups g v hv]
    refine congrArg List.sum (List.map_congr_left fun j hj => ?_)
    unfold State.poolShare
    cases hph : j.phase.info? with
    | none => simp [JobPhase.poolPortion, hph]
    | some r => rw [hgroup j hj (by simp [Job.inFlight, hph])]
  costs := by rw [hs]; exact h.costs

theorem State.Books.same (h : s.Books) (hsame : s.SameJobs t) : t.Books := by
  have hview (n : Nat) := Table.map_get?_eq_of_view_eq (f := fun a : Account => (a.group, a.role, a.reserved))
    (congrArg Prod.fst hsame.ledger) n
  have hrole : t.roleOf = s.roleOf := by
    funext n
    simpa [State.roleOf, Function.comp_def] using congrArg (Option.map fun x => x.2.1) (hview n)
  have hgroup : t.groupOf = s.groupOf := by
    funext n
    simpa [State.groupOf, Function.comp_def] using congrArg (Option.map fun x => x.1) (hview n)
  have hres : t.reservedOf = s.reservedOf := by
    funext n
    simpa [State.reservedOf, Function.comp_def] using congrArg (Option.map fun x => x.2.2) (hview n)
  refine h.of_accounts hsame.store hsame.dispatch (hrole ▸ h.owned) (fun j _ _ => by rw [hgroup]) (fun n v hv => .inl (hres ▸ hv))
    fun g => Table.map_get?_eq_of_view_eq (f := BudgetGroup.reserved) (congrArg Prod.snd hsame.ledger) g

/-! ### Parts -/

theorem ledger_updGroup (n : Nat) {f : BudgetGroup → BudgetGroup} (h : ∀ g, (f g).reserved = g.reserved) :
    (updGroup n f s).ledger = s.ledger := Prod.ext rfl (Table.view_modify (f := BudgetGroup.reserved) h _ n)

theorem ledger_groupStep (n : Nat) : (groupStep n s).ledger = s.ledger := by
  refine ledger_updGroup n fun g => ?_
  split <;> rfl

theorem ledger_accountStep (n : Nat) : (accountStep n s).ledger = s.ledger := by
  refine ledger_updAccount n fun a => ?_
  split <;> rfl

theorem ledger_refreshMembers (g : Nat) (change : Int) : (refreshMembers g change s).ledger = s.ledger := by
  refine Prod.ext ?_ rfl
  simp only [State.ledger, refreshMembers, Table.view, List.map_map, List.map_inj_left, Function.comp_apply]
  intro e _
  split <;> rfl

/-- A property that every move of a job and every retargeting keeps, and that reads nothing but the jobs and the reservations, is
kept by every part of a step. -/
theorem part_of_jobs {P : State → Prop} (hj : ∀ u, P u → u.JobsSound) (hk : ∀ u v, u.SameJobs v → P u → P v)
    (hm : ∀ u v j ph, u.Moved v j ph → P u → P v) (hr : ∀ u q fl, P u → P (retargetJobs q fl u)) (hp : Part s t) (hs : P s) : P t := by
  have hk' : ∀ u v, u.SameFlights v → P u → P v := fun u v h => hk u v h.sameJobs
  cases hp with
  | returnUnreleased n => exact returnUnreleased_of_moves hk' hm n hs
  | release n q redirect only => exact releaseDecision_of_moves hj hk' hm n q redirect only hs
  | holdExpiries => exact holdExpiries_of_moves hj hk' hm hs
  | abandonments => exact abandonments_of_moves hj hk' hm hs
  | jobDone n m requeue j r u hjn hph =>
    obtain ⟨-, rfl⟩ := State.mem_of_jobAt hjn
    exact completeJob_of_moves hj hk' hm m _ requeue hjn hph hs
  | retargetJobs q fl => exact hr s q fl hs
  | serviceState q st =>
    obtain ⟨-, h⟩ | ⟨p, -, ⟨-, -, h⟩ | ⟨-, h⟩⟩ := setServiceState_cases q st s <;> rw [h]
    · exact hs
    · exact returnAll_of_moves hk' hm _ (hk s _ ⟨rfl, rfl, rfl⟩ hs)
    · exact hk s _ ⟨rfl, rfl, rfl⟩ hs
  | groupStep n => exact hk s _ ⟨rfl, rfl, ledger_groupStep n⟩ hs
  | accountStep n => exact hk s _ ⟨rfl, rfl, ledger_accountStep n⟩ hs
  | _ => exact hk s _ ⟨by simp, by simp, ledger_of_bank (by simp)⟩ hs

theorem State.JobsSound.retargetJobs (h : s.JobsSound) (q fl : Nat) : (retargetJobs q fl s).JobsSound := by
  have hnumbers : (s.store.records.map (Job.retargeted q fl)).map Job.number = s.store.records.map Job.number := by
    simp [Function.comp_def]
  have hmem (n : Nat) (f : JobPhase → Bool) : (∃ j ∈ s.store.records.map (Job.retargeted q fl), j.number = n ∧ f j.phase = true)
      ↔ ∃ j ∈ s.store.records, j.number = n ∧ f j.phase = true := by simp
  exact ⟨by simpa using h.length, hnumbers ▸ h.nodup, hnumbers ▸ h.numbered, h.dispatch_nodup, h.expiry_nodup,
    fun n => (h.mem_dispatch n).trans (hmem n JobPhase.isReleasing).symm, fun n => (h.mem_expiry n).trans (hmem n (· == .held)).symm⟩

theorem State.Books.retargetJobs (h : s.Books) (q fl : Nat) : (retargetJobs q fl s).Books where
  jobs := h.jobs.retargetJobs q fl
  owned := by
    intro j hj
    obtain ⟨i, hi, rfl⟩ := List.mem_map.1 hj
    rw [Job.owner_retargeted]
    exact h.owned i hi
  few := by
    intro n
    rw [length_jobsOf]
    simpa [Function.comp_def, length_jobsOf] using h.few n
  accounts := by
    intro n v hv
    have hshare (j : Job) : Job.accountShare n (j.retargeted q fl) = Job.accountShare n j := by simp [Job.accountShare]
    simpa [Function.comp_def, hshare] using h.accounts n v hv
  groups := by
    intro g v hv
    have hshare (j : Job) : (Machine.retargetJobs q fl s).poolShare g (j.retargeted q fl) = s.poolShare g j := by
      simp [State.poolShare, State.groupOf]
    simpa [Function.comp_def, hshare] using h.groups g v hv
  costs := by
    intro j hj
    obtain ⟨i, hi, rfl⟩ := List.mem_map.1 hj
    simpa using h.costs i hi

/-! ### Atoms -/

theorem records_retireJobs (ns : List Nat) :
    (retireJobs ns s).store.records = s.store.records.filter fun j => decide (j.number ∉ ns) := by
  unfold retireJobs
  induction ns generalizing s with
  | nil => simp
  | cons n ns ih =>
    rw [List.foldl_cons, ih, retireJob_store, List.filter_filter]
    refine List.filter_congr fun j _ => ?_
    by_cases hj : j.number = n <;> simp [hj]

/-- The retirement of an account's HELD jobs, when none is in flight, leaves it without jobs. -/
theorem owner_ne_of_mem_retireJobs (n : Nat) (hi : s.inflightOf n = 0) :
    ∀ j ∈ (retireJobs (s.heldOf n) s).store.records, j.owner ≠ n := by
  rw [records_retireJobs]
  intro j hj ho
  obtain ⟨hmem, hnot⟩ := List.mem_filter.1 hj
  have hown : j ∈ s.jobsOf n := List.mem_filter.2 ⟨hmem, by simpa using ho⟩
  refine of_decide_eq_true hnot (List.mem_map.2 ⟨j, List.mem_filter.2 ⟨hown, ?_⟩, rfl⟩)
  have hflight : ¬ j.inFlight = true := (List.countP_eq_zero.1 hi) j hown
  unfold Job.inFlight at hflight
  cases hph : j.phase with
  | held => simp [Job.isHeld, hph]
  | _ => simp [hph, JobPhase.info?] at hflight

/-- The HELD jobs of an account, each once. -/
theorem State.JobsSound.heldOf (h : s.JobsSound) (n : Nat) :
    (s.heldOf n).Nodup ∧ ∀ m ∈ s.heldOf n, ∃ j, s.jobAt m = some j ∧ j.phase = .held := by
  refine ⟨h.nodup.sublist ((List.filter_sublist.trans List.filter_sublist).map _), fun m hm => ?_⟩
  obtain ⟨j, hj, rfl⟩ := List.mem_map.1 hm
  obtain ⟨hown, hh⟩ := List.mem_filter.1 hj
  exact ⟨j, h.jobAt (List.mem_filter.1 hown).1, Job.isHeld_iff.1 hh⟩

/-- A new job: it stands at the end of the records and of the expiry order, under a number no live job has. -/
theorem State.JobsSound.storeJob (h : s.JobsSound) (hfull : s.store.records.length < Config.jobEntries) (p : Payload) (col : Bool) :
    (storeJob (newJob p col s) s).JobsSound := by
  have hnew : (newJob p col s).number ∉ s.store.records.map Job.number :=
    issueNumber_fresh _ _ (by rw [List.length_map]; exact hfull.trans (by decide))
  have hexp : (newJob p col s).number ∉ s.store.expiry := fun hm => by
    obtain ⟨j, hj, hn, -⟩ := (h.mem_expiry _).1 hm
    exact hnew (hn ▸ List.mem_map_of_mem hj)
  have hheld : (newJob p col s).phase = .held := rfl
  refine ⟨?_, ?_, ?_, h.dispatch_nodup, ?_, fun n => ?_, fun n => ?_⟩
  · simpa using hfull
  · rw [storeJob_store, List.map_append, List.map_cons, List.map_nil]
    exact h.nodup.append (List.nodup_singleton _) fun n hn hn' => hnew (List.mem_singleton.1 hn' ▸ hn)
  · intro n hn
    simp only [storeJob_store, List.map_append, List.map_cons, List.map_nil, List.mem_append, List.mem_singleton] at hn
    obtain hn | rfl := hn
    · exact h.numbered n hn
    · exact issueNumber_range _ _
  · exact h.expiry_nodup.append (List.nodup_singleton _) fun n hn hn' => hexp (List.mem_singleton.1 hn' ▸ hn)
  · refine (h.mem_dispatch n).trans ?_
    simp only [storeJob_store, List.mem_append, List.mem_singleton, or_and_right, exists_or, exists_eq_left]
    simp only [Job.isReleasing, hheld, Bool.false_eq_true, and_false, or_false]
  · simp only [storeJob_store, List.mem_append, List.mem_singleton, h.mem_expiry n, or_and_right, exists_or, exists_eq_left]
    simp only [Job.isHeld, hheld, beq_self_eq_true, and_true, eq_comm]

theorem State.Books.reset (s : State) : (resetAll s).Books where
  jobs := jobOrdersSound_iff.1 (by decide : JobOrdersSound State.reset)
  owned := by intro j hj; cases hj
  few := by intro n; exact Nat.zero_le _
  accounts := by intro n v hv; cases hv
  groups := by
    intro g v hv
    obtain ⟨x, hx, rfl⟩ := Option.map_eq_some_iff.1 hv
    obtain ⟨n, -, hn⟩ := List.mem_map.1 (Table.mem_of_get? hx)
    obtain ⟨rfl, rfl⟩ := Prod.mk.inj hn
    rfl
  costs := by intro j hj; cases hj

namespace State.Books

theorem storeJob (h : s.Books) {p : Payload} {a : Account} (ha : s.bank.accounts.get? (u16 p 0) = some a) (hr : a.role = .user)
    (hfew : (s.jobsOf (u16 p 0)).length < 32) (hfull : s.store.records.length < Config.jobEntries) :
    (storeJob (newJob p a.colour s) s).Books where
  jobs := h.jobs.storeJob hfull p a.colour
  owned := by
    intro j hj
    obtain hj | hj := List.mem_append.1 hj
    · exact h.owned j hj
    · obtain rfl := List.mem_singleton.1 hj
      exact Option.map_eq_some_iff.2 ⟨a, ha, hr⟩
  few := by
    intro n
    have hn := h.few n
    rw [length_jobsOf] at hn ⊢
    rw [storeJob_store, List.map_append, List.count_append, List.map_cons, List.map_nil, List.count_singleton]
    split
    · next ho =>
      obtain rfl : u16 p 0 = n := beq_iff_eq.1 ho
      rw [length_jobsOf] at hfew
      omega
    · exact hn
  accounts := by
    intro n v hv
    simpa [Job.accountShare, newJob, JobPhase.accountPortion, JobPhase.info?] using h.accounts n v hv
  groups := by
    intro g v hv
    have hshare : (Machine.storeJob (newJob p a.colour s) s).poolShare g = s.poolShare g := rfl
    rw [hshare]
    simpa [State.poolShare, newJob, JobPhase.poolPortion, JobPhase.info?] using h.groups g v hv
  costs := by
    intro j hj
    obtain hj | hj := List.mem_append.1 hj
    · exact h.costs j hj
    · obtain rfl := List.mem_singleton.1 hj
      intro r hr
      cases hr

theorem addAccount (h : s.Books) {n : Nat} {a : Account} (hn : s.bank.accounts.get? n = none) (ha : a.reserved = 0) :
    State.Books { s with bank := { s.bank with accounts := s.bank.accounts.put n a } } := by
  have howner (j : Job) (hj : j ∈ s.store.records) : j.owner ≠ n := by
    rintro rfl
    have hrole := h.owned j hj
    simp [State.roleOf, hn] at hrole
  refine h.of_accounts rfl rfl (fun j hj => ?_) (fun j hj _ => ?_) (fun m v hv => ?_) fun _ => rfl
  · rw [State.roleOf, Table.get?_put_ne _ _ (howner j hj)]
    exact h.owned j hj
  · rw [State.groupOf, Table.get?_put_ne _ _ (howner j hj)]
    rfl
  · by_cases hm : m = n
    · subst hm
      rw [State.reservedOf, Table.get?_put_self] at hv
      exact .inr ⟨(Option.some.inj hv).symm.trans ha, howner⟩
    · rw [State.reservedOf, Table.get?_put_ne _ _ hm] at hv
      exact .inl hv

/-- A change of an account's settings: it stays a USER while it has jobs, and in its group while one is in flight. -/
theorem setAccount (h : s.Books) {n : Nat} {a : Account} {f : Account → Account} (ha : s.bank.accounts.get? n = some a)
    (hrole : s.jobsOf n ≠ [] → (f a).role = a.role) (hgroup : s.inflightOf n ≠ 0 → (f a).group = a.group)
    (hres : (f a).reserved = a.reserved) : (updAccount n f s).Books := by
  have hget : (updAccount n f s).bank.accounts.get? n = some (f a) := by simp [ha]
  have hne {m : Nat} (hm : m ≠ n) : (updAccount n f s).bank.accounts.get? m = s.bank.accounts.get? m :=
    Table.get?_modify_ne _ _ hm
  refine h.of_accounts rfl rfl (fun j hj => ?_) (fun j hj hfl => ?_) (fun m v hv => .inl ?_) fun _ => rfl
  · have hold := h.owned j hj
    by_cases hm : j.owner = n
    · subst hm
      have hjobs : s.jobsOf j.owner ≠ [] := List.ne_nil_of_mem (List.mem_filter.2 ⟨hj, beq_self_eq_true _⟩)
      simp only [State.roleOf, ha, hget, Option.map_some] at hold ⊢
      rw [hrole hjobs, hold]
    · rw [State.roleOf, hne hm]
      exact hold
  · by_cases hm : j.owner = n
    · subst hm
      have hflight : s.inflightOf j.owner ≠ 0 := fun h0 =>
        List.countP_eq_zero.1 h0 j (List.mem_filter.2 ⟨hj, beq_self_eq_true _⟩) hfl
      simp only [State.groupOf, ha, hget, Option.map_some, hgroup hflight]
    · rw [State.groupOf, hne hm, State.groupOf]
  · by_cases hm : m = n
    · subst hm
      simpa only [State.reservedOf, ha, hget, Option.map_some, hres] using hv
    · simpa only [State.reservedOf, hne hm] using hv

theorem delAccount (h : s.Books) {n : Nat} (hn : ∀ j ∈ s.store.records, j.owner ≠ n) : (removeAccount n s).Books := by
  refine h.of_accounts rfl rfl (fun j hj => ?_) (fun j hj _ => ?_) (fun m v hv => ?_) fun _ => rfl
  · rw [State.roleOf, removeAccount_bank, Table.get?_del_ne _ (hn j hj)]
    exact h.owned j hj
  · rw [State.groupOf, removeAccount_bank, Table.get?_del_ne _ (hn j hj)]
    rfl
  · by_cases hm : m = n
    · subst hm
      rw [State.reservedOf, removeAccount_bank, Table.get?_del_self] at hv
      cases hv
    · rw [State.reservedOf, removeAccount_bank, Table.get?_del_ne _ hm] at hv
      exact .inl hv

/-- Every atom keeps the books. -/
theorem atom (h : s.Books) (hlim : s.params.jobLimit ≤ 32) (ha : Atom s t) : t.Books := by
  have hkeep (u v : State) (j : Job) (ph : Option JobPhase) (hm : u.Moved v j ph) (h : u.Books) : v.Books := h.moved hm
  cases ha with
  | reset => exact .reset s
  | accountAdd p _ _ _ _ _ hv => exact h.addAccount hv rfl
  | accountSet p a ha _ _ _ _ hbusy hrole h1 =>
    refine h.setAccount ha (fun hjobs => ?_) (fun hfl => hbusy.resolve_right hfl) rfl
    obtain ⟨j, hj⟩ := List.exists_mem_of_ne_nil _ hjobs
    obtain ⟨hmem, ho⟩ := List.mem_filter.1 hj
    have huser := h.owned j hmem
    rw [State.roleOf, beq_iff_eq.1 ho, ha] at huser
    have huser : a.role = .user := Option.some.inj huser
    have hcode : byteAt p 7 ≠ 1 := fun h1 => hrole ⟨huser, h1, by simpa using hjobs⟩
    rw [huser]
    exact if_neg hcode
  | accountAdjust n v => exact h.same ⟨rfl, rfl, ledger_updAccount n fun _ => rfl⟩
  | accountRetire n a ha hi =>
    obtain ⟨hnd, hheld⟩ := h.jobs.heldOf n
    exact (retireJobs_of_moves (P := State.Books) (fun _ h => h.jobs) hkeep _ hnd hheld h).delAccount (owner_ne_of_mem_retireJobs n hi)
  | groupSet p pool change => exact h.same ⟨rfl, rfl, (ledger_refreshMembers _ _).trans (ledger_updGroup _ fun _ => rfl)⟩
  | jobSubmit p a ha hr hfew hfull => exact h.storeJob ha hr (hfew.trans_le hlim) hfull
  | jobCancel n j hj hp =>
    obtain ⟨-, rfl⟩ := State.mem_of_jobAt hj
    exact cancelJob_of_moves (P := State.Books) (fun _ h => h.jobs) hkeep hj hp h
  | dispatchTake n rest j r hd hj hp =>
    obtain ⟨-, rfl⟩ := State.mem_of_jobAt hj
    exact h.moved (.take h.jobs hj hp)
  | _ => exact h.same ⟨rfl, rfl, rfl⟩

/-- Every part of a step keeps the books. -/
theorem part (h : s.Books) (hp : Part s t) : t.Books :=
  part_of_jobs (P := State.Books) (fun _ h => h.jobs) (fun _ _ hs h => h.same hs) (fun _ _ _ _ hm h => h.moved hm)
    (fun _ q fl h => h.retargetJobs q fl) hp h

end State.Books

end Sys2Proof.Machine
end

section
/-!
PROOFS. The parameters (R177, R183): what a read returns after a write, and that every step keeps every parameter in its range.
-/

namespace Sys2Proof.Machine

variable {s t : State}

theorem Params.at_setKind (p : Params) (j k : FaultKind) (f : KindSetting → KindSetting) :
    (p.setKind j f).kinds.at k = if k = j then f (p.kinds.at j) else p.kinds.at k := KindTable.at_upd ..

theorem ParamId.admits_iff {i : ParamId} {v : Nat} : i.admits v = true ↔ i.range.1 ≤ v ∧ v ≤ i.range.2 := by simp [ParamId.admits]

/-- An admitted value is read back as it was stored. -/
theorem Params.read_write_self (p : Params) {i : ParamId} {v : Nat} (hv : i.admits v = true) : (p.write v i).read i = v := by
  cases i with
  | faultSeverity k | faultClass k => simp [Params.write, Params.read, Params.at_setKind]
  | faultAutoclose k =>
    have hle : v ≤ 1 := (ParamId.admits_iff.1 hv).2
    simp only [Params.write, Params.read, Params.at_setKind, if_true, beq_iff_eq]
    split <;> omega
  | _ => rfl

/-- A write leaves every other parameter as it is. -/
theorem Params.read_write_ne (p : Params) {i j : ParamId} (v : Nat) (h : j ≠ i) : (p.write v i).read j = p.read j := by
  cases i with
  | faultSeverity k | faultClass k | faultAutoclose k =>
    cases j with
    | faultSeverity l | faultClass l | faultAutoclose l =>
      simp only [Params.write, Params.read, Params.at_setKind]
      by_cases hl : l = k
      · subst hl; simp_all
      · simp [hl]
    | _ => rfl
  | _ => cases j <;> first | rfl | exact absurd rfl h

theorem ParamsInRange.write (h : ParamsInRange s) {i : ParamId} {v : Nat} (hv : i.admits v = true) :
    ParamsInRange { s with params := s.params.write v i } := by
  intro j
  by_cases hj : j = i
  · subst hj
    rw [Params.read_write_self _ hv]
    exact hv
  · rw [Params.read_write_ne _ v hj]
    exact h j

theorem ParamsInRange.of_params (h : ParamsInRange s) (hp : t.params = s.params) : ParamsInRange t := fun i => hp ▸ h i

theorem ParamsInRange.atom (h : ParamsInRange s) (ha : Atom s t) : ParamsInRange t := by
  cases ha with
  | reset => exact admits_defaultParams
  | accountRetire => rw [retireJobs_frame]; exact h
  | jobCancel => rw [cancelJob_frame]; exact h
  | _ => exact h

theorem ParamsInRange.part (h : ParamsInRange s) (hp : Part s t) : ParamsInRange t := by
  cases hp with
  | param i v hv => exact h.write hv
  | jobDone => rw [completeJob_frame]; exact h
  | _ => exact h.of_params (by simp)

/-- Every move keeps every parameter in its range. -/
theorem ParamsInRange.move (h : ParamsInRange s) (hm : Move s t) : ParamsInRange t :=
  move_of_parts (P := ParamsInRange) (fun _ _ hp h => h.part hp) h.atom hm h

theorem ParamsInRange.jobLimit_le (h : ParamsInRange s) : s.params.jobLimit ≤ 32 :=
  (ParamId.admits_iff.1 (h .jobLimit)).2

theorem ParamsInRange.printerInflight_le (h : ParamsInRange s) : s.params.printerInflight ≤ 16 :=
  (ParamId.admits_iff.1 (h .printerInflight)).2

/-- Every move keeps the books, while the parameters lie in their ranges. -/
theorem State.Books.move (h : s.Books) (hp : ParamsInRange s) (hm : Move s t) : t.Books :=
  move_of_parts (P := State.Books) (fun _ _ hp h => h.part hp) (h.atom hp.jobLimit_le) hm h

end Sys2Proof.Machine
end

section
/-!
PROOFS. The order of submission (R100 to R102, R106): while the live jobs are near enough to each other for their sequences to be
compared, every step keeps the records and the expiry order oldest first.
-/

namespace Sys2Proof.Machine

variable {s t : State}

/-! ### Sequences that are near -/

/-- A sequence was given out at most 2,147,483,647 submissions before `n` is. -/
def nearSeq (n a : Word) : Prop := 1 ≤ (n - a).toNat ∧ (n - a).toNat ≤ 2147483647

/-- Of two near sequences the older one is the farther from the next. -/
theorem olderSeq_iff {n a b : Word} (ha : nearSeq n a) (hb : nearSeq n b) : olderSeq a b = true ↔ (n - b).toNat < (n - a).toNat := by
  obtain ⟨ha₁, ha₂⟩ := ha
  obtain ⟨hb₁, hb₂⟩ := hb
  simp only [olderSeq, Bool.and_eq_true, decide_eq_true_eq]
  bv_omega

theorem olderSeq_eq_false_iff {n a b : Word} (ha : nearSeq n a) (hb : nearSeq n b) :
    olderSeq a b = false ↔ (n - a).toNat ≤ (n - b).toNat := by
  rw [← Bool.not_eq_true, olderSeq_iff ha hb, not_lt]

/-- The next sequence is not older than a near one. -/
theorem olderSeq_next {n a : Word} (ha : nearSeq n a) : olderSeq n a = false := by
  obtain ⟨h₁, h₂⟩ := ha
  simp only [olderSeq, Bool.and_eq_false_iff, decide_eq_false_iff_not]
  bv_omega

/-! ### The expiry order -/

/-- The job of number `b` is not older than that of number `a`. -/
def State.InOrder (s : State) (a b : Nat) : Prop := ∀ i ∈ s.jobAt a, ∀ j ∈ s.jobAt b, olderSeq j.seq i.seq = false

theorem pairwise_insertBefore {R : Nat → Nat → Prop} {newer : Nat → Bool} {n : Nat} {l : List Nat} (hl : l.Pairwise R)
    (hafter : ∀ m ∈ l, newer m = true → R n m) (hbefore : ∀ m ∈ l, newer m = false → R m n)
    (htrans : ∀ m ∈ l, ∀ k ∈ l, newer m = true → R m k → R n k) : (insertBefore newer n l).Pairwise R := by
  induction l with
  | nil => exact List.pairwise_singleton ..
  | cons m l ih =>
    obtain ⟨hm, hl⟩ := List.pairwise_cons.1 hl
    unfold insertBefore
    split
    · next hnew =>
      refine List.pairwise_cons.2 ⟨fun k hk => ?_, List.pairwise_cons.2 ⟨hm, hl⟩⟩
      obtain rfl | hk := List.mem_cons.1 hk
      · exact hafter _ (List.mem_cons_self ..) hnew
      · exact htrans m (List.mem_cons_self ..) k (List.mem_cons_of_mem _ hk) hnew (hm k hk)
    · next hold =>
      refine List.pairwise_cons.2 ⟨fun k hk => ?_, ih hl (fun k hk => hafter k (List.mem_cons_of_mem _ hk))
        (fun k hk => hbefore k (List.mem_cons_of_mem _ hk))
        fun k hk k' hk' => htrans k (List.mem_cons_of_mem _ hk) k' (List.mem_cons_of_mem _ hk')⟩
      obtain rfl | hk := mem_insertBefore.1 hk
      · exact hbefore m (List.mem_cons_self ..) (by simpa using hold)
      · exact hm k hk

/-- The Job Store in order, its jobs near enough to be compared, and the records and the expiry order oldest first. -/
structure State.InSequence (s : State) : Prop where
  jobs : s.JobsSound
  near : ∀ j ∈ s.store.records, nearSeq s.store.nextSeq j.seq
  records : s.store.records.Pairwise fun i j => olderSeq j.seq i.seq = false
  expiry : s.store.expiry.Pairwise s.InOrder

namespace State.InSequence

theorem kept (h : s.InSequence) : SubmissionOrderKept s := ⟨h.records, h.expiry⟩

theorem near_of_jobAt (h : s.InSequence) {n : Nat} {j : Job} (hj : s.jobAt n = some j) : nearSeq s.store.nextSeq j.seq :=
  h.near j (State.mem_of_jobAt hj).1

theorem of_eq (h : s.InSequence) (hs : t.store = s.store) (hd : t.release.dispatch = s.release.dispatch) : t.InSequence := by
  have hjobs := h.jobs.of_eq hs hd
  cases s; cases t; cases hs
  exact ⟨hjobs, h.near, h.records, h.expiry⟩

/-- A job returned to HELD takes the place of its sequence. -/
theorem insertBefore (h : s.InSequence) {j : Job} (hj : s.jobAt j.number = some j) :
    (insertBefore (s.newerThan j.seq) j.number s.store.expiry).Pairwise s.InOrder := by
  have hnj := h.near_of_jobAt hj
  have hnewer {m : Nat} {i : Job} (hi : s.jobAt m = some i) : s.newerThan j.seq m = olderSeq j.seq i.seq := by
    simp [State.newerThan, hi]
  have hat {i : Job} (hi : i ∈ s.jobAt j.number) : i = j := Option.some.inj (hi.symm.trans hj)
  refine pairwise_insertBefore h.expiry (fun m _ hn i hi k hk => ?_) (fun m _ hn i hi k hk => ?_) fun m hm k' _ hn hmk i hi k hk => ?_
  · obtain rfl := hat hi
    rw [hnewer hk, olderSeq_iff hnj (h.near_of_jobAt hk)] at hn
    rw [olderSeq_eq_false_iff (h.near_of_jobAt hk) hnj]
    omega
  · obtain rfl := hat hk
    exact hnewer hi ▸ hn
  · obtain rfl := hat hi
    obtain ⟨x, hx, rfl, -⟩ := (h.jobs.mem_expiry m).1 hm
    have hx := h.jobs.jobAt hx
    have hnx := h.near_of_jobAt hx
    have hnk := h.near_of_jobAt hk
    have hxk := hmk x hx k hk
    rw [hnewer hx, olderSeq_iff hnj hnx] at hn
    rw [olderSeq_eq_false_iff hnk hnx] at hxk
    rw [olderSeq_eq_false_iff hnk hnj]
    omega

theorem moved {j : Job} {ph : Option JobPhase} (h : s.InSequence) (hm : s.Moved t j ph) : t.InSequence := by
  have hjobs := h.jobs.moved hm
  have hold {i : Job} (hi : i ∈ t.store.records) : ∃ k ∈ s.store.records, k.number = i.number ∧ k.seq = i.seq := by
    rw [hm.records] at hi
    obtain ⟨k, hk, hmv⟩ := List.mem_filterMap.1 hi
    exact ⟨k, hk, (Job.number_of_moved hmv).symm, (Job.seq_of_moved hmv).symm⟩
  have horder {a b : Nat} (hab : s.InOrder a b) : t.InOrder a b := by
    intro i hi k hk
    obtain ⟨hmi, rfl⟩ := State.mem_of_jobAt hi
    obtain ⟨hmk, rfl⟩ := State.mem_of_jobAt hk
    obtain ⟨i', hi', hin, his⟩ := hold hmi
    obtain ⟨k', hk', hkn, hks⟩ := hold hmk
    rw [← his, ← hks]
    exact hab i' (hin ▸ h.jobs.jobAt hi') k' (hkn ▸ h.jobs.jobAt hk')
  refine ⟨hjobs, fun i hi => ?_, ?_, ?_⟩
  · obtain ⟨k, hk, -, hs⟩ := hold hi
    rw [hm.nextSeq, ← hs]
    exact h.near k hk
  · rw [hm.records, List.pairwise_filterMap]
    refine h.records.imp fun hik a ha b hb => ?_
    rw [Job.seq_of_moved ha, Job.seq_of_moved hb]
    exact hik
  · rw [hm.expiry]
    split
    · exact (h.insertBefore hm.job).imp horder
    · exact (h.expiry.sublist List.erase_sublist).imp horder

theorem retargetJobs (h : s.InSequence) (q fl : Nat) : (retargetJobs q fl s).InSequence := by
  have hjobs := h.jobs.retargetJobs q fl
  refine ⟨hjobs, fun i hi => ?_, ?_, ?_⟩
  · obtain ⟨k, hk, rfl⟩ := List.mem_map.1 hi
    rw [Job.seq_retargeted]
    exact h.near k hk
  · rw [retargetJobs_store, List.pairwise_map]
    simpa using h.records
  · refine h.expiry.imp fun {a b} hab i hi k hk => ?_
    obtain ⟨hmi, rfl⟩ := State.mem_of_jobAt hi
    obtain ⟨hmk, rfl⟩ := State.mem_of_jobAt hk
    obtain ⟨i, hi', rfl⟩ := List.mem_map.1 hmi
    obtain ⟨k, hk', rfl⟩ := List.mem_map.1 hmk
    simp only [Job.seq_retargeted, Job.number_retargeted] at hab ⊢
    exact hab i (h.jobs.jobAt hi') k (h.jobs.jobAt hk')

theorem part (h : s.InSequence) (hp : Part s t) : t.InSequence :=
  part_of_jobs (P := State.InSequence) (fun _ h => h.jobs) (fun _ _ hs h => h.of_eq hs.store hs.dispatch) (fun _ _ _ _ hm h => h.moved hm)
    (fun _ q fl h => h.retargetJobs q fl) hp h

/-- The newest job of all stands last. -/
theorem storeJob (h : s.InSequence) (hfull : s.store.records.length < Config.jobEntries) (p : Payload) (col : Bool) :
    SubmissionOrderKept (storeJob (newJob p col s) s) := by
  have hjobs := h.jobs.storeJob hfull p col
  have hnew {n : Nat} (hn : n ∈ s.store.expiry) {i : Job} (hi : (Machine.storeJob (newJob p col s) s).jobAt n = some i) :
      s.jobAt n = some i := by
    obtain ⟨k, hk, rfl, -⟩ := (h.jobs.mem_expiry n).1 hn
    have hk' := hjobs.jobAt (List.mem_append_left [newJob p col s] hk)
    exact (h.jobs.jobAt hk).trans (hk'.symm.trans hi)
  constructor
  · refine List.pairwise_append.2 ⟨h.records, List.pairwise_singleton .., fun i hi k hk => ?_⟩
    obtain rfl := List.mem_singleton.1 hk
    exact olderSeq_next (h.near i hi)
  · refine List.pairwise_append.2 ⟨?_, List.pairwise_singleton .., fun a ha b hb i hi k hk => ?_⟩
    · refine h.expiry.imp_of_mem fun ha hb hab i hi k hk => ?_
      exact hab i (hnew ha hi) k (hnew hb hk)
    · obtain rfl := List.mem_singleton.1 hb
      have hlast := hjobs.jobAt (List.mem_append_right s.store.records (List.mem_singleton_self (newJob p col s)))
      obtain rfl := Option.some.inj (hlast.symm.trans hk)
      exact olderSeq_next (h.near_of_jobAt (hnew ha hi))

theorem reset (s : State) : (resetAll s).InSequence where
  jobs := (Books.reset s).jobs
  near := by intro j hj; cases hj
  records := .nil
  expiry := .nil

/-- Every atom keeps the records and the expiry order oldest first; every atom but the submission of a job keeps the jobs near. -/
theorem atom (h : s.InSequence) (ha : Atom s t) : t.InSequence ∨ SubmissionOrderKept t := by
  have hkeep (u v : State) (j : Job) (ph : Option JobPhase) (hm : u.Moved v j ph) (h : u.InSequence) : v.InSequence := h.moved hm
  have hsound (u : State) (h : u.InSequence) : u.JobsSound := h.jobs
  cases ha with
  | reset => exact .inl (.reset s)
  | accountRetire n a ha hi =>
    obtain ⟨hnd, hheld⟩ := h.jobs.heldOf n
    exact .inl ((retireJobs_of_moves hsound hkeep _ hnd hheld h).of_eq rfl rfl)
  | jobSubmit p a _ _ _ hfull => exact .inr (h.storeJob hfull p a.colour)
  | jobCancel n j hj hp =>
    obtain ⟨-, rfl⟩ := State.mem_of_jobAt hj
    exact .inl (cancelJob_of_moves hsound hkeep hj hp h)
  | dispatchTake n rest j r hd hj hp =>
    obtain ⟨-, rfl⟩ := State.mem_of_jobAt hj
    exact .inl (h.moved (.take h.jobs hj hp))
  | _ => exact .inl (h.of_eq rfl rfl)

theorem deed (h : s.InSequence) (hd : Deed s t) : SubmissionOrderKept t := by
  by_cases ha : Atom s t
  · exact (h.atom ha).elim kept id
  · exact (deed_of_parts (P := State.InSequence) (fun _ _ hp h => h.part hp) (fun h => absurd h ha) hd h).kept

theorem effect (h : s.InSequence) (he : Effect s t) : SubmissionOrderKept t := by
  cases he with
  | none => exact h.kept
  | deed hd => exact h.deed hd
  | answered hd x =>
    obtain rfl | hd := hd
    · exact h.kept
    · have ht := h.deed hd
      exact ht
  | second => exact h.kept
  | period => exact (h.of_eq (clockPeriod_store ..) (congrArg Release.dispatch (clockPeriod_release ..))).kept

theorem event (h : s.InSequence) (he : Event s t) : SubmissionOrderKept t := by
  have hpart (u v : State) (hp : Part u v) (h : u.InSequence) : v.InSequence := h.part hp
  have hsecond (u : State) (w : SecondWork) (h : u.InSequence) : State.InSequence { u with second := w } := h.of_eq rfl rfl
  cases he with
  | none => exact h.kept
  | row u =>
    exact (timerRow_induct (P := State.InSequence) u (fun u _ h => runTimer_of_parts hpart u h) hsecond
      (fun ps _ h => reconcileAll_of_parts hpart ps h) h).kept
  | pins x =>
    obtain ⟨-, -, hx⟩ | ⟨-, -, hx⟩ | ⟨-, -, hx⟩ | ⟨-, -, hx⟩ := setPins_cases x s <;> rw [hx]
    · exact (reset s).kept
    all_goals exact h.kept
  | command _ he =>
    exact (finishSecond_induct (P := State.InSequence) (fun u _ h => runTimer_of_parts hpart u h) hsecond
      (fun ps _ h => reconcileAll_of_parts hpart ps h) h).effect he

end State.InSequence

/-! ### The obligation -/

/-- Settles O58: the books are kept by every move; the order of submission by the second event in progress and by the command's own
work, in which at most one job, the last, is submitted. -/
theorem stepKeepsReservationsInBalance : Obligations.StepKeepsReservationsInBalance := by
  constructor
  · rintro s t ⟨ho, hp, -, hj, hown, hbal⟩ h
    obtain ⟨ho', hp', hbooks⟩ := step_of_moves (P := fun u => TablesOrdered u ∧ ParamsInRange u ∧ u.Books)
      (fun u v hm ⟨ho, hp, hb⟩ => ⟨ho.move hm, hp.move hm, hb.move hp hm⟩) (fun _ _ h => ⟨h.1, h.2.1, h.2.2.same ⟨rfl, rfl, rfl⟩⟩)
      ⟨ho, hp, (books_iff ho).1 ⟨hj, hown, hbal⟩⟩ h
    exact (books_iff ho').2 hbooks
  · rintro s t ⟨hj, hnear, hrec, hexp⟩ h
    obtain ⟨l, he⟩ := step_event h
    have hs : State.InSequence { s with pending := l } := ⟨jobOrdersSound_iff.1 hj, hnear, hrec, hexp⟩
    exact hs.event he

end Sys2Proof.Machine
end

section
/-!
PROOFS. The return of RELEASING jobs without charge (R94, R106, R148, R149): what becomes of the Job Store, the dispatch order and the
accounts when the jobs of a list are returned.
-/

namespace Sys2Proof.Machine

variable {s t : State}

theorem hasCause_setCauseIf (b : Bool) (c x : Cause) (s : State) : (setCauseIf b c s).hasCause x = (s.hasCause x || (b && decide (x = c))) := by
  cases b <;> simp [setCauseIf]

/-- A job returned to HELD when its number is in the list. -/
def Job.returned (ns : List Nat) (j : Job) : Job := if j.number ∈ ns then { j with phase := .held } else j

/-- The newer jobs by number, as the insertion of job `n` into the expiry order compares them. -/
def State.newerBy (s : State) (n m : Nat) : Bool := (s.jobAt m).any fun i => (s.jobAt n).any fun j => olderSeq j.seq i.seq

/-- The settlement of a job at cost 0. -/
def State.unreserve (s u : State) (n : Nat) : State :=
  ((s.jobAt n).bind fun j => j.phase.info?.map fun r => settle j.owner r 0 u).getD u

@[simp] theorem Job.number_returned (ns : List Nat) (j : Job) : (j.returned ns).number = j.number := by
  unfold Job.returned; split <;> rfl

@[simp] theorem Job.seq_returned (ns : List Nat) (j : Job) : (j.returned ns).seq = j.seq := by
  unfold Job.returned; split <;> rfl

theorem Job.returned_returned (ns ms : List Nat) (j : Job) : (j.returned ns).returned ms = j.returned (ns ++ ms) := by
  unfold Job.returned
  by_cases hn : j.number ∈ ns
  · simp [hn]
  · simp [hn]

theorem jobAt_map {f : Job → Job} (hf : ∀ j, (f j).number = j.number) (h : t.store.records = s.store.records.map f) (n : Nat) :
    t.jobAt n = (s.jobAt n).map f := by
  simp only [State.jobAt, h, List.find?_map, Function.comp_def, hf]

theorem newerThan_map {f : Job → Job} (hf : ∀ j, (f j).number = j.number) (hs : ∀ j, (f j).seq = j.seq)
    (h : t.store.records = s.store.records.map f) (q : Word) : t.newerThan q = s.newerThan q := by
  funext m
  simp only [State.newerThan, jobAt_map hf h, Option.any_map, hs]

theorem returnUnreleased_of_releasing {n : Nat} {j : Job} {r : ReleaseInfo} (hj : s.jobAt n = some j) (hr : j.phase = .releasing r) :
    returnUnreleased n s = { s with
      store := { s.store with
        records := s.store.records.map (Job.returned [n]), expiry := insertBefore (s.newerThan j.seq) n s.store.expiry }
      release := { s.release with dispatch := s.release.dispatch.erase n, recalls := s.release.recalls + 1 }
      bank := (settle j.owner r 0 s).bank } := by
  obtain ⟨-, rfl⟩ := State.mem_of_jobAt hj
  have hnewer : (settle j.owner r 0 (undispatch j.number s)).newerThan j.seq = s.newerThan j.seq := newerThan_of_store (by simp) _
  simp only [returnUnreleased, hj, hr]
  apply State.eq_of_fields <;> simp [returnToHeld, newerThan_updJob_phase, hnewer]
  · exact bank_settle_of_bank (s := s) (u := undispatch j.number s) rfl j.owner r 0
  · intro i _
    simp [Job.returned]

/-- The state once the jobs of a list have returned to HELD. -/
def State.returnedAll (s : State) (ns : List Nat) : State :=
  { s with
    store := { s.store with
      records := s.store.records.map (Job.returned ns)
      expiry := ns.foldl (fun l n => insertBefore (s.newerBy n) n l) s.store.expiry }
    release := { s.release with
      dispatch := s.release.dispatch.filter fun n => n ∉ ns, recalls := s.release.recalls + BitVec.ofNat 32 ns.length }
    bank := (ns.foldl s.unreserve s).bank }

/-- The jobs of a list after they have been returned one after another. -/
theorem foldl_returnUnreleased (h : s.JobsSound) {ns : List Nat} (hnd : ns.Nodup)
    (hrel : ∀ n ∈ ns, ∃ j, s.jobAt n = some j ∧ ∃ r, j.phase = .releasing r) :
    ns.foldl (fun s n => returnUnreleased n s) s = s.returnedAll ns := by
  induction ns using List.reverseRecOn with
  | nil =>
    have hid : Job.returned [] = id := by funext j; simp [Job.returned]
    simp [State.returnedAll, hid]
  | append_singleton l n ih =>
    obtain ⟨hl, -, hdis⟩ := List.nodup_append.1 hnd
    have hn : n ∉ l := fun hm => hdis n hm n (List.mem_singleton_self n) rfl
    obtain ⟨j, hj, r, hr⟩ := hrel n (List.mem_append_right _ (List.mem_singleton_self n))
    obtain ⟨-, rfl⟩ := State.mem_of_jobAt hj
    rw [List.foldl_append, ih hl fun m hm => hrel m (List.mem_append_left _ hm), List.foldl_cons, List.foldl_nil]
    have hju : (s.returnedAll l).jobAt j.number = some j := by
      rw [jobAt_map (Job.number_returned l) (s := s) rfl, hj]
      simp [Job.returned, hn]
    have hnewer : (s.returnedAll l).newerThan j.seq = s.newerBy j.number := by
      rw [newerThan_map (Job.number_returned l) (Job.seq_returned l) (s := s) rfl]
      funext m
      simp [State.newerThan, State.newerBy, hj]
    have hbank : (settle j.owner r 0 (s.returnedAll l)).bank = (s.unreserve (l.foldl s.unreserve s) j.number).bank := by
      simp only [State.unreserve, hj, hr, JobPhase.info?, Option.bind_some, Option.map_some, Option.getD_some]
      exact bank_settle_of_bank (u := s.returnedAll l) (s := l.foldl s.unreserve s) rfl ..
    rw [returnUnreleased_of_releasing hju hr, hnewer, hbank]
    apply State.eq_of_fields <;> simp [State.returnedAll, List.foldl_append]
    · exact fun i _ => Job.returned_returned l [j.number] i
    · rw [(h.dispatch_nodup.filter _).erase_eq_filter, List.filter_filter]
      refine ⟨List.filter_congr fun m _ => ?_, ?_⟩
      · by_cases hm : m = j.number <;> simp [hm, Bool.and_comm]
      · rw [BitVec.ofNat_add, BitVec.add_assoc]

/-- The numbers of the RELEASING jobs of the dispatch order. -/
theorem State.JobsSound.releasing_of_mem (h : s.JobsSound) {n : Nat} (hn : n ∈ s.release.dispatch) :
    ∃ j, s.jobAt n = some j ∧ ∃ r, j.phase = .releasing r := by
  obtain ⟨j, hj, rfl, hr⟩ := (h.mem_dispatch n).1 hn
  exact ⟨j, h.jobAt hj, Job.isReleasing_iff.1 hr⟩

/-- The return of a part of the dispatch order. -/
theorem State.JobsSound.returnAll (h : s.JobsSound) {ns : List Nat} (hsub : ns.Sublist s.release.dispatch) :
    s.ReturnedUncharged (returnAll ns s) ns := by
  have hall := foldl_returnUnreleased h (h.dispatch_nodup.sublist hsub) fun n hn => h.releasing_of_mem (hsub.subset hn)
  rw [Machine.returnAll, hall]
  refine ⟨by rw [setCauseIf_store]; rfl, by rw [setCauseIf_release]; rfl, by rw [setCauseIf_bank]; rfl, ?_⟩
  rw [hasCause_setCauseIf]
  simp [State.returnedAll, State.hasCause, or_comm]

end Sys2Proof.Machine
end

section
/-!
PROOFS. Jobs in flight (R114, R138, R149): every step keeps each of them on a printer that may hold it, and at most 16 on a printer.
-/

namespace Sys2Proof.Machine

variable {s t : State}

/-- The service state of a printer number. -/
def State.stateOf (s : State) (q : Nat) : Option ServiceState := (s.printers.get? q).map Printer.state

/-- A service state in which a printer accepts releases. -/
def ServiceState.accepts (st : ServiceState) : Bool := st == .ready || st == .impaired

theorem stateOf_of_view (h : Table.view Printer.state t.printers = Table.view Printer.state s.printers) : t.stateOf = s.stateOf :=
  funext fun q => Table.map_get?_eq_of_view_eq h q

/-- 1 for a job in flight on a printer. -/
def Job.onPrinter (q : Nat) (j : Job) : Nat := if (j.phase.info?.any fun r => r.printer == q) then 1 else 0

theorem inflightCount_eq (q : Nat) : s.inflightCount q = (s.store.records.map (Job.onPrinter q)).sum := by
  unfold State.inflightCount
  induction s.store.records with
  | nil => rfl
  | cons j l ih => rw [List.countP_cons, ih, List.map_cons, List.sum_cons, Nat.add_comm, Job.onPrinter]

/-! ### The recall of a printer -/

theorem settle_withPrinters (n : Nat) (r : ReleaseInfo) (c : Nat) (x : Table Printer) :
    settle n r c { s with printers := x } = { settle n r c s with printers := x } := by
  cases h : s.bank.accounts.get? n with
  | none => simp only [settle, h]
  | some a => simp only [settle, h]; rfl

theorem returnUnreleased_withPrinters (n : Nat) (x : Table Printer) :
    returnUnreleased n { s with printers := x } = { returnUnreleased n s with printers := x } := by
  have hat : State.jobAt { s with printers := x } n = s.jobAt n := rfl
  cases hj : s.jobAt n with
  | none => simp only [returnUnreleased, hat, hj]
  | some j =>
    cases hp : j.phase with
    | held | printing => simp only [returnUnreleased, hat, hj, hp]
    | releasing r =>
      have hset := settle_withPrinters (s := undispatch n s) j.owner r 0 x
      simp only [returnUnreleased, hat, hj, hp]
      rw [show undispatch n { s with printers := x } = { undispatch n s with printers := x } from rfl, hset]
      rfl

/-- The recall does not read the printers. -/
theorem recallPrinter_withPrinters (q : Nat) (x : Table Printer) :
    recallPrinter q { s with printers := x } = { recallPrinter q s with printers := x } := by
  have hfold (ns : List Nat) (u : State) : ns.foldl (fun s n => returnUnreleased n s) { u with printers := x }
      = { ns.foldl (fun s n => returnUnreleased n s) u with printers := x } := by
    induction ns generalizing u with
    | nil => rfl
    | cons n ns ih => rw [List.foldl_cons, returnUnreleased_withPrinters, ih, List.foldl_cons]
  have hns : State.releasingOn { s with printers := x } q = s.releasingOn q := rfl
  rw [recallPrinter, recallPrinter, hns, returnAll, returnAll, hfold]
  cases !(s.releasingOn q).isEmpty <;> rfl

/-- After the recall of a printer no job is RELEASING on it. -/
theorem State.JobsSound.recalled (h : s.JobsSound) (q : Nat) {j : Job} (hj : j ∈ (recallPrinter q s).store.records) {r : ReleaseInfo}
    (hr : r ∈ j.phase.info?) (hq : r.printer = q) : ¬ j.isReleasing = true := by
  intro hrel
  obtain ⟨hstore, -⟩ := h.returnAll (ns := s.releasingOn q) List.filter_sublist
  rw [recallPrinter, hstore] at hj
  obtain ⟨i, hi, rfl⟩ := List.mem_map.1 hj
  split at hrel
  · cases hrel
  · next hn =>
    rw [if_neg hn] at hr
    obtain ⟨r', hph⟩ := Job.isReleasing_iff.1 hrel
    obtain rfl : r' = r := by rw [hph] at hr; exact Option.some.inj hr
    refine hn (List.mem_filter.2 ⟨(h.number_mem_dispatch hi).2 hrel, ?_⟩)
    rw [h.jobAt hi, Option.any_some, hph]
    exact beq_iff_eq.2 hq

/-! ### Soundness -/

/-- Jobs in flight on printers that may hold them (`flightsSound_iff`), with what the moves of jobs need. -/
structure State.FlightSound (s : State) : Prop where
  sorted : Table.Sorted s.printers
  limit : s.params.printerInflight ≤ 16
  jobs : s.JobsSound
  there : ∀ j ∈ s.store.records, ∀ r ∈ j.phase.info?, ∃ st, s.stateOf r.printer = some st ∧ (j.isReleasing = true → st.accepts = true)
  target : ∀ j ∈ s.store.records, ∀ q, j.target = .specific q → (s.stateOf q).isSome = true ∧ ∀ r ∈ j.phase.info?, r.printer = q
  few : ∀ q, s.inflightCount q ≤ 16

theorem flightsSound_iff (hs : Table.Sorted s.printers) (hl : s.params.printerInflight ≤ 16) (hj : s.JobsSound) :
    FlightsSound s ↔ s.FlightSound := by
  constructor
  · rintro ⟨hthere, htarget, hfew⟩
    have hon (j : Job) (hj : j ∈ s.store.records) (r : ReleaseInfo) (hr : r ∈ j.phase.info?) :
        ∃ p, s.printers.get? r.printer = some p ∧ (!j.isReleasing || p.accepts) = true := (Option.any_eq_true ..).1 (hthere j hj r hr)
    refine ⟨hs, hl, hj, fun j hj r hr => ?_, fun j hj q hq => ?_, fun q => ?_⟩
    · obtain ⟨p, hp, hacc⟩ := hon j hj r hr
      exact ⟨p.state, by rw [State.stateOf, hp]; rfl, fun hrel => by rw [hrel] at hacc; exact hacc⟩
    · obtain ⟨hsome, hr⟩ := htarget j hj q (by rw [hq]; rfl)
      exact ⟨by rwa [State.stateOf, Option.isSome_map], hr⟩
    · by_cases hq : q ∈ Table.keys s.printers
      · exact hfew q hq
      · suffices s.inflightCount q = 0 by omega
        refine List.countP_eq_zero.2 fun j hj hany => ?_
        obtain ⟨r, hr, hrq⟩ := (Option.any_eq_true ..).1 hany
        obtain ⟨p, hp, -⟩ := hon j hj r hr
        rw [beq_iff_eq.1 hrq, (Table.get?_eq_none_iff _ _).2 hq] at hp
        cases hp
  · intro h
    refine ⟨fun j hj r hr => ?_, fun j hj q hq => ?_, fun q _ => h.few q⟩
    · obtain ⟨st, hst, hacc⟩ := h.there j hj r hr
      obtain ⟨p, hp, rfl⟩ := Option.map_eq_some_iff.1 hst
      rw [hp]
      cases hrel : j.isReleasing
      · rfl
      · exact hacc hrel
    · have htgt : j.target = .specific q := by
        cases hj : j.target <;> simp_all [Target.printer?]
      obtain ⟨hsome, hr⟩ := h.target j hj q htgt
      exact ⟨by rwa [State.stateOf, Option.isSome_map] at hsome, hr⟩

namespace State.FlightSound

theorem of_view (h : s.FlightSound) (hs : t.store = s.store) (hd : t.release.dispatch = s.release.dispatch)
    (hv : Table.view Printer.state t.printers = Table.view Printer.state s.printers) (hl : t.params.printerInflight ≤ 16) :
    t.FlightSound := by
  have hst := stateOf_of_view hv
  refine ⟨?_, hl, h.jobs.of_eq hs hd, ?_, ?_, ?_⟩
  · rw [Table.Sorted, Table.keys_eq_of_view_eq hv]; exact h.sorted
  · rw [hs, hst]; exact h.there
  · rw [hs, hst]; exact h.target
  · unfold State.inflightCount; rw [hs]; exact h.few

theorem same (h : s.FlightSound) (hs : s.SameFlights t) : t.FlightSound :=
  h.of_view hs.store hs.dispatch hs.states (hs.params ▸ h.limit)

/-- A printer's in-flight count follows the moved job: it rises only by a release, which the limit allows. -/
theorem few_moved {j : Job} {ph : Option JobPhase} (h : s.FlightSound) (hm : s.Moved t j ph) (q : Nat) : t.inflightCount q ≤ 16 := by
  obtain ⟨hj, -⟩ := State.mem_of_jobAt hm.job
  have hfew := h.few q
  have hsum := sum_filterMap_moved h.jobs.nodup hj ph (Job.onPrinter q)
  rw [← hm.records, ← inflightCount_eq, ← inflightCount_eq] at hsum
  cases hm.booked with
  | released r pr hph _ _ _ _ _ hi =>
    have hlim := h.limit
    by_cases hr : r.printer = q
    · subst hr
      simp [Job.onPrinter, hph, JobPhase.info?] at hsum
      omega
    · simp [Job.onPrinter, hph, JobPhase.info?, hr] at hsum
      omega
  | taken r u hph =>
    simp [Job.onPrinter, hph, JobPhase.info?] at hsum
    omega
  | settled r c ph _ hp =>
    obtain rfl | rfl := hp <;> simp [Job.onPrinter, JobPhase.info?] at hsum <;> omega
  | retired => simp at hsum; omega

theorem moved {j : Job} {ph : Option JobPhase} (h : s.FlightSound) (hm : s.Moved t j ph) : t.FlightSound := by
  obtain ⟨hj, -⟩ := State.mem_of_jobAt hm.job
  have hst := stateOf_of_view hm.states
  have hmem (i : Job) (hi : i ∈ t.store.records) := (h.jobs.mem_moved hj ph i).1 (hm.records ▸ hi)
  refine ⟨?_, hm.params ▸ h.limit, h.jobs.moved hm, fun i hi r hr => ?_, fun i hi q hq => ?_, fun q => ?_⟩
  · rw [Table.Sorted, Table.keys_eq_of_view_eq hm.states]; exact h.sorted
  · rw [hst]
    obtain ⟨hi, -⟩ | ⟨p, hp, rfl⟩ := hmem i hi
    · exact h.there i hi r hr
    · cases hm.booked with
      | released r' pr _ _ _ hpr hacc =>
        cases hp
        cases hr
        exact ⟨pr.state, by rw [State.stateOf, hpr]; rfl, fun _ => hacc h.sorted⟩
      | taken r' u hph =>
        cases hp
        cases hr
        obtain ⟨st, hst, -⟩ := h.there j hj _ (by rw [hph]; rfl)
        exact ⟨st, hst, fun hrel => by cases hrel⟩
      | settled r' c ph _ hph =>
        obtain rfl | rfl := hph <;> cases hp
        cases hr
      | retired => cases hp
  · rw [hst]
    obtain ⟨hi, -⟩ | ⟨p, hp, rfl⟩ := hmem i hi
    · exact h.target i hi q hq
    · obtain ⟨hsome, hon⟩ := h.target j hj q hq
      refine ⟨hsome, fun r hr => ?_⟩
      cases hm.booked with
      | released r' pr _ _ _ _ _ hto =>
        cases hp
        cases hr
        exact hto q hq
      | taken r' u hph =>
        cases hp
        cases hr
        exact hon _ (by rw [hph]; rfl)
      | settled r' c ph _ hph =>
        obtain rfl | rfl := hph <;> cases hp
        cases hr
      | retired => cases hp
  · exact h.few_moved hm q

theorem retargetJobs (h : s.FlightSound) (q fl : Nat) : (retargetJobs q fl s).FlightSound := by
  refine ⟨h.sorted, h.limit, h.jobs.retargetJobs q fl, fun j hj r hr => ?_, fun j hj p hp => ?_, fun p => ?_⟩
  · obtain ⟨i, hi, rfl⟩ := List.mem_map.1 hj
    rw [Job.phase_retargeted] at hr
    obtain ⟨st, hst, hacc⟩ := h.there i hi r hr
    exact ⟨st, hst, fun hrel => hacc (by rwa [Job.isReleasing_eq, Job.phase_retargeted] at hrel)⟩
  · obtain ⟨i, hi, rfl⟩ := List.mem_map.1 hj
    have ht : i.target = .specific p := by
      unfold Job.retargeted at hp
      split at hp
      · cases hp
      · exact hp
    rw [Job.phase_retargeted]
    exact h.target i hi p ht
  · rw [inflightCount_retargetJobs]
    exact h.few p

/-- A change of one printer's record that leaves every RELEASING job on it an accepting printer. -/
theorem updPrinter (h : s.FlightSound) (q : Nat) {f : Printer → Printer}
    (hf : ∀ p, s.printers.get? q = some p → ∀ j ∈ s.store.records, ∀ r ∈ j.phase.info?, r.printer = q → j.isReleasing = true →
      (f p).accepts = true) : (updPrinter q f s).FlightSound := by
  have hget (n : Nat) (hn : n ≠ q) : (Machine.updPrinter q f s).stateOf n = s.stateOf n := by
    rw [State.stateOf, updPrinter_printers, Table.get?_modify_ne _ _ hn, State.stateOf]
  have hat {p : Printer} (hp : s.printers.get? q = some p) : (Machine.updPrinter q f s).stateOf q = some (f p).state := by
    rw [State.stateOf, updPrinter_printers, Table.get?_modify_self, hp]; rfl
  refine ⟨Table.sorted_modify h.sorted _ _, h.limit, h.jobs.of_eq rfl rfl, fun j hj r hr => ?_, fun j hj n hn => ?_, h.few⟩
  · obtain ⟨st, hst, hacc⟩ := h.there j hj r hr
    by_cases hq : r.printer = q
    · obtain ⟨p, hp, rfl⟩ := Option.map_eq_some_iff.1 (hq ▸ hst)
      exact ⟨_, by rw [hq, hat hp], hf p hp j hj r hr hq⟩
    · exact ⟨st, by rw [hget _ hq, hst], hacc⟩
  · obtain ⟨hsome, hon⟩ := h.target j hj n hn
    refine ⟨?_, hon⟩
    by_cases hq : n = q
    · subst hq
      obtain ⟨p, hp, -⟩ := Option.map_eq_some_iff.1 (Option.eq_some_of_isSome hsome)
      rw [hat hp]
      rfl
    · rwa [hget _ hq]

/-- A change of service state, with the recall of the printer's RELEASING jobs when it becomes DOWN or SILENT. -/
theorem setServiceState (h : s.FlightSound) (q : Nat) {st : ServiceState} (hst : st ≠ .awaiting) : (setServiceState q st s).FlightSound := by
  have hk (u v : State) (hs : u.SameFlights v) (h : u.FlightSound) : v.FlightSound := h.same hs
  have hm (u v : State) (j : Job) (ph : Option JobPhase) (hm : u.Moved v j ph) (h : u.FlightSound) : v.FlightSound := h.moved hm
  obtain ⟨-, heq⟩ | ⟨p, hp, ⟨-, -, heq⟩ | ⟨hno, heq⟩⟩ := setServiceState_cases q st s <;> rw [heq]
  · exact h
  · rw [show recallPrinter q (Machine.updPrinter q (fun p => { p with state := st }) s)
        = Machine.updPrinter q (fun p => { p with state := st }) (recallPrinter q s) by
      simp only [Machine.updPrinter, recallPrinter_withPrinters, recallPrinter_printers]]
    exact (returnAll_of_moves hk hm _ h).updPrinter q fun p' _ j hj r hr hq hrel => absurd hrel (h.jobs.recalled q hj hr hq)
  · refine h.updPrinter q fun p' hp' j hj r hr hq hrel => ?_
    obtain rfl := Option.some.inj (hp.symm.trans hp')
    by_cases hsame : p.state = st
    · obtain ⟨st', hst', hacc⟩ := h.there j hj r hr
      rw [State.stateOf, hq, hp] at hst'
      obtain rfl : p.state = st' := Option.some.inj hst'
      exact hsame ▸ hacc hrel
    · have hne : st ≠ .down ∧ st ≠ .silent := ⟨fun h => hno ⟨hsame, .inl h⟩, fun h => hno ⟨hsame, .inr h⟩⟩
      cases st <;> simp_all [Printer.accepts]

theorem delPrinter (h : s.FlightSound) {q : Nat} (hi : s.inflightCount q = 0)
    (ht : ∀ j ∈ s.store.records, j.isHeld = true → j.target ≠ .specific q) :
    State.FlightSound { s with printers := s.printers.del q } := by
  have hnone (j : Job) (hj : j ∈ s.store.records) (r : ReleaseInfo) (hr : r ∈ j.phase.info?) : r.printer ≠ q := fun hq =>
    List.countP_eq_zero.1 hi j hj ((Option.any_eq_true ..).2 ⟨r, hr, beq_iff_eq.2 hq⟩)
  have hget (n : Nat) (hn : n ≠ q) : State.stateOf { s with printers := s.printers.del q } n = s.stateOf n := by
    rw [State.stateOf, Table.get?_del_ne _ hn, State.stateOf]
  refine ⟨Table.sorted_del h.sorted q, h.limit, h.jobs.of_eq rfl rfl, fun j hj r hr => ?_, fun j hj n hn => ?_, h.few⟩
  · rw [hget _ (hnone j hj r hr)]
    exact h.there j hj r hr
  · obtain ⟨hsome, hon⟩ := h.target j hj n hn
    refine ⟨?_, hon⟩
    rw [hget]
    · exact hsome
    · rintro rfl
      cases hph : j.phase with
      | held => exact ht j hj (Job.isHeld_iff.2 hph) hn
      | releasing r => exact hnone j hj r (by rw [hph]; rfl) (hon r (by rw [hph]; rfl))
      | printing r u => exact hnone j hj r (by rw [hph]; rfl) (hon r (by rw [hph]; rfl))

theorem addPrinter (h : s.FlightSound) {q : Nat} (hq : s.printers.get? q = none) (p : Printer) :
    State.FlightSound { s with printers := s.printers.put q p } := by
  have hget (n : Nat) (hn : (s.stateOf n).isSome = true) : State.stateOf { s with printers := s.printers.put q p } n = s.stateOf n := by
    have hne : n ≠ q := by
      rintro rfl
      simp [State.stateOf, hq] at hn
    rw [State.stateOf, Table.get?_put_ne _ _ hne, State.stateOf]
  refine ⟨Table.sorted_put h.sorted _ _, h.limit, h.jobs.of_eq rfl rfl, fun j hj r hr => ?_, fun j hj n hn => ?_, h.few⟩
  · obtain ⟨st, hst, hacc⟩ := h.there j hj r hr
    exact ⟨st, by rw [hget _ (by rw [hst]; rfl), hst], hacc⟩
  · obtain ⟨hsome, hon⟩ := h.target j hj n hn
    exact ⟨by rwa [hget n hsome], hon⟩

theorem storeJob (h : s.FlightSound) (hfull : s.store.records.length < Config.jobEntries) (p : Payload) (col : Bool)
    (hpr : byteAt p 13 = 0 → (s.printers.get? (byteAt p 14)).isSome = true) : (storeJob (newJob p col s) s).FlightSound := by
  refine ⟨h.sorted, h.limit, h.jobs.storeJob hfull p col, fun j hj r hr => ?_, fun j hj n hn => ?_, fun q => ?_⟩
  · obtain hj | hj := List.mem_append.1 hj
    · exact h.there j hj r hr
    · obtain rfl := List.mem_singleton.1 hj
      cases hr
  · obtain hj | hj := List.mem_append.1 hj
    · exact h.target j hj n hn
    · obtain rfl := List.mem_singleton.1 hj
      refine ⟨?_, fun r hr => by cases hr⟩
      have htgt : targetOf (byteAt p 13) (byteAt p 14) = .specific n := hn
      unfold targetOf at htgt
      split at htgt
      · next hkind =>
        cases htgt
        rw [State.stateOf, Option.isSome_map]
        exact hpr hkind
      all_goals cases htgt
  · have hnew : (Machine.storeJob (newJob p col s) s).inflightCount q = s.inflightCount q := by
      simp [State.inflightCount, newJob, JobPhase.info?]
    rw [hnew]
    exact h.few q

theorem reset (s : State) : (resetAll s).FlightSound where
  sorted := .nil
  limit := (by decide : State.reset.params.printerInflight ≤ 16)
  jobs := (Books.reset s).jobs
  there := by intro j hj; cases hj
  target := by intro j hj; cases hj
  few := by intro q; exact Nat.zero_le _

/-- Every part of a step keeps the jobs in flight on printers that may hold them. -/
theorem part (h : s.FlightSound) (hp : Part s t) : t.FlightSound := by
  have hj (u : State) (h : u.FlightSound) : u.JobsSound := h.jobs
  have hk (u v : State) (hs : u.SameFlights v) (h : u.FlightSound) : v.FlightSound := h.same hs
  have hm (u v : State) (j : Job) (ph : Option JobPhase) (hm : u.Moved v j ph) (h : u.FlightSound) : v.FlightSound := h.moved hm
  cases hp with
  | returnUnreleased n => exact returnUnreleased_of_moves hk hm n h
  | release n q redirect only => exact releaseDecision_of_moves hj hk hm n q redirect only h
  | holdExpiries => exact holdExpiries_of_moves hj hk hm h
  | abandonments => exact abandonments_of_moves hj hk hm h
  | jobDone n m requeue j r u hjn hph =>
    obtain ⟨-, rfl⟩ := State.mem_of_jobAt hjn
    exact completeJob_of_moves hj hk hm m _ requeue hjn hph h
  | retargetJobs q fl => exact h.retargetJobs q fl
  | serviceState q st hst => exact h.setServiceState q hst
  | delPrinter q hi ht => exact h.delPrinter hi ht
  | printers x hv => exact h.of_view rfl rfl hv h.limit
  | param i v hv =>
    refine h.of_view rfl rfl rfl ?_
    by_cases hi : ParamId.printerInflight = i
    · subst hi; exact (ParamId.admits_iff.1 hv).2
    · exact (Params.read_write_ne s.params v hi).trans_le h.limit
  | _ => exact h.of_view (by simp) (by simp) (by simp) (by simpa using h.limit)

/-- Every atom keeps the jobs in flight on printers that may hold them. -/
theorem atom (h : s.FlightSound) (ha : Atom s t) : t.FlightSound := by
  have hj (u : State) (h : u.FlightSound) : u.JobsSound := h.jobs
  have hm (u v : State) (j : Job) (ph : Option JobPhase) (hm : u.Moved v j ph) (h : u.FlightSound) : v.FlightSound := h.moved hm
  cases ha with
  | reset => exact .reset s
  | printerAdd q floor cls caps types _ _ _ _ _ _ hv => exact h.addPrinter hv _
  | accountRetire n a ha hi =>
    obtain ⟨hnd, hheld⟩ := h.jobs.heldOf n
    have hgone := retireJobs_of_moves hj hm _ hnd hheld h
    exact hgone.of_view rfl rfl rfl hgone.limit
  | jobSubmit p a _ _ _ hfull hpr => exact h.storeJob hfull p a.colour hpr
  | jobCancel n j hj' hp =>
    obtain ⟨-, rfl⟩ := State.mem_of_jobAt hj'
    exact cancelJob_of_moves hj hm hj' hp h
  | dispatchTake n rest j r hd hj' hp =>
    obtain ⟨-, rfl⟩ := State.mem_of_jobAt hj'
    exact h.moved (.take h.jobs hj' hp)
  | _ => exact h.of_view rfl rfl rfl h.limit

end State.FlightSound

/-- Settles O59: jobs in flight stay sound through every part of a step and through every atom. -/
theorem stepKeepsFlightsSound : Obligations.StepKeepsFlightsSound := by
  rintro s t ⟨ho, hp, hj, hf⟩ h
  have hs := (flightsSound_iff ho.1 hp.printerInflight_le (jobOrdersSound_iff.1 hj)).1 hf
  have ht := step_of_moves (P := State.FlightSound) (fun u v hm hu => move_of_parts (P := State.FlightSound) (fun _ _ hp h => h.part hp) hu.atom hm hu)
    (fun _ _ h => h.of_view rfl rfl rfl h.limit) hs h
  exact (flightsSound_iff ht.sorted ht.limit ht.jobs).2 ht

end Sys2Proof.Machine
end

section
/-!
PROOFS. What every block holds after reset (R180), and that every invariant holds there.
-/

namespace Sys2Proof.Machine

theorem reset_params : (∀ e ∈ [(0x0001, 25000000), (0x0002, 0), (0x0010, 300), (0x0011, 20000), (0x0012, 20), (0x0020, 120), (0x0021, 60),
       (0x0022, 30), (0x0023, 15), (0x0030, 300), (0x0031, 50), (0x0032, 4), (0x0033, 4), (0x0034, 50), (0x0040, 3),
       (0x0050, 12), (0x0060, 16), (0x0061, 24), (0x0070, 30), (0x0071, 1000), (0x0072, 3), (0x0073, 16), (0x0074, 3),
       (0x0080, 8), (0x0081, 8), (0x0082, 60), (0x0083, 30), (0x0084, 1)],
       (ParamId.ofNumber? e.1).map State.reset.params.read = some e.2) := by decide

/-- Settles O5: the values are those of the definition, and each invariant speaks of empty tables or of defaults. -/
theorem resetHoldsTheStatedValues : Obligations.ResetHoldsTheStatedValues := by
  have hjobs : State.Books State.reset := State.Books.reset State.reset
  have horder : State.InSequence State.reset := State.InSequence.reset State.reset
  have hbooks := (books_iff (s := State.reset) (by decide)).2 hjobs
  have hflights := (flightsSound_iff (s := State.reset) .nil (by decide) hjobs.jobs).2 (State.FlightSound.reset State.reset)
  refine ⟨?values, by decide, admits_defaultParams, ?printers, by decide, ?budgets, ?badges, by decide, by decide, by decide,
    hbooks.1, horder.near, horder.kept, hbooks.2.1, hbooks.2.2, hflights, lineSound_iff.2 .reset, ?bindings, by decide⟩
  case values =>
    refine ⟨rfl, rfl, rfl, rfl, rfl, rfl, rfl, rfl, rfl, rfl, by decide, by decide, rfl, rfl, rfl, rfl, rfl, rfl, rfl, ?_, rfl, rfl,
      reset_params, by decide⟩
    exact fun e he => eq_resetStation he
  case printers => intro e he; cases he
  case budgets => exact (by decide : Bank.InRange resetBank)
  case badges => exact .nil
  case bindings =>
    intro e he q hq
    rw [eq_resetStation he] at hq
    cases hq

end Sys2Proof.Machine
end

section
/-!
PROOFS. RELEASE_REQUEST turned away (R139, R140, R145): the refusals in their order, and the outcomes that change nothing.
-/

namespace Sys2Proof.Machine

variable {s : State} {p : Payload}

theorem exec_releaseRequest_of_length (h : s.Receptive) (hp : p.length = 5) :
    exec (.releaseRequest p) s = .next (answer 0x50 (releaseRequest p s) s) := by
  rw [exec_releaseRequest h, within_of_le (by omega)]

/-- The job that a RELEASE_REQUEST names, if it names one (R145). -/
def onlyJob (p : Payload) : Option Nat := if u16 p 3 = 0 then none else some (u16 p 3)

/-- A RELEASE_REQUEST names no job or one of the account's jobs. -/
def State.knowsJob (s : State) (p : Payload) : Prop := u16 p 3 = 0 ∨ ∃ j ∈ s.jobAt (u16 p 3), j.owner = u16 p 0

theorem knowsJob_iff : s.knowsJob p ↔ ¬ (u16 p 3 ≠ 0 ∧ (!(s.jobAt (u16 p 3)).any fun j => j.owner == u16 p 0) = true) := by
  unfold State.knowsJob
  cases s.jobAt (u16 p 3) with
  | none => simp
  | some j => simp; tauto

section

variable {a : Account} (hp : p.length = 5) (ha : s.bank.accounts.get? (u16 p 0) = some a) (hr : a.role = .user)
  (hpr : (s.printers.get? (byteAt p 2)).isSome = true)
include hp ha hr hpr

/-- The last check of a RELEASE_REQUEST: the job it names (R145). -/
theorem releaseRequest_of_printer : releaseRequest p s
    = if u16 p 3 ≠ 0 ∧ (!(s.jobAt (u16 p 3)).any fun j => j.owner == u16 p 0) = true then notFound 3
      else okay (releaseDecision (u16 p 0) (byteAt p 2) false (onlyJob p) s).1
        (decisionPayload (releaseDecision (u16 p 0) (byteAt p 2) false (onlyJob p) s).2) := by
  have hsome : ¬ (s.printers.get? (byteAt p 2)).isNone = true := by simpa using Option.isSome_iff_ne_none.1 hpr
  simp only [releaseRequest, hp, ha]
  rw [if_neg (by simp), if_neg (by simp [hr]), if_neg hsome]
  rfl

/-- Past its checks a RELEASE_REQUEST answers with the release decision. -/
theorem releaseRequest_of_known (hk : s.knowsJob p) :
    releaseRequest p s = okay (releaseDecision (u16 p 0) (byteAt p 2) false (onlyJob p) s).1
      (decisionPayload (releaseDecision (u16 p 0) (byteAt p 2) false (onlyJob p) s).2) := by
  rw [releaseRequest_of_printer hp ha hr hpr, if_neg (knowsJob_iff.1 hk)]

theorem releaseRequest_of_unknown (hk : ¬ s.knowsJob p) : releaseRequest p s = notFound 3 := by
  rw [releaseRequest_of_printer hp ha hr hpr, if_pos (not_not.1 (mt knowsJob_iff.2 hk))]

end

/-- A SUSPENDED owner is turned away (R139). -/
theorem releaseDecision_of_suspended {n q : Nat} {redirect : Bool} {only : Option Nat} {a : Account} (ha : s.bank.accounts.get? n = some a)
    (hs : a.suspended = true) : releaseDecision n q redirect only s = (s, ⟨.suspended, 0, 0, q, 0⟩) := by
  rw [releaseDecision, if_pos (by simp [ha, hs])]

/-- At a printer that accepts no releases, and without redirection, the outcome is UNAVAILABLE (R140). -/
theorem releaseDecision_of_unavailable {n q : Nat} {only : Option Nat} {a : Account} {x : Printer} (ha : s.bank.accounts.get? n = some a)
    (hs : a.suspended = false) (hx : s.printers.get? q = some x) (hacc : x.accepts = false) :
    releaseDecision n q false only s = (s, ⟨.unavailable, 0, 0, q, s.ticketNumber q⟩) := by
  have htarget : s.releaseTarget q false = none := by simp [State.releaseTarget, hx, hacc]
  rw [releaseDecision, if_neg (by simp [ha, hs]), htarget]

/-- Settles O50: each check of RELEASE_REQUEST in its order, and the two outcomes of the decision that come before any job. -/
theorem releaseIsTurnedAway : Obligations.ReleaseIsTurnedAway := by
  intro s p hs hp
  simp only [exec_releaseRequest_of_length hs hp]
  refine ⟨fun ha => ?_, fun a ha => ⟨fun hr => ?_, fun hr hpr => ?_, fun hr hpr hk => ?_, fun hr hpr hk hsus => ?_,
    fun hr hk hsus x hx h₁ h₂ => ?_⟩⟩
  · simp [releaseRequest, hp, ha]
  · simp [releaseRequest, hp, Option.mem_def.1 ha, hr]
  · simp [releaseRequest, hp, Option.mem_def.1 ha, hr, hpr]
  · rw [releaseRequest_of_unknown hp ha hr hpr hk]
    rfl
  · rw [releaseRequest_of_known hp ha hr hpr hk, releaseDecision_of_suspended ha hsus]
    simp [decisionPayload, DisplayOutcome.code, le]
  · have hacc : x.accepts = false := by simp [Printer.accepts, h₁, h₂]
    rw [releaseRequest_of_known hp ha hr (by rw [hx]; rfl) hk, releaseDecision_of_unavailable ha hsus hx hacc]
    rfl

end Sys2Proof.Machine
end

section
/-!
PROOFS. The reads of the Time Base, the printers, the cartridges and the tickets (R9, R39, R61, R163, R182).
-/

namespace Sys2Proof.Machine

variable {s : State}

/-! ### Operands -/

@[simp] theorem byteAt_le_one' {n : Nat} (h : n ≤ 255) : byteAt (le 1 n) 0 = n := byteAt_le_one h []

@[simp] theorem u16_le_two' {n : Nat} (h : n ≤ 65535) : u16 (le 2 n) 0 = n := u16_le_two h []

/-- The record of the lowest number above one. -/
theorem Table.above_eq_some {α : Type} {t : Table α} (hs : t.Sorted) {n : Nat} {e : Nat × α} (he : e ∈ t) (hn : n < e.1)
    (hmin : ∀ d ∈ t, n < d.1 → e.1 ≤ d.1) : t.above n = some e := by
  cases h : t.above n with
  | none => exact absurd (Table.above_none h e.1 (List.mem_map_of_mem he)) (by omega)
  | some d =>
    obtain ⟨hd, hmem, hle⟩ := Table.above_some hs h
    have heq : d.1 = e.1 := le_antisymm (hle e.1 (List.mem_map_of_mem he) hn) (hmin d hmem hd)
    exact congrArg some (Prod.ext heq (Table.record_eq hs hmem he heq))

theorem Table.above_eq_none {α : Type} {t : Table α} {n : Nat} (h : ∀ e ∈ t, e.1 ≤ n) : t.above n = none :=
  List.find?_eq_none.2 fun e he => by simpa using h e he

/-! ### TIME_READ -/

/-- The clocks of TIME_READ. -/
def State.clockField (s : State) : Payload := le 4 s.time.building.toNat ++ le 4 s.time.runSeconds.toNat ++ le 2 s.time.day.toNat

/-- The last swept day, the mode and the sweep flags of TIME_READ. -/
def State.modeField (s : State) : Payload :=
  optional 2 (s.time.lastSwept.map BitVec.toNat) ++ [s.time.mode.code] ++ flag s.time.sweep.isSome ++ flag s.time.queued

/-- The phase, the walk and the position of TIME_READ. -/
def State.walkField (s : State) : Payload := le 1 (sweepReport s).1 ++ le 1 (sweepReport s).2.1 ++ le 2 (sweepReport s).2.2

/-- The days of the sweep of TIME_READ. -/
def State.spanField (s : State) : Payload := le 1 s.time.span ++ le 2 s.time.opening.toNat ++ le 2 s.time.closing.toNat

theorem exec_timeRead_fields (hs : s.Receptive) :
    exec (.timeRead []) s = .next (answeredOk 0x0A (s.clockField ++ (s.modeField ++ (s.walkField ++ s.spanField))) s) := by
  rw [exec_timeRead hs, within_of_le (by simp), timeRead, if_neg (by simp)]
  simp [State.clockField, State.modeField, State.walkField, State.spanField, lastSweptField, sweepStateField]

/-- Settles O53: each read past its checks; TIME_READ field by field, and the walk by its walk's kind. -/
theorem readsOfThePrinterSideReportTheRecords : Obligations.ReadsOfThePrinterSideReportTheRecords := by
  intro s n m hs hn hm
  refine ⟨?_, fun hnone => ⟨?_, ?_⟩, fun pr hpr => ⟨?_, ?_⟩, fun k hk => ?_, fun hnone => ?_, fun hsort k hk hlt hmin => ?_, fun hle => ?_⟩
  · have hlen : s.clockField.length = 10 ∧ s.modeField.length = 6 ∧ s.walkField.length = 4 ∧ s.spanField.length = 5 := by
      simp [State.clockField, State.modeField, State.walkField, State.spanField, flag]
    obtain ⟨hclock, hmode, hwalk, hspan⟩ := hlen
    have hdrop : (s.clockField ++ (s.modeField ++ (s.walkField ++ s.spanField))).drop 16 = s.walkField ++ s.spanField := by
      rw [← List.append_assoc, List.drop_left' (by simp [hclock, hmode])]
    refine ⟨_, exec_timeRead_fields hs, by simp [hclock, hmode, hwalk, hspan], List.take_left' hclock, ?_, ?_, ?_, ?_, ?_, ?_, ?_⟩
    · rw [List.drop_left' hclock, List.take_left' hmode]; rfl
    · intro hq
      rw [hdrop, List.take_left' hwalk]
      simp [State.walkField, sweepReport, hq, le]
    · intro q hlt hq
      rw [hdrop, List.take_left' hwalk]
      simp [State.walkField, sweepReport, hq, le, Nat.div_eq_of_lt hlt]
    · intro q hlt hq
      rw [hdrop, List.take_left' hwalk]
      simp [State.walkField, sweepReport, hq, le, Nat.div_eq_of_lt hlt]
    · intro q _ hq e he
      rw [hdrop, List.take_left' hwalk]
      simp [State.walkField, sweepReport, hq, Option.mem_def.1 he, le]
    · intro q hlt hq
      rw [hdrop, List.take_left' hwalk]
      simp [State.walkField, sweepReport, hq, le, Nat.div_eq_of_lt hlt]
    · rw [show (20 : Nat) = 16 + 4 from rfl, ← List.drop_drop, hdrop, List.drop_left' hwalk]
      rfl
  · rw [exec_printerRead hs, within_of_le (by simp), printerRead, if_neg (by simp), byteAt_le_one' hn, hnone]
    rfl
  · rw [exec_cartridgeRead hs, within_of_le (by simp), cartridgeRead, if_neg (by simp), byteAt_le_one' hn, hnone]
    rfl
  · rw [exec_printerRead hs, within_of_le (by simp), printerRead, if_neg (by simp), byteAt_le_one' hn, Option.mem_def.1 hpr]
    rfl
  · rw [exec_cartridgeRead hs, within_of_le (by simp), cartridgeRead, if_neg (by simp), byteAt_le_one' hn, Option.mem_def.1 hpr]
    rfl
  · rw [exec_ticketRead hs, within_of_le (by simp), ticketRead, if_neg (by simp), u16_le_two' hm, Option.mem_def.1 hk]
    rfl
  · rw [exec_ticketRead hs, within_of_le (by simp), ticketRead, if_neg (by simp), u16_le_two' hm, hnone]
    rfl
  · rw [exec_ticketNext hs, within_of_le (by simp), ticketNext, if_neg (by simp), u16_le_two' hm, Table.above_eq_some hsort hk hlt hmin]
    rfl
  · rw [exec_ticketNext hs, within_of_le (by simp), ticketNext, if_neg (by simp), u16_le_two' hm, Table.above_eq_none hle]
    rfl

end Sys2Proof.Machine
end

section
/-!
PROOFS. The reads of stock, accounts, groups and stations (R59, R66, R76, R83, R88, R134, R182).
-/

namespace Sys2Proof.Machine

variable {s : State}

theorem Job.inFlight_eq (j : Job) : j.inFlight = (j.phase != .held) := by
  unfold Job.inFlight
  cases j.phase <;> rfl

theorem openReq_eq_head? (n : Nat) : s.openReq n = (s.stock.reqs.filter fun e => e.2.type == n && e.2.confirmDay.isNone).head? :=
  List.head?_filter.symm

theorem word_le_four (w : Word) : word (le 4 w.toNat) 0 = w := by
  rw [word, show le 4 w.toNat = le 4 w.toNat ++ [] by simp, u32_le_four w.isLt, BitVec.ofNat_toNat, BitVec.setWidth_eq]

theorem messageField_eq (m : Option Message) : messageField m = (m.map fun x => 1 :: x.bytes).getD [0, 0, 0, 0, 0, 0, 0] := by
  cases m <;> rfl

/-- The payload of ACCOUNT_READ field by field (R83). -/
theorem accountPayload_eq (n : Nat) (a : Account) : accountPayload s n a = le 2 n ++ le 4 ((a.token.map BitVec.toNat).getD 0) ++ le 1 a.group
    ++ [a.role.code] ++ flag a.suspended ++ [(if a.colour then 1 else 0) + (if a.poolDraw then 2 else 0)] ++ leInt 4 a.balance
    ++ le 4 a.reserved ++ le 4 a.allowance ++ le 4 a.cap ++ flag a.exhausted ++ le 1 (s.jobsOf n).length
    ++ le 1 ((s.jobsOf n).countP fun j => j.phase != .held) ++ leInt 4 (a.balance - a.reserved + (s.groupAt a.group).overdraft) := by
  rw [accountPayload, State.inflightOf, show Job.inFlight = fun j => j.phase != .held from funext Job.inFlight_eq]
  rfl

/-- The payload of TYPE_READ: the derived counts and the fields of the type (R66). -/
theorem typeRead_reports (hs : s.Receptive) {n : Nat} (hn : n ≤ 63) :
    exec (.typeRead (le 1 n)) s = .next (answeredOk 0x29 (typePayload s n) s) := by
  rw [exec_typeRead hs, within_of_le (by simp), typeRead, if_neg (by simp), byteAt_le_one' (by omega), if_neg (by omega)]
  rfl

/-- Settles O54: each read past its checks; TYPE_READ field by field. -/
theorem readsOfTheBudgetSideReportTheRecords : Obligations.ReadsOfTheBudgetSideReportTheRecords := by
  intro s n m token hs hn hm
  refine ⟨fun h => ⟨?_, ?_⟩, fun h => ?types, fun h => ?_, ⟨?_, ?_, ?_, ?_⟩, ⟨?_, ?_, ?_, ?_, ?_⟩, fun h => ?_, fun h₁ h₂ st hst => ?_⟩
  case types =>
    refine ⟨_, typeRead_reports hs h, by simp [typePayload, flag], rfl, fun ty hty => ?_, fun hnone => ?_, rfl, ?_⟩
    · simp only [typePayload, Option.mem_def.1 hty]; rfl
    · simp only [typePayload, hnone]; rfl
    · intro opened
      rw [← openReq_eq_head?, ← List.countP_eq_length_filter]
      rfl
  · rw [exec_typeRead hs, within_of_le (by simp), typeRead, if_neg (by simp), byteAt_le_one' hn, if_pos h]
    rfl
  · rw [exec_groupRead hs, within_of_le (by simp), groupRead, if_neg (by simp), byteAt_le_one' hn, if_pos h]
    rfl
  · rw [exec_groupRead hs, within_of_le (by simp), groupRead, if_neg (by simp), byteAt_le_one' hn, if_neg (by omega)]
    rfl
  · intro r hr
    rw [exec_reqRead hs, within_of_le (by simp), reqRead, if_neg (by simp), u16_le_two' hm, Option.mem_def.1 hr]
    rfl
  · intro hnone
    rw [exec_reqRead hs, within_of_le (by simp), reqRead, if_neg (by simp), u16_le_two' hm, hnone]
    rfl
  · intro hsort k hk hlt hmin
    rw [exec_reqNext hs, within_of_le (by simp), reqNext, if_neg (by simp), u16_le_two' hm, Table.above_eq_some hsort hk hlt hmin]
    rfl
  · intro hle
    rw [exec_reqNext hs, within_of_le (by simp), reqNext, if_neg (by simp), u16_le_two' hm, Table.above_eq_none hle]
    rfl
  · intro a ha
    rw [exec_accountRead hs, within_of_le (by simp), accountRead, if_neg (by simp), u16_le_two' hm, Option.mem_def.1 ha]
    exact congrArg (fun b => Host.Outcome.next (answeredOk 0x32 b s)) (accountPayload_eq m a)
  · intro hnone
    rw [exec_accountRead hs, within_of_le (by simp), accountRead, if_neg (by simp), u16_le_two' hm, hnone]
    rfl
  · rw [exec_accountFindBadge hs, within_of_le (by simp), accountFindBadge, if_neg (by simp), if_pos (by decide)]
    rfl
  · intro h0 hnone
    rw [exec_accountFindBadge hs, within_of_le (by simp), accountFindBadge, if_neg (by simp), word_le_four, if_neg h0, hnone]
    rfl
  · intro h0 e he
    refine ⟨by simpa using List.find?_some he, ?_⟩
    rw [exec_accountFindBadge hs, within_of_le (by simp), accountFindBadge, if_neg (by simp), word_le_four, if_neg h0, Option.mem_def.1 he]
    exact congrArg (fun b => Host.Outcome.next (answeredOk 0x33 b s)) (accountPayload_eq e.1 e.2)
  · rw [exec_stationRead hs, within_of_le (by simp), stationRead, if_neg (by simp), byteAt_le_one' hn, if_pos (by simp [isStation]; omega)]
    rfl
  · rw [exec_stationRead hs, within_of_le (by simp), stationRead, if_neg (by simp), byteAt_le_one' hn, if_neg (by simp [isStation]; omega),
      stationPayload, State.stationAt, Option.mem_def.1 hst, messageField_eq]
    rfl

end Sys2Proof.Machine
end

section
/-!
PROOFS. A command acts after the second event in progress (R170, section 4.7): every command but a timer and a reset source is an
event that first finishes the second event, and a due timer's row is the next of the passes that finish it (log entry 3).
-/

namespace Sys2Proof.Machine

variable {s : State} {c : Instr}

/-- A well-formed command that is neither a timer nor a reset source is an event of its own. -/
theorem exec_of_event (hwf : c.wellFormed = true) (ht : c.timer? = none) (hp : c.isPinEvent = false) :
    ∃ f : State → State, ∀ s, exec c s = .next (asEvent f s) := by
  by_cases hc : c.isFrame = true
  · obtain ⟨take, h⟩ := exec_of_isFrame hc hwf
    exact ⟨_, h⟩
  · cases c with
    | stationReply chars =>
      have hne : ¬ chars.isEmpty = true := by simpa [Instr.wellFormed] using hwf
      exact ⟨_, fun s => congrArg Host.Outcome.next (if_neg hne)⟩
    | lateReply chars =>
      have hne : ¬ chars.isEmpty = true := by simpa [Instr.wellFormed] using hwf
      exact ⟨_, fun s => congrArg Host.Outcome.next (if_neg hne)⟩
    | dayBoundary | takeTimeout | silenceExpiry | classTick _ | escalation | abandonment | holdExpiry | quietTimeout => cases ht
    | rstAssert | rstRelease | supplyLow | supplyRestored => cases hp
    | secondEvent | sweepPrinterStep | sweepGroupStep | sweepAccountStep | sweepTypeStep | calendarPoll | answerPoll | miss
    | responseStored => exact ⟨_, fun _ => rfl⟩
    | _ => exact absurd rfl hc

/-- Finishing a second event that is over changes nothing, so an event may as well begin with it finished. -/
theorem asEvent_finishSecond (f : State → State) (h : s.inReset = false) : asEvent f s = asEvent f (finishSecond s) := by
  have hf : (finishSecond s).inReset = false := by rw [State.inReset, finishSecond_pins]; exact h
  rw [asEvent_eq_finished h, asEvent_eq_finished hf, finishSecond_of_done (finishSecond_second s)]

theorem Timer.before_self (t : Timer) : t.before t = false := by cases t <;> rfl

/-- A due timer that no other due timer must precede runs by itself. -/
theorem timerRow_of_first {t : Timer} {rest : List Timer} (h : s.inReset = false) (hd : s.second.due = t :: rest)
    (hfirst : ∀ x ∈ rest, x.before t = false) : timerRow t s = passTimer s t := by
  have hnone : (s.second.due.filter fun u => u.before t) = [] := by
    simpa [hd, Timer.before_self] using hfirst
  rw [timerRow, if_neg (by simp [h]), if_pos (by simp [hd]), hnone, List.foldl_nil]

theorem finishSecond_of_nil (h : s.second.due = []) : finishSecond s = { s with second := ⟨[], [], []⟩ } := by
  rw [finishSecond, h, List.foldl_nil]

/-- To finish a second event is to pass the first timer due and to finish what is left. -/
theorem finishSecond_of_cons {t : Timer} {rest : List Timer} (hd : s.second.due = t :: rest) :
    finishSecond s = finishSecond (passTimer s t) := by
  have hrest : (passTimer s t).second.due = rest := by rw [passTimer_due, hd, List.erase_cons_head]
  rw [finishSecond, finishSecond, hd, hrest, List.foldl_cons]

/-- Settles O3: an event begins by finishing the second event; a timer's row is one of the passes of that finish. -/
theorem commandActsAfterTheSecondEvent : Obligations.CommandActsAfterTheSecondEvent := by
  refine ⟨fun s c h hwf ht hp => ⟨?_, finishSecond_second s⟩, fun s => finishSecond_of_nil, fun s c t rest h hd hc hfirst => ?_⟩
  · obtain ⟨f, hexec⟩ := exec_of_event hwf ht hp
    rw [hexec, hexec, ← asEvent_finishSecond f h]
  · refine ⟨passTimer s t, ?_, ?_, finishSecond_of_cons hd⟩
    · rw [exec_of_timer hc, timerRow_of_first h hd hfirst]
    · rw [passTimer_due, hd, List.erase_cons_head]

end Sys2Proof.Machine
end

section
/-!
PROOFS. The reset sources (R179, R180): the two pins by their levels, what a hold lets through, and PORT_RESET.
-/

namespace Sys2Proof.Machine

variable {s : State} {c : Instr} {p : Payload}

/-! ### The pins -/

/-- The state with the work in progress lost and the pins at the levels given, as a hold begins. -/
theorem setPins_of_begin {pins : Pins} (h : s.inReset = false) (hp : (pins.rstLow || pins.supplyLow) = true) :
    setPins pins s = { abandonWork s with pins := pins } := by
  simp [setPins, h, hp]

theorem setPins_of_end {pins : Pins} (h : s.inReset = true) (hp : (pins.rstLow || pins.supplyLow) = false) :
    setPins pins s = resetAll s := by
  simp [setPins, h, hp]

theorem setPins_of_join {pins : Pins} (h : s.inReset = true) (hp : (pins.rstLow || pins.supplyLow) = true) :
    setPins pins s = { s with pins := pins } := by
  simp [setPins, h, hp]

theorem setPins_of_none {pins : Pins} (h : s.inReset = false) (hp : (pins.rstLow || pins.supplyLow) = false) :
    setPins pins s = s := by
  simp [setPins, h, hp]

theorem State.inReset_of_pins {x : Pins} (h : s.pins = x) : s.inReset = (x.rstLow || x.supplyLow) := by
  rw [State.inReset, h]

theorem State.withPins_eq {x : Pins} (h : s.pins = x) : { s with pins := x } = s := by rw [← h]

theorem exec_rstAssert (h : s.pins = ⟨true, b⟩ ∨ s.pins = ⟨false, b⟩) : exec .rstAssert s = .next (setPins ⟨true, b⟩ s) := by
  obtain h | h := h <;> simp only [exec, execRstAssert, h]

theorem exec_rstRelease (h : s.pins = ⟨true, b⟩ ∨ s.pins = ⟨false, b⟩) : exec .rstRelease s = .next (setPins ⟨false, b⟩ s) := by
  obtain h | h := h <;> simp only [exec, execRstRelease, h]

theorem exec_supplyLow (h : s.pins = ⟨b, true⟩ ∨ s.pins = ⟨b, false⟩) : exec .supplyLow s = .next (setPins ⟨b, true⟩ s) := by
  obtain h | h := h <;> simp only [exec, execSupplyLow, h]

theorem exec_supplyRestored (h : s.pins = ⟨b, true⟩ ∨ s.pins = ⟨b, false⟩) :
    exec .supplyRestored s = .next (setPins ⟨b, false⟩ s) := by
  obtain h | h := h <;> simp only [exec, execSupplyRestored, h]

/-! ### A hold and a PORT_RESET let nothing through -/

/-- While the part is held in reset only a reset source has an effect. -/
theorem exec_of_inReset (h : s.inReset = true) (hp : c.isPinEvent = false) : exec c s = .next s := by
  have hevent (f : State → State) : asEvent f s = s := asEvent_of_inReset h
  cases ht : c.timer? with
  | some t => rw [exec_of_timer ht, timerRow_of_inReset h]
  | none =>
    cases c with
    | dayBoundary | takeTimeout | silenceExpiry | classTick _ | escalation | abandonment | holdExpiry | quietTimeout => cases ht
    | rstAssert | rstRelease | supplyLow | supplyRestored => cases hp
    | unknownRequest code p => simp only [exec, execUnknownRequest, takeRequest, hevent, ite_self]
    | malformedRequestFrame frame => simp only [exec, execMalformedRequestFrame, hevent, ite_self]
    | earlyRequest frame => simp only [exec, execEarlyRequest, hevent, ite_self]
    | stationReply chars => simp only [exec, execStationReply, hevent, ite_self]
    | lateReply chars => simp only [exec, execLateReply, hevent, ite_self]
    | _ => exact congrArg Host.Outcome.next (hevent _)

/-- While a PORT_RESET is at work every frame is ignored without cause. -/
theorem exec_frame_of_resetting (hs : s.Settled) (hr : s.port.phase = .resetting) (hc : c.isFrame = true) :
    exec c s = .next s := by
  have hevent (take : State → State) : asEvent (atPort take) s = s := by rw [asEvent_of_settled hs, atPort_of_resetting hr]
  by_cases hreq : c.request?.isSome = true
  · obtain ⟨take, hexec⟩ := exec_of_request hreq
    rw [hexec, hevent]
  · cases c with
    | unknownRequest code p => simp only [exec, execUnknownRequest, takeRequest, hevent, ite_self]
    | malformedRequestFrame frame => simp only [exec, execMalformedRequestFrame, hevent, ite_self]
    | earlyRequest frame => simp only [exec, execEarlyRequest, hevent, ite_self]
    | _ => exact absurd hc hreq

theorem State.readTransaction_of_inReset (h : s.inReset = true) : s.readTransaction = none := by
  simp [State.readTransaction, h]

theorem State.ready_of_inReset (h : s.inReset = true) : s.ready = false := by
  unfold State.ready
  cases s.port.phase <;> simp [h]

theorem exec_responseStored_of_resetting (hs : s.Settled) (hr : s.port.phase = .resetting) :
    exec .responseStored s = .next { s with port := { s.port with phase := .ready resetResponse } } := by
  rw [exec_responseStored hs]
  simp only [storeResponse, hr]

/-- Settles O4: each pin event by the levels before it, then the hold, then PORT_RESET until READY rises. -/
theorem resetSourcesHoldAndRestore : Obligations.ResetSourcesHoldAndRestore := by
  refine ⟨fun s => ⟨fun h => ?free, fun h => ?rst, fun h => ?supply, fun h => ?both⟩, fun s h => ?held,
    fun s p hs => ⟨?reset, ?refused⟩⟩
  case free =>
    have hr : s.inReset = false := State.inReset_of_pins h
    refine ⟨?_, ?_, ?_, ?_⟩
    · rw [exec_rstAssert (.inr h), setPins_of_begin hr rfl]; rfl
    · rw [exec_supplyLow (.inr h), setPins_of_begin hr rfl]; rfl
    · rw [exec_rstRelease (.inr h), setPins_of_none hr rfl]
    · rw [exec_supplyRestored (.inr h), setPins_of_none hr rfl]
  case rst =>
    have hr : s.inReset = true := State.inReset_of_pins h
    refine ⟨?_, ?_, ?_⟩
    · rw [exec_rstRelease (.inl h), setPins_of_end hr rfl]; rfl
    · rw [exec_supplyLow (.inr h), setPins_of_join hr rfl]
    · rw [exec_rstAssert (.inl h), setPins_of_join hr rfl, State.withPins_eq h]
  case supply =>
    have hr : s.inReset = true := State.inReset_of_pins h
    refine ⟨?_, ?_, ?_⟩
    · rw [exec_supplyRestored (.inl h), setPins_of_end hr rfl]; rfl
    · rw [exec_rstAssert (.inr h), setPins_of_join hr rfl]
    · rw [exec_supplyLow (.inl h), setPins_of_join hr rfl, State.withPins_eq h]
  case both =>
    have hr : s.inReset = true := State.inReset_of_pins h
    exact ⟨by rw [exec_rstRelease (.inl h), setPins_of_join hr rfl], by rw [exec_supplyRestored (.inl h), setPins_of_join hr rfl]⟩
  case held =>
    have hread := State.readTransaction_of_inReset h
    exact ⟨State.ready_of_inReset h, by simp [State.attn, h], by simp [State.de, h], hread, State.miso_of_ignored hread,
      fun c hc => exec_of_inReset h hc⟩
  case reset =>
    rintro rfl
    have hu : State.Settled { State.reset with
        port := { State.reset.port with phase := .resetting }, pending := s.pending, freeCount := s.freeCount } := ⟨rfl, rfl⟩
    have hattn : State.reset.attn = false := by decide
    exact ⟨exec_portReset hs [], rfl, hattn, rfl, State.miso_of_ignored (State.readTransaction_of_resetting rfl),
      fun c => exec_frame_of_resetting hu rfl, exec_responseStored_of_resetting hu rfl, rfl, hattn, rfl⟩
  case refused =>
    intro hp
    rw [exec_portReset hs, if_neg (by simpa using hp), answer_refuse]

end Sys2Proof.Machine
end

section
/-!
PROOFS. A printer's conditions and causes (R2, R22, R24, R26, R29, R31): the toner conditions slot by slot, the effective severity, the
list of current causes and the severity of a cause set.
-/

namespace Sys2Proof.Machine

variable {s : State} {pr : Printer} {empty : Nat}

/-! ### Toner conditions -/

theorem exists_mem_take_one {α : Type} {l : List α} {P : α → Prop} : (∃ c ∈ l.take 1, P c) ↔ ∃ c ∈ l[0]?, P c := by
  cases l <;> simp

/-- The slots behind the first of at most four, by their numbers. -/
theorem exists_mem_drop_one {α : Type} {l : List α} (h : l.length ≤ 4) {P : α → Prop} :
    (∃ c ∈ l.drop 1, P c) ↔ ∃ i ∈ [1, 2, 3], ∃ c ∈ l[i]?, P c := by
  constructor
  · rintro ⟨c, hc, hP⟩
    obtain ⟨i, hi, rfl⟩ := List.getElem_of_mem hc
    have hlt : i + 1 < l.length := by rw [List.length_drop] at hi; omega
    refine ⟨i + 1, ?_, l[i + 1], List.getElem?_eq_getElem hlt, ?_⟩
    · simp only [List.mem_cons, List.not_mem_nil, or_false]; omega
    · simpa only [List.getElem_drop, Nat.add_comm 1 i] using hP
  · rintro ⟨i, hi, c, hc, hP⟩
    obtain ⟨hlt, rfl⟩ := List.getElem?_eq_some_iff.1 hc
    refine ⟨l[i], List.mem_drop_iff_getElem.2 ⟨i - 1, ?_, ?_⟩, hP⟩ <;>
      simp only [List.mem_cons, List.not_mem_nil, or_false] at hi
    · omega
    · congr 1; omega

theorem Printer.blackEmpty_iff : pr.blackEmpty empty = true ↔ ∃ c ∈ pr.slots[0]?, c.level ≤ empty := by
  rw [← exists_mem_take_one]
  simp [Printer.blackEmpty]

theorem Printer.colourUnavailable_iff (h : pr.slots.length ≤ 4) :
    pr.colourUnavailable empty = true
      ↔ pr.caps.colour = true ∧ ∃ i ∈ [1, 2, 3], ∃ c ∈ pr.slots[i]?, c.level ≤ empty := by
  rw [← exists_mem_drop_one h]
  simp [Printer.colourUnavailable]

/-- The kinds judged from a report are those of number 8 and below (R26). -/
theorem Printer.present_iff (k : FaultKind) :
    pr.present empty k = true
      ↔ (k = .tonerEmptyK ∧ pr.blackEmpty empty = true) ∨ (k = .tonerEmptyColour ∧ pr.colourUnavailable empty = true)
        ∨ (k = .noContact ∧ pr.state = .silent) ∨ (k.number ≤ 8 ∧ k ∈ pr.reported) := by
  cases k <;> simp [Printer.present, FaultKind.number, FaultKind.index]

/-! ### Effective severity -/

/-- A cartridge's type has no stock on the shelf. -/
abbrev State.Unstocked (s : State) (c : Cartridge) : Prop := ¬ ∃ ty ∈ s.stock.types.get? c.type, 1 ≤ ty.shelf

theorem State.stocked_eq_false_iff {c : Cartridge} : s.stocked c.type = false ↔ s.Unstocked c := by
  rw [← Bool.not_eq_true, State.stocked, Option.any_eq_true]
  simp

/-- A toner kind is a step more severe while an empty cartridge concerned has no stock. -/
theorem tonerSeverity_eq (v : Nat) {cs : List Cartridge} {Dry : Prop} [Decidable Dry]
    (hdry : (∃ c ∈ cs, c.level ≤ s.params.emptyLevel ∧ s.Unstocked c) ↔ Dry) :
    tonerSeverity s v cs = if v ≠ 0 ∧ Dry then min (v + 1) 4 else v := by
  have hall : ((cs.filter fun c => c.level ≤ s.params.emptyLevel).all fun c => s.stocked c.type) = true
      ↔ ¬ Dry := by
    rw [← hdry]
    have hst (c : Cartridge) : s.stocked c.type = true ↔ ¬ s.Unstocked c := by
      rw [← State.stocked_eq_false_iff, Bool.not_eq_false]
    simp only [List.all_eq_true, List.mem_filter, decide_eq_true_eq, hst, not_exists, not_and, and_imp]
  unfold tonerSeverity
  by_cases hv : v = 0
  · simp [hv]
  · rw [if_neg hv]
    by_cases hc : Dry
    · rw [if_neg (mt hall.1 (not_not.2 hc)), if_pos ⟨hv, hc⟩]
    · rw [if_pos (hall.2 hc), if_neg fun h => hc h.2]

/-! ### Current causes -/

theorem mem_currentCauses {k : FaultKind} {v : Nat} :
    (k, v) ∈ currentCauses s pr ↔ pr.filters.at k = .confirmed ∧ v = effSeverity s pr k ∧ 1 ≤ v := by
  simp only [currentCauses, List.mem_filterMap, FaultKind.mem_all, true_and, Option.ite_none_right_eq_some,
    Option.some.injEq, Prod.mk.injEq]
  constructor
  · rintro ⟨_, ⟨hc, h1⟩, rfl, rfl⟩
    exact ⟨hc, rfl, h1⟩
  · rintro ⟨hc, rfl, h1⟩
    exact ⟨k, ⟨hc, h1⟩, rfl, rfl⟩

theorem currentCauses_pairwise (s : State) (pr : Printer) :
    (currentCauses s pr).Pairwise fun a b => a.1.number < b.1.number := by
  have hall : FaultKind.all.Pairwise fun a b => a.number < b.number := by decide
  refine List.Pairwise.filterMap _ (fun a b hlt c hc d hd => ?_) hall
  simp only [Option.ite_none_right_eq_some, Option.some.injEq] at hc hd
  obtain ⟨-, rfl⟩ := hc
  obtain ⟨-, rfl⟩ := hd
  exact hlt

/-- The highest severity from a start on: no member exceeds it, and it is the start's or a member's. -/
theorem foldl_max_severity (cs : List (FaultKind × Nat)) (m : Nat) :
    let h := cs.foldl (fun m c => max m c.2) m
    m ≤ h ∧ (∀ c ∈ cs, c.2 ≤ h) ∧ (h = m ∨ ∃ c ∈ cs, c.2 = h) := by
  induction cs generalizing m with
  | nil => simp
  | cons c cs ih =>
    obtain ⟨hle, hall, hor⟩ := ih (max m c.2)
    rw [List.foldl_cons]
    refine ⟨(Nat.le_max_left _ _).trans hle, List.forall_mem_cons.2 ⟨(Nat.le_max_right _ _).trans hle, hall⟩, ?_⟩
    obtain h | ⟨d, hd, h⟩ := hor
    · obtain hm | hm := Nat.le_total c.2 m
      · exact .inl (h.trans (Nat.max_eq_left hm))
      · exact .inr ⟨c, List.mem_cons_self, (h.trans (Nat.max_eq_right hm)).symm⟩
    · exact .inr ⟨d, List.mem_cons_of_mem c hd, h⟩

theorem le_severityOf {cs : List (FaultKind × Nat)} {c : FaultKind × Nat} (h : c ∈ cs) : c.2 ≤ severityOf cs :=
  (foldl_max_severity cs 0).2.1 c h

theorem exists_eq_severityOf {cs : List (FaultKind × Nat)} (h : cs ≠ []) : ∃ c ∈ cs, c.2 = severityOf cs := by
  obtain ⟨-, hall, h0 | h0⟩ := foldl_max_severity cs 0
  · obtain ⟨c, hc⟩ := List.exists_mem_of_ne_nil cs h
    exact ⟨c, hc, Nat.le_antisymm (hall c hc) (h0.trans_le (Nat.zero_le _))⟩
  · exact h0

end Sys2Proof.Machine
end

section
/-!
PROOFS. Reconciliation and hand-over (R30 to R36): each branch of a reconciliation of one printer, what it makes of a ticket, and the
reconciliations of one event.
-/

namespace Sys2Proof.Machine

variable {s : State} {q freed : Nat} {pr : Printer}

/-! ### The branches of a reconciliation -/

theorem reconcile_eq (s : State) (freed q : Nat) :
    let t := (reconcile (s, freed) q).1
    t = { s with callout := t.callout, printers := t.printers, port := t.port } := by
  apply State.eq_of_fields <;> simp

section Branches

variable (hp : s.printers.get? q = some pr)
include hp

theorem reconcile_of_ticket {e : Nat × Ticket} (h : s.ticketOf q = some e) :
    reconcile (s, freed) q = reconcileTicket e.1 e.2 pr s freed := by
  simp only [reconcile, hp, h]

theorem reconcile_of_clear (h : s.ticketOf q = none) (hc : currentCauses s pr = []) :
    reconcile (s, freed) q = (updPrinter q (fun p => { p with deferred := false }) s, freed) := by
  simp only [reconcile, hp, h, hc, List.isEmpty_nil, if_true]

theorem reconcile_of_deferred (h : s.ticketOf q = none) (hc : currentCauses s pr ≠ []) (hd : pr.deferred = true) :
    reconcile (s, freed) q = (s, freed) := by
  simp only [reconcile, hp, h, List.isEmpty_iff, hc, hd, if_false, if_true]

theorem reconcile_of_room (h : s.ticketOf q = none) (hc : currentCauses s pr ≠ []) (hd : pr.deferred = false)
    (hr : s.callout.tickets.length + freed < 64) : reconcile (s, freed) q = (issueTicket q s, freed) := by
  have hroom : s.callout.tickets.length + freed < Config.ticketEntries := hr
  simp only [reconcile, hp, h, List.isEmpty_iff, hc, hd, hroom, Bool.false_eq_true, if_false, if_true]

theorem reconcile_of_full (h : s.ticketOf q = none) (hc : currentCauses s pr ≠ []) (hd : pr.deferred = false)
    (hr : 64 ≤ s.callout.tickets.length + freed) : reconcile (s, freed) q = (deferCallout q s, freed) := by
  have hfull : ¬ s.callout.tickets.length + freed < Config.ticketEntries := Nat.not_lt.2 hr
  simp only [reconcile, hp, h, List.isEmpty_iff, hc, hd, hfull, Bool.false_eq_true, if_false]

end Branches

/-- A reconciliation counts an entry freed exactly when it shortens the ticket table. -/
theorem reconcile_freed {m : Nat} (h : s.CalloutSound m) :
    (reconcile (s, freed) q).2
      = if (reconcile (s, freed) q).1.callout.tickets.length < s.callout.tickets.length then freed + 1 else freed := by
  obtain ⟨-, he⟩ | ⟨p, hp, ⟨n, k, hk, he⟩ | ⟨-, ⟨-, he⟩ | ⟨-, ⟨-, he⟩ | ⟨-, -, he⟩ | ⟨-, -, he⟩⟩⟩⟩ := reconcile_cases (s, freed) q <;>
    rw [he]
  · simp
  · obtain ⟨hmem, -⟩ := State.mem_of_ticketOf hk
    obtain ⟨-, he⟩ | ⟨k', b, -, he⟩ := reconcileTicket_cases n k p s freed <;> rw [he]
    · have hlen : (s.callout.tickets.del n).length + 1 = s.callout.tickets.length :=
        Table.length_del_of_mem h.sorted (List.mem_map_of_mem (f := Prod.fst) hmem)
      rw [retireTicket_callout, if_pos (Nat.lt_of_succ_le (Nat.le_of_eq hlen))]
    · simp
  · simp
  · simp
  · rw [length_issueTicket_tickets hp h.room_lt, if_neg (Nat.not_lt.2 (Nat.le_succ _))]
  · simp [deferCallout]

/-! ### What a reconciliation makes of a ticket (R32, R33) -/

/-- The ticket has listed a kind that must be closed by hand, once its causes are `cs`. -/
def Ticket.markedBy (s : State) (cs : List (FaultKind × Nat)) (k : Ticket) : Bool :=
  k.nonAuto || cs.any fun c => !(k.lists c.1) && !(s.params.kinds.at c.1).autoclose

section Tickets

variable {n : Nat} {k : Ticket} {cs : List (FaultKind × Nat)}

theorem reconcileTicket_of_retired (hc : currentCauses s pr = []) (hm : k.markedBy s [] = false) :
    reconcileTicket n k pr s freed = (retireTicket n s, freed + 1) := by
  have hm' : k.nonAuto = false := by simpa [Ticket.markedBy] using hm
  simp [reconcileTicket, Ticket.reconciled, hc, hm']

theorem reconcileTicket_of_resolved (hc : currentCauses s pr = []) (hm : k.markedBy s [] = true) :
    reconcileTicket n k pr s freed
      = (updTicket n (fun _ => { k with causes := [], nonAuto := true, state := .resolved }) s, freed) := by
  have hm' : k.nonAuto = true := by simpa [Ticket.markedBy] using hm
  simp [reconcileTicket, Ticket.reconciled, hc, hm', setCauseIf]

/-- With causes the ticket takes them and its mark, and its state follows. -/
theorem reconcileTicket_of_causes (hc : currentCauses s pr ≠ []) :
    reconcileTicket n k pr s freed
      = match Ticket.restate s.now { k with causes := currentCauses s pr, nonAuto := k.markedBy s (currentCauses s pr) } with
        | .retired => (retireTicket n s, freed + 1)
        | .kept k' reopened => (setCauseIf reopened .calloutRaised (updTicket n (fun _ => k') s), freed) := by
  simp only [reconcileTicket, Ticket.reconciled, List.isEmpty_iff, hc, if_false]
  rfl

theorem Ticket.restate_of_raised {now : Word} (h : k.state = .raised) : k.restate now = .kept k false := by
  simp only [Ticket.restate, h]

theorem Ticket.restate_of_acked {now : Word} {a : Nat} (h : k.acknowledged = some a) (ha : k.severity ≤ a) :
    k.restate now = .kept k false := by
  cases hst : k.state with
  | raised | resolved => simp [Ticket.acknowledged, hst] at h
  | acked b =>
    obtain rfl : b = a := by simpa [Ticket.acknowledged, hst] using h
    simp only [Ticket.restate, hst, if_neg (Nat.not_lt.2 ha)]

theorem Ticket.restate_of_reopened {now : Word} (h : k.state = .resolved ∨ ∃ a ∈ k.acknowledged, a < k.severity) :
    k.restate now = .kept { k with state := .raised, point := now } true := by
  obtain h | ⟨a, ha, hlt⟩ := h
  · simp only [Ticket.restate, h]
  · cases hst : k.state with
    | raised | resolved => simp [Ticket.acknowledged, hst] at ha
    | acked b =>
      obtain rfl : b = a := by simpa [Ticket.acknowledged, hst] using ha
      simp only [Ticket.restate, hst, if_pos hlt]

end Tickets

theorem get?_updTicket_self {n : Nat} {k : Ticket} (hs : Table.Sorted s.callout.tickets) (hk : s.ticketOf q = some (n, k))
    (k' : Ticket) : (updTicket n (fun _ => k') s).callout.tickets.get? n = some k' := by
  rw [updTicket_callout, Table.get?_modify_self, Table.get?_of_mem hs (State.mem_of_ticketOf hk).1, Option.map_some]

theorem setCauseIf_callout_tickets (b : Bool) (c : Cause) (s : State) :
    (setCauseIf b c s).callout.tickets = s.callout.tickets := by simp

/-! ### The reconciliations of one event -/

theorem handOvers_eq_repeat (n : Nat) (s : State) : handOvers n s = Nat.repeat handOver n s := by
  have hcomm (n : Nat) (s : State) : Nat.repeat handOver n (handOver s) = handOver (Nat.repeat handOver n s) := by
    induction n generalizing s with
    | zero => rfl
    | succ n ih => exact congrArg handOver (ih s)
  induction n generalizing s with
  | zero => rfl
  | succ n ih => exact (ih (handOver s)).trans (hcomm n s)

theorem reconcileAll_eq (ps : List Nat) (s : State) :
    let t := reconcileAll ps s
    t = { s with callout := t.callout, printers := t.printers, port := t.port } := by
  apply State.eq_of_fields <;> simp

/-- The reconciliations of an event change a printer record in its deferred-callout flag alone. -/
theorem get?_reconcileAll (ps : List Nat) (hp : s.printers.get? q = some pr) :
    ∃ b, (reconcileAll ps s).printers.get? q = some { pr with deferred := b } := by
  have hview := view_reconcileAll (f := fun p : Printer => { p with deferred := false }) s (fun _ _ => rfl) ps
  have hget := Table.map_get?_eq_of_view_eq hview q
  rw [hp, Option.map_some, Option.map_eq_some_iff] at hget
  obtain ⟨p, hp', heq⟩ := hget
  refine ⟨p.deferred, hp'.trans (congrArg some ?_)⟩
  cases p
  cases pr
  simp_all

/-! ### The obligation -/

/-- Settles O30: conditions and causes slot by slot; one reconciliation by its branches; the reconciliations of an event by where each
printer stands after them. -/
theorem reconciliationKeepsTheTicketInLine : Obligations.ReconciliationKeepsTheTicketInLine := by
  refine ⟨fun s pr h4 => ?causes, fun s q freed pr ht hk hp => ?one, fun s ps ht hk => ?all⟩
  case causes =>
    intro dry unstocked black coloured severity causes
    have hsev (k : FaultKind) : severity k = effSeverity s pr k := by
      cases k with
      | tonerEmptyK =>
        refine (tonerSeverity_eq _ (exists_mem_take_one.trans ?_)).symm
        simp only [List.mem_singleton, exists_eq_left, dry, unstocked]
      | tonerEmptyColour => exact (tonerSeverity_eq _ (exists_mem_drop_one h4)).symm
      | _ => simp [severity, effSeverity, State.kindOf]
    have hblack : pr.blackEmpty s.params.emptyLevel = true ↔ black := Printer.blackEmpty_iff
    have hcoloured : pr.colourUnavailable s.params.emptyLevel = true ↔ coloured := Printer.colourUnavailable_iff h4
    refine ⟨hblack, hcoloured, fun k => ?_, fun k v => ?_, currentCauses_pairwise s pr, fun c => le_severityOf,
      exists_eq_severityOf⟩
    · rw [← hblack, ← hcoloured]
      exact Printer.present_iff k
    · rw [hsev]
      exact mem_currentCauses
  case one =>
    intro t causes byHand
    have hsound : s.CalloutSound 0 := (calloutSound_iff ht).1 hk
    have hlt := hsound.room_lt
    refine ⟨reconcile_eq s freed q, inLine_reconcile (acc := (s, freed)) hsound q, fun x hx => ?place, reconcile_freed hsound,
      fun h hc => ?clear, fun h hc hd => ?deferred, fun h hc hd hr => ?issued, fun h hc hd hr => ?full, fun e he => ?ticket⟩
    case place => exact (samePlace_reconcile (acc := (s, freed)) hsound hx).symm
    case clear =>
      have ht : t = updPrinter q (fun p => { p with deferred := false }) s := by simp only [t, reconcile_of_clear hp h hc]
      rw [ht, updPrinter_printers, Table.get?_modify_self, hp]
      exact ⟨rfl, rfl⟩
    case deferred => simp only [t, reconcile_of_deferred hp h hc hd]
    case issued =>
      have ht : t = issueTicket q s := by simp only [t, reconcile_of_room hp h hc hd hr]
      rw [ht, issueTicket_callout hp]
      exact ⟨by simp [hasCause_issueTicket hp], State.nextTicket_fresh hlt, _, Table.get?_put_self _ _ _, rfl,
        s.newTicket_nonAuto q pr⟩
    case full =>
      have ht : t = deferCallout q s := by simp only [t, reconcile_of_full hp h hc hd hr]
      rw [ht, deferCallout, hasCause_setCause, setCause_callout, setCause_printers, updPrinter_printers, Table.get?_modify_self, hp]
      exact ⟨by simp, rfl, rfl⟩
    case ticket =>
      intro mark
      have hkept (k : Ticket) : (updTicket e.1 (fun _ => k) s).callout.tickets.get? e.1 = some k :=
        get?_updTicket_self hsound.sorted he k
      have hof (k : Ticket) (b : Bool) (h : reconcileTicket e.1 e.2 pr s freed
          = (setCauseIf b .calloutRaised (updTicket e.1 (fun _ => k) s), freed)) :
          t = setCauseIf b .calloutRaised (updTicket e.1 (fun _ => k) s) := by
        simp only [t, reconcile_of_ticket hp he, h]
      refine ⟨fun hc hm => ?_, fun hc hm => ?_, fun hc hr => ?_, fun hc hr => ?_, fun hc ha => ?_⟩
      · have hm : e.2.markedBy s [] = false := by rw [← hc]; exact hm
        have ht : t = retireTicket e.1 s := by simp only [t, reconcile_of_ticket hp he, reconcileTicket_of_retired hc hm]
        rw [ht, retireTicket_callout]
      · have hm : e.2.markedBy s [] = true := by rw [← hc]; exact hm
        rw [hof _ false (reconcileTicket_of_resolved hc hm), setCauseIf_callout_tickets, hkept]
      · rw [hof _ _ (by rw [reconcileTicket_of_causes hc, Ticket.restate_of_raised (by exact hr)]), setCauseIf_callout_tickets, hkept]
        rfl
      · rw [hof _ _ (by rw [reconcileTicket_of_causes hc, Ticket.restate_of_reopened (by exact hr)]), setCauseIf_callout_tickets, hkept]
        exact ⟨by simp [setCauseIf], rfl⟩
      · obtain ⟨a, ha, hle⟩ := ha
        rw [hof _ _ (by rw [reconcileTicket_of_causes hc, Ticket.restate_of_acked (by exact ha) (by exact hle)]),
          setCauseIf_callout_tickets, hkept]
        rfl
  case all =>
    intro r t
    have hsound : s.CalloutSound 0 := (calloutSound_iff ht).1 hk
    refine ⟨entryHandedOver_handOver hsound.printers hsound.room_lt, handOver_eq s, handOvers_eq_repeat r.2 r.1,
      reconcileAll_eq ps s, keys_printers_reconcileAll s ps, fun q => (place_reconcileAll hsound ps q).1,
      fun q hq pr hp => ?_⟩
    obtain ⟨b, hb⟩ := get?_reconcileAll ps hp
    refine ⟨_, hb, rfl, fun hn => ?_⟩
    obtain ⟨htk, hget⟩ | ⟨p, hget, hd, hget', e, he, hcauses, hne⟩ := (place_reconcileAll hsound ps q).2 hn
    · exact .inl ⟨Option.some.inj (hb.symm.trans (hget.trans hp)), htk⟩
    · obtain rfl : p = pr := Option.some.inj (hget.symm.trans hp)
      have hflag : { p with deferred := b } = { p with deferred := false } := Option.some.inj (hb.symm.trans hget')
      exact .inr ⟨hd, congrArg Printer.deferred hflag, e, he, hcauses, hne⟩

end Sys2Proof.Machine
end

section
/-!
PROOFS. PARAM_SET and PARAM_READ (R23, R177, R183, R184).
-/

namespace Sys2Proof.Machine

variable {s : State} {p : Payload} {i : ParamId}

theorem exec_paramSet_of_six (h : s.Receptive) (hp : p.length = 6) :
    exec (.paramSet p) s = .next (answer 0x05 (paramSet p s) s) := by
  rw [exec_paramSet h, within_of_le (by omega)]

theorem paramSet_of_none (hp : p.length = 6) (hi : ParamId.ofNumber? (u16 p 0) = none) : paramSet p s = badField 0 := by
  simp only [paramSet, hp, hi, ne_eq, not_true_eq_false, if_false]

theorem paramSet_of_out (hp : p.length = 6) (hi : ParamId.ofNumber? (u16 p 0) = some i) (ha : i.admits (u32 p 2) = false) :
    paramSet p s = badField 1 := by
  simp only [paramSet, hp, hi, ha, ne_eq, not_true_eq_false, if_false, Bool.not_false, if_true]

theorem paramSet_of_admits (hp : p.length = 6) (hi : ParamId.ofNumber? (u16 p 0) = some i) (ha : i.admits (u32 p 2) = true) :
    paramSet p s = okay (storeParam i (u32 p 2) s) (le 2 (u16 p 0) ++ le 4 (u32 p 2)) := by
  simp only [paramSet, hp, hi, ha, ne_eq, not_true_eq_false, if_false, Bool.not_true, Bool.false_eq_true]

theorem exec_paramRead_of_two (h : s.Receptive) (hp : p.length = 2) :
    exec (.paramRead p) s = .next (answer 0x06 (paramRead p s) s) := by
  rw [exec_paramRead h, within_of_le (by omega)]

theorem paramRead_of_none (hp : p.length = 2) (hi : ParamId.ofNumber? (u16 p 0) = none) : paramRead p s = badField 0 := by
  simp only [paramRead, hp, hi, ne_eq, not_true_eq_false, if_false]

theorem paramRead_of_some (hp : p.length = 2) (hi : ParamId.ofNumber? (u16 p 0) = some i) :
    paramRead p s = okay s (le 2 (u16 p 0) ++ le 4 (s.params.read i)) := by
  simp only [paramRead, hp, hi, ne_eq, not_true_eq_false, if_false]

/-- A parameter that is no severity is stored, and that is all. -/
theorem storeParam_of_ne (v : Nat) (h : ∀ k : FaultKind, i ≠ .faultSeverity k) :
    storeParam i v s = { s with params := s.params.write v i } := by
  cases i with
  | faultSeverity k => exact absurd rfl (h k)
  | _ => rfl

theorem storeParam_params (i : ParamId) (v : Nat) (s : State) : (storeParam i v s).params = s.params.write v i := by
  unfold storeParam
  split <;> simp

theorem storeParam_eq (i : ParamId) (v : Nat) (s : State) :
    let t := storeParam i v s
    t = { s with params := t.params, port := t.port, printers := t.printers, callout := t.callout } := by
  apply State.eq_of_fields <;> simp

/-- A severity is stored, and the printers where its kind is CONFIRMED are reconciled. -/
theorem storeParam_severity (k : FaultKind) (v : Nat) (s : State) :
    storeParam (.faultSeverity k) v s
      = reconcileAll (Table.keys (s.printers.filter fun e => e.2.filters.at k == .confirmed))
          { s with params := s.params.write v (.faultSeverity k) } := rfl

/-- Settles O7: the stored value by the parameter's own write and read, the reconciliation by what it does to each printer named. -/
theorem paramSetAndReadKeepTheValue : Obligations.ParamSetAndReadKeepTheValue := by
  refine ⟨fun s p hs hp => ⟨fun hi => ?unknown, fun i hi => ⟨fun ha => ?out, fun ha => ?stored⟩⟩,
    fun s p hs hp => ⟨fun i hi => ?read, fun hi => ?readUnknown, by decide⟩⟩
  case unknown => rw [exec_paramSet_of_six hs hp, paramSet_of_none hp hi, answer_badField]; rfl
  case out => rw [exec_paramSet_of_six hs hp, paramSet_of_out hp hi ha, answer_badField]; rfl
  case stored =>
    refine ⟨storeParam i (u32 p 2) s, ?_, ?_, fun j hj => ?_, storeParam_eq i _ s, fun hne => ?_, ?_⟩
    · rw [exec_paramSet_of_six hs hp, paramSet_of_admits hp hi ha, answer_okay]
    · rw [storeParam_params, Params.read_write_self _ ha]
    · rw [storeParam_params, Params.read_write_ne _ _ hj]
    · rw [storeParam_of_ne _ hne]
    · rintro k rfl
      refine ⟨by rw [storeParam_params, storeParam_severity], fun ht hk e he => ?_⟩
      have hsound : State.CalloutSound { s with params := s.params.write (u32 p 2) (.faultSeverity k) } 0 :=
        { (calloutSound_iff ht).1 hk with }
      rw [storeParam_severity]
      exact (place_reconcileAll hsound _ e.1).1 (List.mem_map_of_mem he)
  case read => rw [exec_paramRead_of_two hs hp, paramRead_of_some hp hi, answer_okay]
  case readUnknown => rw [exec_paramRead_of_two hs hp, paramRead_of_none hp hi, answer_badField]; rfl

end Sys2Proof.Machine
end

section
/-!
PROOFS. The clocks (R157 to R165): TIME_SET and its table of cases, the second event, the CLKIN period, and the day boundary.
-/

namespace Sys2Proof.Machine

variable {s : State} {p : Payload}

/-! ### Sweep requests (R164, R165) -/

section

variable {t : TimeBase} {n l : Day}

theorem requestSweep_of_idle (h : t.sweep = none) : requestSweep t = startSweep t := by simp only [requestSweep, h]

theorem requestSweep_of_sweeping (h : t.sweep.isSome = true) : requestSweep t = { t with queued := true } := by
  obtain ⟨w, hw⟩ := Option.isSome_iff_exists.1 h
  simp only [requestSweep, hw]

/-- The day number lies ahead of the last swept day, and is not today's (R162). -/
def aheadOf (n day l : Day) : Bool := n != day && 1 ≤ (n - l).toNat && (n - l).toNat ≤ 32767

theorem aheadOf_iff {day : Day} : aheadOf n day l = true ↔ n ≠ day ∧ 1 ≤ dayDiff n l ∧ dayDiff n l ≤ 32767 := by
  simp [aheadOf, dayDiff, and_assoc]

theorem setDay_of_none (h : t.lastSwept = none) : setDay n t = ({ t with day := n, lastSwept := some n }, false) := by
  simp only [setDay, h]

theorem setDay_of_same (h : t.lastSwept = some l) (hn : n = t.day) : setDay n t = (t, false) := by
  simp only [setDay, h, hn, if_true]

theorem setDay_of_ahead (h : t.lastSwept = some l) (hn : aheadOf n t.day l = true) :
    setDay n t = (requestSweep { t with day := n }, true) := by
  obtain ⟨hne, hrange⟩ := aheadOf_iff.1 hn
  simp only [setDay, h, hne, if_false, if_pos hrange]

theorem setDay_of_other (h : t.lastSwept = some l) (hn : n ≠ t.day) (ha : aheadOf n t.day l = false) :
    setDay n t = ({ t with day := n, lastSwept := some n, queued := false }, false) := by
  have hrange : ¬ (1 ≤ dayDiff n l ∧ dayDiff n l ≤ 32767) := fun hr => by simp [aheadOf_iff.2 ⟨hn, hr⟩] at ha
  simp only [setDay, h, hn, if_false, if_neg hrange]

end

/-! ### TIME_SET (R161, R162) -/

theorem exec_timeSet_of_eight (h : s.Receptive) (hp : p.length = 8) :
    exec (.timeSet p) s = .next (answer 0x09 (timeSet p s) s) := by
  rw [exec_timeSet h, within_of_le (by omega)]

/-- The Time Base and the sweep request of an accepted TIME_SET before its divider and its mode. -/
def dayWork (p : Payload) (t : TimeBase) : TimeBase × Bool :=
  if flagAt p 1 then setDay (BitVec.ofNat 16 (u16 p 6)) { t with building := word p 2 } else (t, false)

/-- The Time Base after an accepted TIME_SET. -/
def timeAfterSet (p : Payload) (t : TimeBase) : TimeBase :=
  { (dayWork p t).1 with divider := 0, mode := timeModeOf (byteAt p 0) }

theorem timeSet_of_mode (hp : p.length = 8) (h : byteAt p 0 ≤ 1) :
    timeSet p s = okay { s with time := timeAfterSet p s.time }
      (le 2 (timeAfterSet p s.time).day.toNat ++ lastSweptField (timeAfterSet p s.time) ++ sweepStateField (timeAfterSet p s.time)
        ++ flag (dayWork p s.time).2 ++ flag (timeAfterSet p s.time).queued) := by
  rw [timeSet, if_neg (not_not.2 hp), if_neg (Nat.not_lt.2 h)]
  rfl

theorem setDay_asked (n : Day) (t : TimeBase) : (setDay n t).2 = t.lastSwept.any (aheadOf n t.day) := by
  cases hl : t.lastSwept with
  | none => rw [setDay_of_none hl]; rfl
  | some l =>
    rw [Option.any_some]
    cases ha : aheadOf n t.day l with
    | true => rw [setDay_of_ahead hl ha]
    | false =>
      by_cases hn : n = t.day
      · rw [setDay_of_same hl hn]
      · rw [setDay_of_other hl hn ha]

/-- A day number that requests no sweep leaves the sweep as it is. -/
theorem setDay_of_unasked {n : Day} {t : TimeBase} (h : t.lastSwept.any (aheadOf n t.day) = false) :
    (setDay n t).1.sweep = t.sweep ∧ (setDay n t).1.span = t.span ∧ (setDay n t).1.opening = t.opening
    ∧ (setDay n t).1.closing = t.closing := by
  cases hl : t.lastSwept with
  | none => rw [setDay_of_none hl]; exact ⟨rfl, rfl, rfl, rfl⟩
  | some l =>
    rw [hl, Option.any_some] at h
    by_cases hn : n = t.day
    · rw [setDay_of_same hl hn]; exact ⟨rfl, rfl, rfl, rfl⟩
    · rw [setDay_of_other hl hn h]; exact ⟨rfl, rfl, rfl, rfl⟩

theorem sweepSpan_of_ahead {n day l : Day} (h : aheadOf n day l = true) : sweepSpan n l = min 255 (n - l).toNat := by
  obtain ⟨-, hpos, -⟩ := aheadOf_iff.1 h
  unfold dayDiff at hpos
  unfold sweepSpan dayDiff
  omega

/-- A sweep request keeps the clocks. -/
theorem requestSweep_clocks (t : TimeBase) :
    (requestSweep t).runSeconds = t.runSeconds ∧ (requestSweep t).building = t.building ∧ (requestSweep t).day = t.day
    ∧ (requestSweep t).mode = t.mode ∧ (requestSweep t).divider = t.divider := by
  unfold requestSweep
  split <;> exact ⟨rfl, rfl, rfl, rfl, rfl⟩

theorem setDay_clocks (n : Day) (t : TimeBase) :
    (setDay n t).1.runSeconds = t.runSeconds ∧ (setDay n t).1.building = t.building ∧ (setDay n t).1.day = n := by
  cases hl : t.lastSwept with
  | none => rw [setDay_of_none hl]; exact ⟨rfl, rfl, rfl⟩
  | some l =>
    cases ha : aheadOf n t.day l with
    | true =>
      obtain ⟨hr, hb, hd, -⟩ := requestSweep_clocks { t with day := n }
      rw [setDay_of_ahead hl ha]
      exact ⟨hr, hb, hd⟩
    | false =>
      by_cases hn : n = t.day
      · rw [setDay_of_same hl hn]; exact ⟨rfl, rfl, hn.symm⟩
      · rw [setDay_of_other hl hn ha]; exact ⟨rfl, rfl, rfl⟩

/-- Settles O12: the Time Base after the request by the table of R162, one case of the table at a time. -/
theorem timeSetFollowsTheDayTable : Obligations.TimeSetFollowsTheDayTable := by
  refine fun s p hs hp => ⟨fun h => ?bad, fun h => ?set⟩
  case bad =>
    rw [exec_timeSet_of_eight hs hp, timeSet, if_neg (not_not.2 hp), if_pos h, answer_badField]
    rfl
  case set =>
    intro n asked
    have hset (hf : flagAt p 1 = true) : dayWork p s.time = setDay n { s.time with building := word p 2 } := by
      rw [dayWork, if_pos hf]
    have hwait (hf : flagAt p 1 = false) : dayWork p s.time = (s.time, false) := by rw [dayWork, if_neg (by simp [hf])]
    have hasked : (dayWork p s.time).2 = asked := by
      cases hf : flagAt p 1 with
      | false => rw [hwait hf]; simp [asked, hf]
      | true => rw [hset hf, setDay_asked]; simp only [asked, hf, Bool.true_and]; rfl
    refine ⟨answeredOk 0x09 _ { s with time := timeAfterSet p s.time }, by
      rw [exec_timeSet_of_eight hs hp, timeSet_of_mode hp h, answer_okay, hasked], rfl, rfl, rfl, rfl, ?run, fun hf => ?noDay,
      fun hf => ?day⟩
    case run =>
      show (dayWork p s.time).1.runSeconds = _
      cases hf : flagAt p 1 with
      | false => rw [hwait hf]
      | true => rw [hset hf]; exact (setDay_clocks n _).1
    case noDay =>
      show timeAfterSet p s.time = _
      rw [timeAfterSet, hwait hf]
      rfl
    case day =>
      have hwork : timeAfterSet p s.time
          = { (setDay n { s.time with building := word p 2 }).1 with divider := 0, mode := timeModeOf (byteAt p 0) } := by
        rw [timeAfterSet, hset hf]
      have hany : asked = s.time.lastSwept.any (aheadOf n s.time.day) := by
        simp only [asked, hf, Bool.true_and]; rfl
      obtain ⟨-, hb, hd⟩ := setDay_clocks n { s.time with building := word p 2 }
      generalize timeAfterSet p s.time = T at hwork ⊢
      refine ⟨by rw [hwork]; exact hb, by rw [hwork]; exact hd, fun hl => ?none, fun ha => ?unasked, fun l hl => ?some⟩
      case none =>
        show T.lastSwept = _
        rw [hwork, setDay_of_none (by exact hl)]
      case unasked =>
        show T.sweep = _ ∧ T.span = _ ∧ T.opening = _ ∧ T.closing = _
        rw [hwork]
        exact setDay_of_unasked (by rw [← ha, hany])
      case some =>
        have hB : ({ s.time with building := word p 2 } : TimeBase).lastSwept = some l := hl
        have hahead : asked = aheadOf n s.time.day l := by rw [hany, hl, Option.any_some]
        refine ⟨fun hn => ?_, fun hn ha => ?_, fun ha hsw => ?_, fun ha hsw => ?_⟩
        · show T.lastSwept = _ ∧ T.queued = _
          rw [hwork, setDay_of_same hB hn]
          exact ⟨hl, rfl⟩
        · show T.lastSwept = _ ∧ T.queued = _
          rw [hwork, setDay_of_other hB hn (hahead ▸ ha)]
          exact ⟨rfl, rfl⟩
        · show T = { s.time with mode := T.mode, divider := 0, building := word p 2, day := n, queued := true }
          rw [hwork, setDay_of_ahead hB (hahead ▸ ha), requestSweep_of_sweeping (by exact hsw)]
        · have hstart : T = { startSweep { s.time with building := word p 2, day := n } with
              divider := 0, mode := timeModeOf (byteAt p 0) } := by
            rw [hwork, setDay_of_ahead hB (hahead ▸ ha), requestSweep_of_idle (by exact hsw)]
          have hspan : sweepSpan n (s.time.lastSwept.getD n) = min 255 (n - l).toNat := by
            rw [hl, Option.getD_some, sweepSpan_of_ahead (hahead ▸ ha)]
          show T.sweep = _ ∧ T.opening = _ ∧ T.closing = _
            ∧ T.span = _ ∧ T.lastSwept = _ ∧ T.queued = _
          rw [hstart]
          exact ⟨rfl, rfl, rfl, hspan, rfl, rfl⟩

end Sys2Proof.Machine
end

section
/-!
PROOFS. The second event (R28, R158 to R160): the clocks and the timers that fall due, one CLKIN period of the line and of the Time
Base (R117), and the day boundary (R164, R165).
-/

namespace Sys2Proof.Machine

variable {s : State}

/-! ### The timers that fall due -/

theorem mem_dueTimers_tick (n : Nat) : .tick n ∈ dueTimers s ↔ 1 ≤ n ∧ n ≤ 7 ∧ s.tickDue n = true := by
  have hboundary : .tick n ∉ (if s.boundaryDue then [Timer.dayBoundary] else []) := by split <;> simp
  simp only [dueTimers, List.mem_append, hboundary, List.mem_map, List.mem_filter, List.mem_range'_1, Timer.tick.injEq,
    exists_eq_right, List.mem_cons, reduceCtorEq, List.not_mem_nil, or_false, false_or]
  rw [show n < 1 + 7 ↔ n ≤ 7 from Nat.lt_succ_iff, and_assoc]

theorem mem_dueTimers_dayBoundary : .dayBoundary ∈ dueTimers s ↔ s.boundaryDue = true := by
  cases h : s.boundaryDue <;> simp [dueTimers, h]

theorem mem_dueTimers_always {u : Timer} (h : u ∈ [Timer.takeTimeout, .silence, .escalation, .abandonment, .holdExpiry, .quiet]) :
    u ∈ dueTimers s := by
  simp only [List.mem_cons, List.not_mem_nil, or_false] at h
  obtain rfl | rfl | rfl | rfl | rfl | rfl := h <;> simp [dueTimers]

theorem exec_secondEvent_of_held (hs : s.Settled) (h : s.time.mode = .held) : exec .secondEvent s = .next s := by
  rw [exec_secondEvent hs, secondEventEffect, if_neg (by simp [h])]

theorem exec_secondEvent_of_running (hs : s.Settled) (h : s.time.mode = .running) :
    exec .secondEvent s = .next (beginSecond s) := by
  rw [exec_secondEvent hs, secondEventEffect, if_pos h]

/-! ### A CLKIN period (R117, R158) -/

theorem Exchange.period_eq (ex : Exchange) :
    ex.period = { ex with sending := ex.sending.bind fun k => if ex.pollPeriods ≤ k + 1 then none else some (k + 1) } := by
  unfold Exchange.period
  cases h : ex.sending with
  | none => cases ex; cases h; rfl
  | some k => rfl

theorem Exchange.pollPeriods_eq (ex : Exchange) : ex.pollPeriods = ex.frame.length * (10 * ex.rate.bitPeriods) := by
  rw [Exchange.pollPeriods, length_lineBits, Nat.mul_comm 10, Nat.mul_assoc]

theorem step_of_idle (hs : s.Settled) (h : s.pending = []) : step s = .next (clockPeriod s) := by
  simp only [step, h, idle, asEvent_of_settled hs]

theorem State.de_eq_transmitting (h : s.inReset = false) : s.de = s.line.transmitting := by
  rw [State.de, h, Bool.not_false, Bool.and_true]

/-- Without a poll in transmission a period of the line changes nothing. -/
theorem linePeriod_of_silent (h : s.line.transmitting = false) : linePeriod s = s := by
  have hline : s.line.exchange.map Exchange.period = s.line.exchange := by
    cases hex : s.line.exchange with
    | none => rfl
    | some ex =>
      have hsend : ex.sending = none := by simpa [Line.transmitting, hex] using h
      rw [Option.map_some, Exchange.period, hsend]
  rw [linePeriod, hline]

/-- Settles O13: the timers due by the clocks; a period by the line's part and the divider's. -/
theorem secondEventAdvancesTheClocks : Obligations.SecondEventAdvancesTheClocks := by
  refine ⟨fun s hs => ⟨exec_secondEvent_of_held hs, fun h => ?second⟩, fun s hs hq => ?period⟩
  case second =>
    refine ⟨beginSecond s, exec_secondEvent_of_running hs h, rfl, rfl, rfl, ?_, fun n _ => ?_, fun u => mem_dueTimers_always⟩
    · exact mem_dueTimers_dayBoundary.trans (by simp [State.boundaryDue]; rfl)
    · exact (mem_dueTimers_tick n).trans (by rw [State.tickDue, beq_iff_eq]; rfl)
  case period =>
    intro bitTime ended u
    have hbit (r : LineRate) : bitTime r = r.bitPeriods := by cases r <;> rfl
    have hended (ex : Exchange) (k : Nat) : ended ex k ↔ ex.pollPeriods ≤ k + 1 := by
      rw [Exchange.pollPeriods_eq, ← hbit]
    have hu : u = linePeriod s := by
      have hperiod (ex : Exchange) : ex.period
          = { ex with sending := ex.sending.bind fun k => if ended ex k then none else some (k + 1) } := by
        rw [Exchange.period_eq]
        simp only [hended]
      simp only [u, linePeriod, ← hperiod]
    have hsu : u.Settled := hu ▸ hs
    rw [step_of_idle hs hq, clockPeriod, ← hu]
    refine ⟨fun h => ?_, fun h hlt => ?_, fun h hle => ?_, fun h => ?_, fun ex hex k hk => ?_⟩
    · have hm : ¬ u.time.mode = .running := by simp [u, h]
      rw [dividerPeriod, if_neg hm]
    · have hm : u.time.mode = .running := h
      have hd : ¬ u.params.tickDivisor ≤ u.time.divider + 1 := Nat.not_le.2 hlt
      rw [dividerPeriod, if_pos hm, if_neg hd]
    · have hm : u.time.mode = .running := h
      have hd : u.params.tickDivisor ≤ u.time.divider + 1 := hle
      rw [dividerPeriod, if_pos hm, if_pos hd, exec_secondEvent_of_running hsu hm]
    · rw [hu, linePeriod_of_silent]
      rwa [← State.de_eq_transmitting hs.1]
    · have hex : s.line.exchange = some ex := hex
      have hk : ex.sending = some k := hk
      rw [State.de_eq_transmitting hs.1, State.de_eq_transmitting hsu.1]
      refine ⟨by simp [Line.transmitting, hex, hk], ?_⟩
      by_cases he : ended ex k <;> simp [Line.transmitting, u, hex, hk, he]

/-! ### The day boundary (R160, R164, R165) -/

/-- A due timer that judges no fault kind runs, and is taken off. -/
theorem passTimer_of_not_judges {t : Timer} (h : t.judges = false) (s : State) : passTimer s t = closeTimer t (runTimer t s) := by
  simp [passTimer, h]

/-- The row of a due timer that no other must precede and that judges no fault kind. -/
theorem exec_of_plain_timer {c : Instr} {t : Timer} (hc : c.timer? = some t) (h : s.TimerDue t)
    (hb : ∀ u ∈ s.second.due, u.before t = false) (hj : t.judges = false) :
    exec c s = .next (closeTimer t (runTimer t s)) := by
  rw [exec_of_timer hc, timerRow_of_due h hb, passTimer_of_not_judges hj]

theorem Timer.before_of_plain {t : Timer} (ht : t ≠ .escalation) (hn : ∀ n, t ≠ .tick n) (u : Timer) : u.before t = false :=
  Timer.before_false ht (.inr hn)

theorem dayBoundaryEffect_of_none (h : s.time.lastSwept = none) :
    dayBoundaryEffect s = { s with time := { s.time with day := s.time.day + 1, lastSwept := some (s.time.day + 1) } } := by
  simp only [dayBoundaryEffect, h]

theorem dayBoundaryEffect_of_some {l : Day} (h : s.time.lastSwept = some l) :
    dayBoundaryEffect s = { s with time := requestSweep { s.time with day := s.time.day + 1 } } := by
  simp only [dayBoundaryEffect, h]

theorem dayBoundaryEffect_clocks (s : State) :
    let t := (dayBoundaryEffect s).time
    t.day = s.time.day + 1 ∧ t.runSeconds = s.time.runSeconds ∧ t.building = s.time.building ∧ t.mode = s.time.mode
    ∧ t.divider = s.time.divider := by
  cases h : s.time.lastSwept with
  | none => rw [dayBoundaryEffect_of_none h]; exact ⟨rfl, rfl, rfl, rfl, rfl⟩
  | some l =>
    rw [dayBoundaryEffect_of_some h]
    obtain ⟨hr, hb, hd, hm, hv⟩ := requestSweep_clocks { s.time with day := s.time.day + 1 }
    exact ⟨hd, hr, hb, hm, hv⟩

/-- Settles O14: the day number rises, and a sweep is requested exactly with a last swept day. -/
theorem dayBoundaryRequestsASweep : Obligations.DayBoundaryRequestsASweep := by
  intro s hdue
  obtain ⟨hd, hr, hb, hm, hv⟩ := dayBoundaryEffect_clocks s
  refine ⟨closeTimer .dayBoundary (dayBoundaryEffect s),
    exec_of_plain_timer rfl hdue (fun u _ => Timer.before_of_plain (by simp) (by simp) u) rfl, rfl, rfl, hd, hr, hb, hm, hv,
    fun hl => ?_, fun l hl => ⟨fun hsw => ?_, fun hsw => ?_⟩⟩
  · rw [closeTimer_time, dayBoundaryEffect_of_none hl]
  · rw [closeTimer_time, dayBoundaryEffect_of_some hl]
    exact requestSweep_of_sweeping hsw
  · have hspan : s.time.lastSwept.getD (s.time.day + 1) = l := by rw [Option.mem_def.1 hl, Option.getD_some]
    rw [closeTimer_time, dayBoundaryEffect_of_some hl, requestSweep_of_idle (by exact hsw)]
    refine ⟨rfl, rfl, BitVec.add_sub_cancel _ _, rfl, rfl, ?_⟩
    rw [← hspan]
    rfl

end Sys2Proof.Machine
end

section
/-!
PROOFS. The timers of tickets, of the quiet line and of RELEASING jobs (R34, R123, R148): escalation, QUIET_TIMEOUT and TAKE_TIMEOUT.
-/

namespace Sys2Proof.Machine

variable {s t : State}

/-! ### ESCALATION and QUIET_TIMEOUT (R34, R123) -/

theorem State.escInterval_eq (s : State) (v : Nat) :
    s.escInterval v = if v = 1 then s.params.escInterval1 else if v = 2 then s.params.escInterval2
      else if v = 3 then s.params.escInterval3 else s.params.escInterval4 := by
  match v with
  | 0 | 1 | 2 | 3 => rfl
  | n + 4 => simp [State.escInterval]

theorem State.escalates_iff {k : Ticket} :
    s.escalates k = true ↔ k.state = .raised ∧ k.level < 3
      ∧ 60 * s.escInterval k.severity ≤ (s.time.runSeconds - k.point).toNat := by
  simp only [State.escalates, Bool.and_eq_true, beq_iff_eq, decide_eq_true_eq, and_assoc]
  rfl

theorem hasCause_escalations (s : State) (c : Cause) :
    (escalations s).hasCause c
      = (s.hasCause c || ((s.callout.tickets.any fun e => s.escalates e.2) && decide (c = .calloutEscalated))) := by
  rw [escalations, hasCause_setCauseIf]
  rfl

theorem hasCause_of_port (h : t.port = s.port) (c : Cause) : t.hasCause c = s.hasCause c := by rw [State.hasCause, h, State.hasCause]

/-- Settles O17: each due ticket rises and no other; the line becomes SPARSE exactly when it has been quiet. -/
theorem escalationAndQuietTimerAct : Obligations.EscalationAndQuietTimerAct := by
  refine ⟨fun s hdue hfirst => ?escalation, fun s hdue => ?quiet⟩
  case escalation =>
    intro interval due
    have hiff (k : Ticket) : s.escalates k = true ↔ due k := by
      rw [State.escalates_iff, State.escInterval_eq]
    refine ⟨closeTimer .escalation (escalations s), exec_of_plain_timer rfl hdue hfirst rfl, ?_, ?_, ?_, fun n _ k hk => ?_, ?_⟩
    · apply State.eq_of_fields <;> simp
    · rw [closeTimer_callout, tickets_escalations, Table.keys_map]
    · simp [escalations]
    · refine ⟨s.escalated k, ?_, fun h => ?_, fun h => ?_⟩
      · rw [closeTimer_callout, tickets_escalations]
        exact (Table.get?_view s.escalated _ n).trans (by rw [Option.mem_def.1 hk, Option.map_some])
      · rw [State.escalated, if_pos ((hiff k).2 h)]
        rfl
      · rw [State.escalated, if_neg (mt (hiff k).1 h)]
    · rw [hasCause_of_port (closeTimer_port _ _), hasCause_escalations]
      simp only [Bool.or_eq_true, Bool.and_eq_true, List.any_eq_true, hiff, decide_true, and_true]
  case quiet =>
    intro quiet
    refine ⟨closeTimer .quiet (quietTimer s),
      exec_of_plain_timer rfl hdue (fun u _ => Timer.before_of_plain (by simp) (by simp) u) rfl, ?_, fun h => ?_, fun h => ?_⟩
    · unfold quietTimer
      split <;> rfl
    · rw [closeTimer_line, quietTimer, if_pos (by exact h)]
    · rw [closeTimer_line, quietTimer, if_neg (by exact h)]

/-! ### TAKE_TIMEOUT (R148) -/

/-- The place of an insertion: behind the leading numbers that are not newer. -/
theorem insertBefore_split (newer : Nat → Bool) (n : Nat) (l : List Nat) :
    ∃ front back : List Nat, l = front ++ back ∧ insertBefore newer n l = front ++ n :: back
      ∧ (∀ m ∈ front, newer m = false) ∧ ∀ m ∈ back.head?, newer m = true := by
  induction l with
  | nil => exact ⟨[], [], rfl, rfl, by simp, by simp⟩
  | cons m l ih =>
    cases hm : newer m with
    | true => exact ⟨[], m :: l, rfl, by simp [insertBefore, hm], by simp, by simpa using hm⟩
    | false =>
      obtain ⟨front, back, rfl, hins, hfront, hback⟩ := ih
      exact ⟨m :: front, back, rfl, by simp [insertBefore, hm, hins], List.forall_mem_cons.2 ⟨hm, hfront⟩, hback⟩

theorem takeWhile_congr_of_mem {α : Type} {p q : α → Bool} {l : List α} (h : ∀ x ∈ l, p x = q x) : l.takeWhile p = l.takeWhile q := by
  induction l with
  | nil => rfl
  | cons x l ih =>
    obtain ⟨hx, hl⟩ := List.forall_mem_cons.1 h
    rw [List.takeWhile_cons, List.takeWhile_cons, hx, ih hl]

/-- Of a list without repetitions, what is not in its front is the rest. -/
theorem filter_not_mem_front {α : Type} [DecidableEq α] {front rest : List α} (h : (front ++ rest).Nodup) :
    (front ++ rest).filter (fun x => x ∉ front) = rest := by
  obtain ⟨-, -, hdis⟩ := List.nodup_append.1 h
  rw [List.filter_append, List.filter_eq_nil_iff.2 (by simp), List.nil_append]
  exact List.filter_eq_self.2 fun x hx => decide_eq_true fun hf => hdis x hf x hx rfl

theorem mem_foldl_insertBefore {newer : Nat → Nat → Bool} {ns l : List Nat} {n : Nat} (h : n ∈ ns ∨ n ∈ l) :
    n ∈ ns.foldl (fun l n => insertBefore (newer n) n l) l := by
  induction ns generalizing l with
  | nil => simpa using h
  | cons m ns ih =>
    refine ih ?_
    rw [mem_insertBefore, ← or_assoc, or_comm (a := n ∈ ns), or_assoc, or_comm (a := n ∈ ns)]
    obtain h | h := h
    · obtain rfl | h := List.mem_cons.1 h
      · exact .inl rfl
      · exact .inr (.inr h)
    · exact .inr (.inl h)

/-- The accounts and the groups but for their reserved amounts. -/
def Bank.unreserved (b : Bank) : Table Account × Table BudgetGroup :=
  (b.accounts.map fun e => (e.1, { e.2 with reserved := 0 }), b.groups.map fun e => (e.1, { e.2 with reserved := 0 }))

/-- A settlement at cost 0 changes reserved amounts alone, with balances in their range. -/
theorem unreserved_settle_zero (n : Nat) (r : ReleaseInfo) (h : ∀ e ∈ s.bank.accounts, Config.balanceMin ≤ e.2.balance) :
    (settle n r 0 s).bank.unreserved = s.bank.unreserved := by
  cases ha : s.bank.accounts.get? n with
  | none => simp only [settle, ha]
  | some a =>
    rw [settle_of_get? ha]
    refine Prod.ext ?_ ?_
    · refine (List.map_map ..).trans (List.map_congr_left fun e he => ?_)
      by_cases hn : e.1 = n <;> simp [hn, accountCharge, h e he]
    · refine (List.map_map ..).trans (List.map_congr_left fun e _ => ?_)
      by_cases hn : e.1 = a.group <;> simp [hn, poolCharge, accountCharge]

theorem balances_of_unreserved {b c : Bank} (h : b.unreserved = c.unreserved) (hc : ∀ e ∈ c.accounts, Config.balanceMin ≤ e.2.balance) :
    ∀ e ∈ b.accounts, Config.balanceMin ≤ e.2.balance := by
  intro e he
  have hmem : ((e.1, { e.2 with reserved := 0 }) : Nat × Account) ∈ c.unreserved.1 :=
    h ▸ List.mem_map_of_mem (f := fun e : Nat × Account => (e.1, { e.2 with reserved := 0 })) he
  obtain ⟨d, hd, heq⟩ := List.mem_map.1 hmem
  have hbal := congrArg (fun x : Nat × Account => x.2.balance) heq
  exact (hc d hd).trans_eq hbal

theorem unreserved_foldl_unreserve (ns : List Nat) (h : ∀ e ∈ s.bank.accounts, Config.balanceMin ≤ e.2.balance) :
    (ns.foldl s.unreserve s).bank.unreserved = s.bank.unreserved := by
  refine foldl_preserves (P := fun u : State => u.bank.unreserved = s.bank.unreserved) (fun u n hu => ?_) ns rfl
  unfold State.unreserve
  cases hj : (s.jobAt n).bind fun j => j.phase.info?.map fun r => settle j.owner r 0 u with
  | none => exact hu
  | some v =>
    obtain ⟨j, -, hv⟩ := Option.bind_eq_some_iff.1 hj
    obtain ⟨r, -, rfl⟩ := Option.map_eq_some_iff.1 hv
    exact (unreserved_settle_zero j.owner r (balances_of_unreserved hu h)).trans hu

/-- The order of submission that a command keeps. -/
theorem submissionOrderKept_of_exec {c : Instr} (hj : JobOrdersSound s) (ho : SubmissionOrderKept s) (hn : SequencesNear s)
    (h : exec c s = .next t) : SubmissionOrderKept t := by
  obtain ⟨hrec, hexp⟩ := ho
  obtain ⟨u, hu, he⟩ := exec_event c s
  obtain rfl : u = t := Host.Outcome.next.inj (hu.symm.trans h)
  have hs : s.InSequence := ⟨jobOrdersSound_iff.1 hj, hn, hrec, hexp⟩
  exact hs.event he

theorem State.ReturnedUncharged.of_fields {u : State} {ns : List Nat} (h : s.ReturnedUncharged u ns) (hs : t.store = u.store)
    (hr : t.release = u.release) (hb : t.bank = u.bank) (hp : t.port = u.port) : s.ReturnedUncharged t ns := by
  obtain ⟨hstore, hrelease, hbank, hcause⟩ := h
  exact ⟨hs.trans hstore, hr.trans hrelease, hb.trans hbank, by rw [hasCause_of_port hp]; exact hcause⟩

/-- Settles O18: the due head of the dispatch order returns as `JobsSound.returnAll` says. -/
theorem takeTimeoutReturnsJobsUncharged : Obligations.TakeTimeoutReturnsJobsUncharged := by
  refine ⟨fun s hdue hj hb => ?_, insertBefore_split⟩
  intro due ns
  have hsound : s.JobsSound := jobOrdersSound_iff.1 hj
  have hns : s.release.dispatch.takeWhile s.takeDue = ns := by
    refine takeWhile_congr_of_mem fun n hn => ?_
    obtain ⟨j, hjn, r, hr⟩ := hsound.releasing_of_mem hn
    simp only [State.takeDue, due, hjn, hr, JobPhase.info?, Option.any_some]
    rfl
  have hsub : ns.Sublist s.release.dispatch := List.takeWhile_sublist _
  have hback : s.ReturnedUncharged (returnAll ns s) ns := hsound.returnAll hsub
  have hrun : runTimer .takeTimeout s = noteReturned ns (returnAll ns s) := by
    show takeTimeouts s = _
    rw [takeTimeouts, hns]
  have hexec : exec .takeTimeout s = .next (closeTimer .takeTimeout (noteReturned ns (returnAll ns s))) := by
    rw [exec_of_plain_timer rfl hdue (fun u _ => Timer.before_of_plain (by simp) (by simp) u) rfl, hrun]
  obtain ⟨hstore, hrelease, hbank, -⟩ := hsound.returnAll hsub
  have hnd : (ns ++ s.release.dispatch.dropWhile due).Nodup := by
    rw [List.takeWhile_append_dropWhile]
    exact hsound.dispatch_nodup
  have hunres : (returnAll ns s).bank.unreserved = s.bank.unreserved := by
    rw [hbank]
    exact unreserved_foldl_unreserve ns fun e he => (hb.1 e he).2.2.1
  have hdisp : s.release.dispatch.filter (fun n => n ∉ ns) = s.release.dispatch.dropWhile due := by
    have h := filter_not_mem_front hnd
    rwa [List.takeWhile_append_dropWhile] at h
  refine ⟨_, hexec, ?_, ?_, State.ReturnedUncharged.of_fields hback rfl rfl rfl rfl, fun n hn => ?_,
    fun ho hn => submissionOrderKept_of_exec hj ho hn hexec, congrArg Prod.fst hunres, congrArg Prod.snd hunres, ?_, fun hne => ?_⟩
  · apply State.eq_of_fields <;> simp
  · rw [closeTimer_release]
    show _ = ns ++ (returnAll ns s).release.dispatch
    rw [hrelease, hdisp, List.takeWhile_append_dropWhile]
  · rw [closeTimer_store]
    show n ∈ (returnAll ns s).store.expiry
    rw [hstore]
    exact mem_foldl_insertBefore (.inl hn)
  · simp [closeTimer, noteReturned]
  · have hne' : (s.second.due.erase .takeTimeout).isEmpty = false := by simpa [closeTimer, noteReturned] using hne
    simp [closeTimer, noteReturned, hne']

end Sys2Proof.Machine
end

section
/-!
PROOFS. HOLD_EXPIRY and ABANDONMENT (R112, R153): which jobs retire, and what becomes of the Job Store, the printers and the accounts.
-/

namespace Sys2Proof.Machine

variable {s t : State}

/-! ### HOLD_EXPIRY (R112) -/

/-- The expiring jobs: of those not passed over, the leading ones that are due. -/
theorem expiring_eq (skip due : Nat → Bool) (l : List Nat) :
    expiring skip due l = (l.filter fun n => !skip n).takeWhile due := by
  induction l with
  | nil => rfl
  | cons n l ih =>
    cases hs : skip n with
    | true => simp [expiring, hs, ih]
    | false => cases hd : due n <;> simp [expiring, hs, hd, ih]

theorem expiry_retireJobs (hnd : s.store.expiry.Nodup) (ns : List Nat) :
    (retireJobs ns s).store.expiry = s.store.expiry.filter fun n => n ∉ ns := by
  unfold retireJobs
  induction ns generalizing s with
  | nil => simp
  | cons n ns ih =>
    have herase : (retireJob n s).store.expiry = s.store.expiry.filter (· != n) := by
      rw [retireJob_store]
      exact hnd.erase_eq_filter n
    rw [List.foldl_cons, ih (herase ▸ hnd.filter _), herase, List.filter_filter]
    refine List.filter_congr fun m _ => ?_
    by_cases hm : m = n <;> simp [hm]

/-- The retirement of jobs, in the Job Store. -/
theorem retireJobs_store (hnd : s.store.expiry.Nodup) (ns : List Nat) :
    (retireJobs ns s).store = { s.store with
      records := s.store.records.filter (fun j => !ns.contains j.number), expiry := s.store.expiry.filter (fun n => !ns.contains n) } := by
  have hrest : (retireJobs ns s).store.lastNumber = s.store.lastNumber ∧ (retireJobs ns s).store.nextSeq = s.store.nextSeq :=
    foldl_preserves (P := fun u : State => u.store.lastNumber = s.store.lastNumber ∧ u.store.nextSeq = s.store.nextSeq)
      (f := fun s n => retireJob n s) (fun _ _ h => h) ns ⟨rfl, rfl⟩
  obtain ⟨hlast, hseq⟩ := hrest
  have hrecords := records_retireJobs (s := s) ns
  have hexpiry := expiry_retireJobs hnd ns
  generalize (retireJobs ns s).store = st at *
  cases st
  simp only at hlast hseq hrecords hexpiry
  subst hlast hseq hrecords hexpiry
  simp

/-! ### ABANDONMENT (R153) -/

/-- What an abandonment charges. -/
def State.abandonCost (s : State) (r : ReleaseInfo) : Nat := if s.params.abandonCharge = 1 then r.cost else 0

theorem abandonJob_of_printing {j : Job} {r : ReleaseInfo} {w : Word} (h : j.phase = .printing r w) :
    abandonJob s j = retireJob j.number (updPrinter r.printer (fun p => { p with jobsAbandoned := p.jobsAbandoned + 1 })
      (settle j.owner r (s.abandonCost r) s)) := by
  simp only [abandonJob, h]
  rfl

/-- A job is PRINTING. -/
abbrev Job.Printing (j : Job) : Prop := ∃ r w, j.phase = .printing r w

theorem abandonJob_eq {j : Job} (h : j.Printing) :
    abandonJob s j = { s with store := (abandonJob s j).store, printers := (abandonJob s j).printers, bank := (abandonJob s j).bank } := by
  obtain ⟨r, w, hr⟩ := h
  rw [abandonJob_of_printing hr]
  apply State.eq_of_fields <;> simp

theorem retireJob_store_of_store {u v : State} (h : u.store = v.store) (n : Nat) : (retireJob n u).store = (retireJob n v).store := by
  simp only [retireJob_store, h]

section

variable {js : List Job} (hp : ∀ j ∈ js, j.Printing)
include hp

theorem foldl_abandonJob_eq (s : State) :
    let u := js.foldl abandonJob s
    u = { s with store := u.store, printers := u.printers, bank := u.bank } := by
  induction js generalizing s with
  | nil => rfl
  | cons j js ih =>
    obtain ⟨hj, hp⟩ := List.forall_mem_cons.1 hp
    have h := ih hp (abandonJob s j)
    dsimp only at h ⊢
    rw [List.foldl_cons, h, abandonJob_eq hj]

/-- The Job Store sees the abandoned jobs retire. -/
theorem store_foldl_abandonJob {u v : State} (h : u.store = v.store) :
    (js.foldl abandonJob u).store = (retireJobs (js.map Job.number) v).store := by
  induction js generalizing u v with
  | nil => exact h
  | cons j js ih =>
    obtain ⟨⟨r, w, hr⟩, hp⟩ := List.forall_mem_cons.1 hp
    refine ih hp ?_
    rw [abandonJob_of_printing hr]
    exact retireJob_store_of_store (by simpa using h) j.number

/-- The accounts see the abandoned jobs settled. -/
theorem bank_foldl_abandonJob {u v : State} (hb : u.bank = v.bank) (hc : u.params = s.params) :
    (js.foldl abandonJob u).bank
      = (js.foldl (fun u j => (j.phase.info?.map fun r => settle j.owner r (s.abandonCost r) u).getD u) v).bank := by
  induction js generalizing u v with
  | nil => exact hb
  | cons j js ih =>
    obtain ⟨⟨r, w, hr⟩, hp⟩ := List.forall_mem_cons.1 hp
    refine ih hp ?_ ?_
    · have hcost : u.abandonCost r = s.abandonCost r := by simp only [State.abandonCost, hc]
      have hinfo : j.phase.info? = some r := by rw [hr]; rfl
      rw [abandonJob_of_printing hr, hcost]
      dsimp only
      rw [hinfo]
      exact bank_settle_of_bank hb j.owner r _
    · rw [abandonJob_of_printing hr]
      simpa using hc

/-- A printer counts the jobs abandoned on it. -/
theorem get?_foldl_abandonJob (s : State) (q : Nat) :
    (js.foldl abandonJob s).printers.get? q = (s.printers.get? q).map fun pr => { pr with
      jobsAbandoned := pr.jobsAbandoned + BitVec.ofNat 32 (js.countP fun j => j.phase.info?.any fun r => r.printer == q) } := by
  have hcount (w : Word) (n : Nat) : w + 1 + BitVec.ofNat 32 n = w + BitVec.ofNat 32 (n + 1) := by
    rw [BitVec.ofNat_add, BitVec.add_comm (BitVec.ofNat 32 n), ← BitVec.add_assoc]
    rfl
  induction js generalizing s with
  | nil => simp
  | cons j js ih =>
    obtain ⟨⟨r, w, hr⟩, hp⟩ := List.forall_mem_cons.1 hp
    have hone : (abandonJob s j).printers = s.printers.modify r.printer fun p => { p with jobsAbandoned := p.jobsAbandoned + 1 } := by
      rw [abandonJob_of_printing hr]
      simp
    rw [List.foldl_cons, ih hp, hone, Table.get?_modify, List.countP_cons]
    by_cases hq : r.printer = q
    · subst hq
      simp only [if_true, Option.map_map, hr, JobPhase.info?, Option.any_some, beq_self_eq_true]
      congr 1
      funext pr
      simp only [Function.comp, hcount]
    · rw [if_neg (Ne.symm hq)]
      simp [hr, JobPhase.info?, hq]

end

theorem State.abandonDue_eq (s : State) :
    s.abandonDue = fun j => match j.phase with
      | .printing _ taken => decide (s.params.abandonLimit * 60 ≤ (s.time.runSeconds - taken).toNat)
      | _ => false := by
  funext j
  unfold State.abandonDue
  cases j.phase <;> rfl

/-- Among jobs under different numbers, those of a condition are those under its numbers. -/
theorem filter_not_number_eq {l : List Job} (hnd : (l.map Job.number).Nodup) (p : Job → Bool) :
    l.filter (fun j => !((l.filter p).map Job.number).contains j.number) = l.filter fun j => !p j := by
  refine List.filter_congr fun j hj => congrArg _ (Bool.eq_iff_iff.2 ?_)
  rw [List.contains_iff_mem, List.mem_map]
  constructor
  · rintro ⟨i, hi, hn⟩
    obtain ⟨hmem, hpi⟩ := List.mem_filter.1 hi
    exact List.inj_on_of_nodup_map hnd hmem hj hn ▸ hpi
  · exact fun h => ⟨j, List.mem_filter.2 ⟨hj, h⟩, rfl⟩

/-- Settles O19: the jobs that retire, and the Job Store, the printers and the accounts after them. -/
theorem holdExpiryAndAbandonmentRetireJobs : Obligations.HoldExpiryAndAbandonmentRetireJobs := by
  refine ⟨fun s hdue hj => ?expiry, fun s hdue hj => ?abandon⟩
  case expiry =>
    intro due ns
    have hsound : s.JobsSound := jobOrdersSound_iff.1 hj
    have hrun : runTimer .holdExpiry s = setCauseIf (!ns.isEmpty) .jobExpired (retireJobs ns s) := by
      show holdExpiries s = _
      rw [holdExpiries, expiring_eq]
      rfl
    refine ⟨closeTimer .holdExpiry (setCauseIf (!ns.isEmpty) .jobExpired (retireJobs ns s)), ?_, ?_, ?_, ?_, ?_⟩
    · rw [exec_of_plain_timer rfl hdue (fun u _ => Timer.before_of_plain (by simp) (by simp) u) rfl, hrun]
    · rw [retireJobs_frame]
      apply State.eq_of_fields <;> simp
    · rw [closeTimer_store, setCauseIf_store, retireJobs_store hsound.expiry_nodup]
    · rw [hasCause_of_port (closeTimer_port _ _), hasCause_setCauseIf, retireJobs_frame]
      simp [State.hasCause]
    · rw [retireJobs_frame]
      simp [closeTimer]
  case abandon =>
    intro unreported due charge
    have hsound : s.JobsSound := jobOrdersSound_iff.1 hj
    have hun : s.abandonDue = unreported := s.abandonDue_eq
    have hp : ∀ j ∈ due, j.Printing := by
      intro j hj
      have h := (List.mem_filter.1 hj).2
      rw [← hun, State.abandonDue] at h
      split at h
      · next r w hr => exact ⟨r, w, hr⟩
      · cases h
    have hrun : runTimer .abandonment s = setCauseIf (!due.isEmpty) .jobAbandoned (due.foldl abandonJob s) := by
      show abandonments s = _
      rw [abandonments, hun]
    have hframe := foldl_abandonJob_eq hp s
    have hstore := store_foldl_abandonJob hp (u := s) rfl
    have hbank := bank_foldl_abandonJob hp (u := s) (s := s) rfl rfl
    have hget := get?_foldl_abandonJob hp s
    generalize due.foldl abandonJob s = u at *
    have hkeys : Table.keys u.printers = Table.keys s.printers := by
      have h := keys_printers_runTimer s .abandonment
      rwa [hrun, setCauseIf_printers] at h
    refine ⟨closeTimer .abandonment (setCauseIf (!due.isEmpty) .jobAbandoned u), ?_, ?_, ?_, ?_, fun q _ pr hpr => ?_, ?_, ?_, ?_⟩
    · rw [exec_of_plain_timer rfl hdue (fun u _ => Timer.before_of_plain (by simp) (by simp) u) rfl, hrun]
    · rw [hframe]
      apply State.eq_of_fields <;> simp
    · rw [closeTimer_store, setCauseIf_store, hstore, retireJobs_store hsound.expiry_nodup, filter_not_number_eq hsound.nodup]
      refine congrArg (JobStore.mk _ _ _) (List.filter_eq_self.2 fun n hn => ?_)
      obtain ⟨i, hi, rfl, hheld⟩ := (hsound.mem_expiry n).1 hn
      simp only [Bool.not_eq_true', List.contains_eq_mem, decide_eq_false_iff_not, List.mem_map, not_exists, not_and]
      intro j hj hn
      obtain ⟨r, w, hr⟩ := hp j hj
      obtain rfl := List.inj_on_of_nodup_map hsound.nodup (List.mem_filter.1 hj).1 hi hn
      exact absurd (hr.symm.trans (Job.isHeld_iff.1 hheld)) (by simp)
    · simpa using hkeys
    · rw [closeTimer_printers, setCauseIf_printers, hget, Option.mem_def.1 hpr, Option.map_some]
    · rw [closeTimer_bank, setCauseIf_bank, hbank]
      rfl
    · rw [hasCause_of_port (closeTimer_port _ _), hasCause_setCauseIf, hframe]
      simp [State.hasCause]
    · rw [hframe]
      simp [closeTimer]

end Sys2Proof.Machine
end

section
/-!
PROOFS. CLASS_TICK (R28, R30): the filters of a class, and the reconciliation after the last judgment of a second event.
-/

namespace Sys2Proof.Machine

variable {s t : State} {q : Nat}

/-! ### What the reconciliations of an event read -/

/-- Two states alike in all that a reconciliation reads, and under `P` in the port too. -/
structure State.Alike (P : Prop) (s t : State) : Prop where
  time : t.time = s.time
  params : t.params = s.params
  printers : t.printers = s.printers
  callout : t.callout = s.callout
  stock : t.stock = s.stock
  port : P → t.port = s.port

namespace State.Alike

variable {P : Prop}

theorem setCause (h : s.Alike P t) (c : Cause) : (setCause c s).Alike P (setCause c t) :=
  { h with port := fun hP => by simp only [Machine.setCause, h.port hP] }

theorem setCauseIf (h : s.Alike P t) (b : Bool) (c : Cause) : (setCauseIf b c s).Alike P (setCauseIf b c t) := by
  cases b with
  | true => exact h.setCause c
  | false => exact h

theorem updPrinter (h : s.Alike P t) (q : Nat) (f : Printer → Printer) : (updPrinter q f s).Alike P (updPrinter q f t) :=
  { h with printers := congrArg (fun x : Table Printer => x.modify q f) h.printers }

theorem updTicket (h : s.Alike P t) (n : Nat) (f : Ticket → Ticket) : (updTicket n f s).Alike P (updTicket n f t) :=
  { h with callout := congrArg (fun x : Callout => { x with tickets := x.tickets.modify n f }) h.callout }

theorem retireTicket (h : s.Alike P t) (n : Nat) : (retireTicket n s).Alike P (retireTicket n t) :=
  { h with callout := congrArg (fun x : Callout => { x with tickets := x.tickets.del n }) h.callout }

theorem currentCauses (h : s.Alike P t) (p : Printer) : currentCauses t p = currentCauses s p :=
  currentCauses_of_fields h.params h.stock p

theorem withCallout (h : s.Alike P t) {c c' : Callout} (hc : c' = c) :
    State.Alike P { s with callout := c } { t with callout := c' } :=
  { h with callout := hc }

theorem issueTicket (h : s.Alike P t) (q : Nat) : (issueTicket q s).Alike P (issueTicket q t) := by
  have hp : t.printers.get? q = s.printers.get? q := by rw [h.printers]
  unfold Machine.issueTicket
  rw [hp]
  cases s.printers.get? q with
  | none => exact h
  | some p =>
    refine ((h.withCallout ?_).updPrinter q _).setCause _
    simp only [h.currentCauses, State.now, State.kindOf, h.time, h.params, h.callout]

theorem reconcileTicket (h : s.Alike P t) (n : Nat) (k : Ticket) (p : Printer) (freed : Nat) :
    (reconcileTicket n k p s freed).1.Alike P (reconcileTicket n k p t freed).1
      ∧ (Machine.reconcileTicket n k p t freed).2 = (Machine.reconcileTicket n k p s freed).2 := by
  unfold Machine.reconcileTicket
  simp only [h.currentCauses, State.now, State.kindOf, h.time, h.params]
  split
  · exact ⟨h.retireTicket n, rfl⟩
  · exact ⟨(h.updTicket n _).setCauseIf _ _, rfl⟩

theorem reconcile (h : s.Alike P t) (freed q : Nat) :
    (reconcile (s, freed) q).1.Alike P (reconcile (t, freed) q).1
      ∧ (Machine.reconcile (t, freed) q).2 = (Machine.reconcile (s, freed) q).2 := by
  have hp : t.printers.get? q = s.printers.get? q := by rw [h.printers]
  have hk : t.ticketOf q = s.ticketOf q := State.ticketOf_of_tickets (congrArg Callout.tickets h.callout)
  unfold Machine.reconcile
  dsimp only
  rw [hp, hk]
  cases s.printers.get? q with
  | none => exact ⟨h, rfl⟩
  | some p =>
    cases s.ticketOf q with
    | some e => exact h.reconcileTicket e.1 e.2 p freed
    | none =>
      simp only [h.currentCauses, h.callout]
      split
      · exact ⟨h.updPrinter q _, rfl⟩
      split
      · exact ⟨h, rfl⟩
      split
      · exact ⟨h.issueTicket q, rfl⟩
      · exact ⟨(h.updPrinter q _).setCause _, rfl⟩

theorem foldl_reconcile (h : s.Alike P t) (freed : Nat) (ps : List Nat) :
    (ps.foldl Machine.reconcile (s, freed)).1.Alike P (ps.foldl Machine.reconcile (t, freed)).1
      ∧ (ps.foldl Machine.reconcile (t, freed)).2 = (ps.foldl Machine.reconcile (s, freed)).2 := by
  induction ps generalizing s t freed with
  | nil => exact ⟨h, rfl⟩
  | cons q ps ih =>
    obtain ⟨hs, hf⟩ := h.reconcile freed q
    have := ih hs (Machine.reconcile (s, freed) q).2
    rwa [← hf, Prod.mk.eta, hf, Prod.mk.eta] at this

theorem handOver (h : s.Alike P t) : (handOver s).Alike P (handOver t) := by
  have hc : handOverCandidates t = handOverCandidates s := by
    unfold handOverCandidates
    simp only [h.printers, h.currentCauses]
  unfold Machine.handOver
  rw [hc]
  split
  · exact h
  · next q _ => exact h.issueTicket q

theorem handOvers (h : s.Alike P t) (n : Nat) : (handOvers n s).Alike P (handOvers n t) := by
  induction n generalizing s t with
  | zero => exact h
  | succ n ih => exact ih h.handOver

theorem reconcileAll (h : s.Alike P t) (ps : List Nat) : (reconcileAll ps s).Alike P (reconcileAll ps t) := by
  obtain ⟨hs, hf⟩ := h.foldl_reconcile 0 ps
  unfold Machine.reconcileAll
  dsimp only
  rw [hf]
  exact hs.handOvers _

end State.Alike

/-- A reconciliation does not read the second event in progress. -/
theorem reconcileAll_withSecond (ps : List Nat) (w : SecondWork) :
    reconcileAll ps { s with second := w } = { reconcileAll ps s with second := w } := by
  have halike : State.Alike True s { s with second := w } := ⟨rfl, rfl, rfl, rfl, rfl, fun _ => rfl⟩
  obtain ⟨-, -, hprinters, hcallout, -, hport⟩ := halike.reconcileAll ps
  apply State.eq_of_fields <;> simp [hprinters, hcallout, hport trivial]

/-! ### The timers that judge -/

theorem closeTimer_due (u : Timer) (s : State) :
    (closeTimer u (runTimer u s)).second.due = s.second.due.erase u := congrArg (fun l : List Timer => l.erase u) (runTimer_due u s)

theorem passTimer_of_last {u : Timer} (hj : u.judges = true) (hlast : ∀ v ∈ s.second.due.erase u, v.judges = false) :
    passTimer s u = reconcileSecond (closeTimer u (runTimer u s)) := by
  have hany : (s.second.due.erase u).any Timer.judges = false := List.any_eq_false.2 fun v hv => by simp [hlast v hv]
  simp only [passTimer, hj, closeTimer_due, hany, Bool.not_false, Bool.and_true, if_true]

theorem passTimer_of_more {u : Timer} (hmore : ¬ ∀ v ∈ s.second.due.erase u, v.judges = false) :
    passTimer s u = closeTimer u (runTimer u s) := by
  have hany : (s.second.due.erase u).any Timer.judges = true := by
    simpa [List.any_eq_true, Classical.not_forall] using hmore
  simp only [passTimer, closeTimer_due, hany, Bool.not_true, Bool.and_false, Bool.false_eq_true, if_false]

theorem State.TimerDue.passTimer {u v : Timer} (h : s.TimerDue u) (hne : u ≠ v) : (Machine.passTimer s v).TimerDue u := by
  obtain ⟨hr, hu⟩ := h
  refine ⟨?_, ?_⟩
  · rwa [State.inReset, passTimer_pins]
  · rw [passTimer_due]
    exact (List.mem_erase_of_ne hne).2 hu

theorem Timer.before_tick_iff {u : Timer} {n : Nat} : u.before (.tick n) = true ↔ u = .silence := by
  cases u <;> simp [Timer.before]

/-- A tick that finds the silence examination due is the examination and then the tick. -/
theorem timerRow_tick_of_silence {n : Nat} (h : s.TimerDue (.tick n)) (hs : .silence ∈ s.second.due) :
    timerRow (.tick n) s = timerRow (.tick n) (passTimer s .silence) := by
  rw [timerRow_of_due_after h, timerRow_of_due_after (h.passTimer (by simp)), passTimer_due, ← List.erase_filter]
  have hmem : Timer.silence ∈ s.second.due.filter fun u => u.before (.tick n) := List.mem_filter.2 ⟨hs, rfl⟩
  cases hl : s.second.due.filter fun u => u.before (.tick n) with
  | nil => simp [hl] at hmem
  | cons u l =>
    have hu : u ∈ s.second.due.filter fun u => u.before (.tick n) := by simp [hl]
    obtain rfl := Timer.before_tick_iff.1 (List.mem_filter.1 hu).2
    rw [List.foldl_cons, List.erase_cons_head]

/-- A printer is among those of a selection of an ordered table exactly when its record is selected. -/
theorem Table.mem_keys_filter_iff {α : Type} {l : Table α} (hs : l.Sorted) {f : Nat × α → Bool} {e : Nat × α} (he : e ∈ l) :
    e.1 ∈ Table.keys (l.filter f) ↔ f e = true := by
  constructor
  · intro h
    obtain ⟨d, hd, hde⟩ := List.mem_map.1 h
    obtain ⟨hd, hf⟩ := List.mem_filter.1 hd
    have : d = e := Prod.ext hde (Table.record_eq hs hd he hde)
    exact this ▸ hf
  · exact fun h => List.mem_map_of_mem (List.mem_filter.2 ⟨he, h⟩)

/-- The printers a second event owes a reconciliation once it has noted those of a selection `f`: in an ordered table, those owed before
and those selected. -/
theorem printersWhere_noted (hs : Table.Sorted s.printers) (hk : Table.keys t.printers = Table.keys s.printers) (f : Nat × Printer → Bool)
    (hu : t.second.unreconciled = s.second.unreconciled ++ Table.keys (s.printers.filter f)) :
    t.printersWhere (fun n _ => n ∈ t.second.unreconciled)
      = Table.keys (s.printers.filter fun e => decide (e.1 ∈ s.second.unreconciled) || f e) := by
  have hkeys (u : State) : u.printersWhere (fun n _ => n ∈ t.second.unreconciled)
      = (Table.keys u.printers).filter fun n => n ∈ t.second.unreconciled := by
    simp only [State.printersWhere, Table.keys, List.filter_map, Function.comp_def]
  rw [hkeys, hk, ← hkeys, State.printersWhere]
  refine congrArg Table.keys (List.filter_congr fun e he => ?_)
  rw [hu, Bool.eq_iff_iff, decide_eq_true_iff, List.mem_append, Table.mem_keys_filter_iff hs he, Bool.or_eq_true, decide_eq_true_iff]

theorem mem_owed_iff {f : Nat × Printer → Bool} {u l : List Nat} (hu : u = l ++ Table.keys (s.printers.filter f))
    (hq : q ∈ Table.keys s.printers) :
    q ∈ u ↔ q ∈ Table.keys (s.printers.filter fun e => decide (e.1 ∈ l) || f e) := by
  simp only [hu, Table.keys, List.mem_append, List.mem_map, List.mem_filter, Bool.or_eq_true, decide_eq_true_iff]
  constructor
  · rintro (h | ⟨e, ⟨he, hf⟩, rfl⟩)
    · obtain ⟨e, he, rfl⟩ := List.mem_map.1 hq
      exact ⟨e, ⟨he, .inl h⟩, rfl⟩
    · exact ⟨e, ⟨he, .inr hf⟩, rfl⟩
  · rintro ⟨e, ⟨he, h | hf⟩, rfl⟩
    · exact .inl h
    · exact .inr ⟨e, ⟨he, hf⟩, rfl⟩

/-! ### The tick of a class -/

/-- A printer record once its kinds of class `n` have been judged. -/
def State.tickedBy (s : State) (n : Nat) (p : Printer) : Printer := { p with filters := judgeTick n s p }

/-- The state once the kinds of class `n` have been judged on every printer. -/
def State.ticked (s : State) (n : Nat) : State := { s with printers := Table.view (s.tickedBy n) s.printers }

/-- What a second event has still to do after a tick. -/
def State.workAfterTick (s : State) (n : Nat) : SecondWork := (closeTimer (.tick n) (classTickEffect n s)).second

theorem closeTimer_tick (n : Nat) (s : State) :
    closeTimer (.tick n) (runTimer (.tick n) s) = { s.ticked n with second := s.workAfterTick n } := rfl

theorem reconcileSecond_withSecond (w : SecondWork) : reconcileSecond { s with second := w }
    = { reconcileAll (s.printersWhere fun n _ => n ∈ w.unreconciled) s with second := { w with unreconciled := [] } } := by
  unfold reconcileSecond
  dsimp only
  rw [reconcileAll_withSecond]
  rfl

/-- The state a class tick leaves after its last judgment: the printers owed are reconciled. -/
theorem passTimer_tick_of_last {n : Nat} (hlast : ∀ v ∈ s.second.due.erase (.tick n), v.judges = false) (hs : Table.Sorted s.printers) :
    passTimer s (.tick n) = { reconcileAll (Table.keys (s.printers.filter fun e => decide (e.1 ∈ s.second.unreconciled)
        || confirmedMoved e.2.filters (judgeTick n s e.2))) (s.ticked n) with
      second := { s.workAfterTick n with unreconciled := [] } } := by
  rw [passTimer_of_last rfl hlast, closeTimer_tick, reconcileSecond_withSecond,
    ← printersWhere_noted (t := { s.ticked n with second := s.workAfterTick n }) hs (Table.keys_view (s.tickedBy n) _)
      (fun e => confirmedMoved e.2.filters (judgeTick n s e.2)) rfl]
  rfl

/-- A class tick changes of a state the filters, and what the reconciliations change, besides the second event in progress. -/
theorem passTimer_tick (n : Nat) (s : State) :
    ∃ u, (u = s.ticked n ∨ ∃ ps, u = reconcileAll ps (s.ticked n))
      ∧ passTimer s (.tick n) = { u with second := (passTimer s (.tick n)).second } := by
  obtain he | ⟨-, -, he⟩ := passTimer_cases s (.tick n) <;> rw [he, closeTimer_tick]
  · exact ⟨_, .inl rfl, rfl⟩
  · rw [reconcileSecond_withSecond]
    exact ⟨_, .inr ⟨_, rfl⟩, rfl⟩

theorem passTimer_returned (s : State) (u : Timer) :
    (passTimer s u).second.returned = if s.second.due.erase u = [] then [] else (runTimer u s).second.returned := by
  rw [← runTimer_due u s]
  unfold passTimer closeTimer reconcileSecond
  dsimp only
  simp only [List.isEmpty_iff]
  split <;> rfl

theorem FilterState.tick_eq (f : FilterState) (present : Bool) :
    f.tick present = match f, present with
      | .clear, true => .onset
      | .onset, true | .confirmed, true | .easing, true => .confirmed
      | .confirmed, false => .easing
      | .clear, false | .onset, false | .easing, false => .clear := by
  cases f <;> cases present <;> rfl

/-- Settles O15: a tick that waits for the silence examination runs after it; the tick's own work is a map over the printers, and the
reconciliation of the event, made with its last judgment, does not read the second event in progress. -/
theorem classTickMovesTheFiltersOfItsClass : Obligations.ClassTickMovesTheFiltersOfItsClass := by
  intro s n hdue move due last judged owed
  have hmove (pr : Printer) (k : FaultKind) : (judgeTick n s pr).at k = move pr k := by
    rw [judgeTick, KindTable.at_of, FilterState.tick_eq]
    rfl
  have htable (pr : Printer) : judgeTick n s pr = KindTable.of (move pr) := by
    unfold judgeTick
    exact congrArg KindTable.of (funext fun k => by rw [← hmove, judgeTick, KindTable.at_of])
  have hjudged : s.ticked n = judged := by
    refine congrArg (fun x => { s with printers := x }) (List.map_congr_left fun e _ => ?_)
    rw [State.tickedBy, htable]
  have howed : (fun e : Nat × Printer => decide (e.1 ∈ s.second.unreconciled) || confirmedMoved e.2.filters (judgeTick n s e.2))
      = fun e => decide (e.1 ∈ s.second.unreconciled)
        || FaultKind.all.any fun k => (e.2.filters.at k == .confirmed) != (move e.2 k == .confirmed) := by
    funext e
    simp only [confirmedMoved, hmove]
  refine ⟨timerRow (.tick n) s, exec_of_timer rfl s, fun hs => ⟨passTimer s .silence, ?first, ?after⟩, fun hs => ?now⟩
  case first => rw [exec_of_timer rfl, timerRow_of_due' ⟨hdue.1, hs⟩ (by simp) (.inr (by simp))]
  case after => rw [exec_of_timer rfl, timerRow_tick_of_silence hdue hs]
  case now =>
    rw [timerRow_of_due' hdue (by simp) (.inl hs)]
    refine ⟨?frame, ?keys, fun q hq pr hpr => ?record, passTimer_due s _, ?returned, fun hmore => ?more, fun hlast hsorted => ?last⟩
    case more =>
      rw [passTimer_of_more hmore]
      exact ⟨congrArg (fun u : State => { u with second := s.workAfterTick n }) hjudged,
        fun q hq => (mem_owed_iff rfl hq).trans (by rw [howed])⟩
    case last =>
      rw [passTimer_tick_of_last hlast hsorted, hjudged, howed]
      refine ⟨rfl, rfl, fun ht hk q hq => ?_⟩
      have hdeferred : Table.view Printer.deferred (s.ticked n).printers = Table.view Printer.deferred s.printers := Table.view_view ..
      have hsound : judged.CalloutSound 0 := hjudged ▸ ((calloutSound_iff ht).1 hk).of_deferred rfl hdeferred
      exact (place_reconcileAll hsound owed q).1 hq
    case frame =>
      obtain ⟨u, hu, ht⟩ := passTimer_tick n s
      rw [ht]
      obtain rfl | ⟨ps, rfl⟩ := hu
      · rfl
      · exact congrArg (fun v : State => { v with second := (passTimer s (.tick n)).second }) (reconcileAll_eq ps (s.ticked n))
    case keys =>
      obtain ⟨u, hu, ht⟩ := passTimer_tick n s
      rw [ht]
      obtain rfl | ⟨ps, rfl⟩ := hu
      · exact Table.keys_view ..
      · exact (keys_printers_reconcileAll (s.ticked n) ps).trans (Table.keys_view ..)
    case record =>
      obtain ⟨u, hu, ht⟩ := passTimer_tick n s
      have hget : ∃ b, (passTimer s (.tick n)).printers.get? q = some { s.tickedBy n pr with deferred := b } := by
        have hview : (Table.view (s.tickedBy n) s.printers).get? q = some (s.tickedBy n pr) := by
          rw [Table.get?_view, Option.mem_def.1 hpr, Option.map_some]
        rw [ht]
        obtain rfl | ⟨ps, rfl⟩ := hu
        · exact ⟨_, hview⟩
        · exact get?_reconcileAll ps hview
      obtain ⟨b, hb⟩ := hget
      exact ⟨_, hb, rfl, hmove pr⟩
    case returned => exact passTimer_returned s _

end Sys2Proof.Machine
end

section
/-!
PROOFS. SILENCE_EXPIRY (R5, R18, R27, R149): the printers that become SILENT, the return of their RELEASING jobs, and the judgments and the
reconciliation that follow.
-/

namespace Sys2Proof.Machine

variable {s t : State} {q : Nat}

/-! ### The causes that reconciliations set -/

section

variable {c : Cause} (hr : c ≠ .calloutRaised) (hd : c ≠ .calloutDeferred)
include hr

theorem hasCause_issueTicket_other (q : Nat) (s : State) : (issueTicket q s).hasCause c = s.hasCause c := by
  cases hp : s.printers.get? q with
  | none => simp only [issueTicket, hp]
  | some p => rw [hasCause_issueTicket hp]; simp [hr]

theorem hasCause_handOver_other (s : State) : (handOver s).hasCause c = s.hasCause c := by
  obtain ⟨-, h⟩ | ⟨q, -, h⟩ := handOver_cases s <;> rw [h]
  exact hasCause_issueTicket_other hr q s

include hd

theorem hasCause_reconcile_other (acc : State × Nat) (q : Nat) : (reconcile acc q).1.hasCause c = acc.1.hasCause c := by
  obtain ⟨-, h⟩ | ⟨p, -, ⟨n, k, -, h⟩ | ⟨-, ⟨-, h⟩ | ⟨-, ⟨-, h⟩ | ⟨-, -, h⟩ | ⟨-, -, h⟩⟩⟩⟩ := reconcile_cases acc q <;> rw [h]
  · obtain ⟨-, h⟩ | ⟨k', b, -, h⟩ := reconcileTicket_cases n k p acc.1 acc.2 <;> rw [h]
    · rfl
    · simp only [hasCause_setCauseIf, hr, decide_false, Bool.and_false, Bool.or_false]
      rfl
  · rfl
  · exact hasCause_issueTicket_other hr q acc.1
  · simp only [deferCallout, hasCause_setCause, hd, decide_false, Bool.or_false]
    rfl

/-- Reconciliations set CALLOUT_RAISED and CALLOUT_DEFERRED and no other cause. -/
theorem hasCause_reconcileAll_other (ps : List Nat) (s : State) : (reconcileAll ps s).hasCause c = s.hasCause c :=
  reconcileAll_induct (Q := fun u _ => u.hasCause c = s.hasCause c) ps (fun acc q h => (hasCause_reconcile_other hr hd acc q).trans h)
    (fun u _ h => (hasCause_handOver_other hr u).trans h) rfl

end

/-! ### A change of many printers -/

theorem Table.foldl_modify {α : Type} {f : α → α} (t : Table α) {ps : List Nat} (hnd : ps.Nodup) :
    ps.foldl (fun t n => Table.modify t n f) t = t.map fun e => (e.1, if e.1 ∈ ps then f e.2 else e.2) := by
  induction ps generalizing t with
  | nil => simp
  | cons n ps ih =>
    obtain ⟨hn, hnd⟩ := List.nodup_cons.1 hnd
    rw [List.foldl_cons, ih _ hnd, Table.modify, List.map_map]
    refine List.map_congr_left fun e _ => ?_
    by_cases he : e.1 = n
    · simp [he, hn]
    · simp [he]

theorem Table.get?_mapWith {α : Type} (t : Table α) (f : Nat → α → α) (n : Nat) :
    Table.get? (t.map fun e => (e.1, f e.1 e.2)) n = (t.get? n).map (f n) := by
  induction t with
  | nil => rfl
  | cons e t ih =>
    by_cases he : e.1 = n
    · simp [Table.get?, he]
    · simpa [Table.get?, he] using ih

theorem foldl_judgePrinter (ps : List Nat) (s : State) :
    ps.foldl judgePrinter s = { s with
      printers := ps.foldl (fun t n => Table.modify t n fun p => { p with filters := judgeClass0 s p }) s.printers } := by
  induction ps generalizing s with
  | nil => rfl
  | cons n ps ih => exact ih (judgePrinter s n)

theorem Table.modify_of_get?_eq_none {α : Type} {t : Table α} {n : Nat} (h : t.get? n = none) (f : α → α) : t.modify n f = t := by
  refine (List.map_congr_left fun e he => ?_).trans (List.map_id t)
  have hne : e.1 ≠ n := fun hn => by
    have hmem : n ∈ Table.keys t := hn ▸ List.mem_map_of_mem he
    simpa [h] using (Table.get?_isSome_iff t n).2 hmem
  simp [hne]

theorem setServiceState_printers (q : Nat) (st : ServiceState) (s : State) :
    (setServiceState q st s).printers = s.printers.modify q fun p => { p with state := st } := by
  obtain ⟨hp, h⟩ | ⟨p, -, ⟨-, -, h⟩ | ⟨-, h⟩⟩ := setServiceState_cases q st s <;> rw [h]
  · exact (Table.modify_of_get?_eq_none hp _).symm
  · rw [recallPrinter_printers]
    rfl
  · rfl

theorem foldl_silencePrinter_printers (ps : List Nat) (s : State) :
    (ps.foldl silencePrinter s).printers = ps.foldl (fun t n => Table.modify t n fun p => { p with state := .silent }) s.printers := by
  induction ps generalizing s with
  | nil => rfl
  | cons n ps ih => 
    have hone : (silencePrinter s n).printers = s.printers.modify n fun p => { p with state := .silent } :=
      setServiceState_printers n .silent (setCause .printerSilent s)
    rw [List.foldl_cons, ih, hone, List.foldl_cons]

/-! ### The jobs returned from the printers that become SILENT -/

/-- What a return of jobs reads and changes. -/
def State.jobWork (s : State) : JobStore × Release × Bank := (s.store, s.release, s.bank)

theorem jobWork_returnUnreleased (h : t.jobWork = s.jobWork) (n : Nat) : (returnUnreleased n t).jobWork = (returnUnreleased n s).jobWork := by
  obtain ⟨hstore, hrelease, hbank⟩ : t.store = s.store ∧ t.release = s.release ∧ t.bank = s.bank := by
    simpa only [State.jobWork, Prod.mk.injEq] using h
  have hat : t.jobAt n = s.jobAt n := by rw [State.jobAt, hstore, State.jobAt]
  cases hj : s.jobAt n with
  | none => simpa only [returnUnreleased, hat, hj] using h
  | some j =>
    cases hp : j.phase with
    | held | printing => simpa only [returnUnreleased, hat, hj, hp] using h
    | releasing r =>
      have hnewer : t.newerThan j.seq = s.newerThan j.seq := newerThan_of_store (congrArg JobStore.records hstore) _
      rw [returnUnreleased_of_releasing hj hp, returnUnreleased_of_releasing (hat.trans hj) hp]
      simp only [State.jobWork, hstore, hrelease, hnewer, bank_settle_of_bank hbank]

theorem jobWork_foldl_returnUnreleased (h : t.jobWork = s.jobWork) (ns : List Nat) :
    (ns.foldl (fun s n => returnUnreleased n s) t).jobWork = (ns.foldl (fun s n => returnUnreleased n s) s).jobWork := by
  induction ns generalizing s t with
  | nil => exact h
  | cons n ns ih => exact ih (jobWork_returnUnreleased h n)

theorem jobWork_returnAll (ns : List Nat) (s : State) :
    (returnAll ns s).jobWork = (ns.foldl (fun s n => returnUnreleased n s) s).jobWork := by
  simp [returnAll, State.jobWork]

/-- The jobs RELEASING on the printers of a list, printer by printer. -/
def State.releasingFrom (s : State) (l : List Nat) : List Nat := (l.map s.releasingThere).flatten

theorem State.mem_releasingThere {n : Nat} :
    n ∈ s.releasingThere q ↔ n ∈ s.release.dispatch ∧ ∃ j, s.jobAt n = some j ∧ ∃ r ∈ j.phase.info?, r.printer = q := by
  simp only [State.releasingThere, List.mem_filter, Option.any_eq_true, beq_iff_eq, Option.mem_def]

theorem State.mem_releasingFrom {n : Nat} {l : List Nat} : n ∈ s.releasingFrom l ↔ ∃ q ∈ l, n ∈ s.releasingThere q := by
  simp [State.releasingFrom]

theorem State.eq_of_mem_releasingThere {n p : Nat} (hp : n ∈ s.releasingThere p) (hq : n ∈ s.releasingThere q) : p = q := by
  obtain ⟨-, j, hj, r, hr, rfl⟩ := State.mem_releasingThere.1 hp
  obtain ⟨-, i, hi, r', hr', rfl⟩ := State.mem_releasingThere.1 hq
  obtain rfl : j = i := Option.some.inj (hj.symm.trans hi)
  obtain rfl : r = r' := Option.some.inj (hr.symm.trans hr')
  rfl

theorem State.JobsSound.nodup_releasingFrom (h : s.JobsSound) {l : List Nat} (hl : l.Nodup) : (s.releasingFrom l).Nodup := by
  refine List.nodup_flatten.2 ⟨fun ns hns => ?_, List.pairwise_map.2 (hl.imp fun hne n hp hq => hne (State.eq_of_mem_releasingThere hp hq))⟩
  obtain ⟨q, -, rfl⟩ := List.mem_map.1 hns
  exact h.dispatch_nodup.filter _

theorem State.JobsSound.releasing_of_mem_releasingFrom (h : s.JobsSound) {l : List Nat} {n : Nat} (hn : n ∈ s.releasingFrom l) :
    ∃ j, s.jobAt n = some j ∧ ∃ r, j.phase = .releasing r := by
  obtain ⟨q, -, hq⟩ := State.mem_releasingFrom.1 hn
  exact h.releasing_of_mem (State.mem_releasingThere.1 hq).1

/-- Once the jobs on other printers have been returned, those on a printer are still the ones it had. -/
theorem State.JobsSound.releasingOn_returned (h : s.JobsSound) {l : List Nat} (hq : q ∉ l)
    (ht : t.jobWork = (s.returnedAll (s.releasingFrom l)).jobWork) : t.releasingOn q = s.releasingThere q := by
  have hstore : t.store.records = s.store.records.map (Job.returned (s.releasingFrom l)) := congrArg (fun w => w.1.records) ht
  have hdispatch : t.release.dispatch = s.release.dispatch.filter fun n => n ∉ s.releasingFrom l := congrArg (fun w => w.2.1.dispatch) ht
  rw [State.releasingOn, State.releasingThere, hdispatch, List.filter_filter]
  refine List.filter_congr fun n hn => ?_
  obtain ⟨j, hj, r, hr⟩ := h.releasing_of_mem hn
  have hnum := (State.mem_of_jobAt hj).2
  rw [jobAt_map (Job.number_returned _) hstore, hj]
  by_cases hmem : n ∈ s.releasingFrom l
  · obtain ⟨p, hp, hnp⟩ := State.mem_releasingFrom.1 hmem
    have hne : r.printer ≠ q := fun hrq => hq (State.eq_of_mem_releasingThere hnp
      (State.mem_releasingThere.2 ⟨hn, j, hj, r, by simp [hr, JobPhase.info?], hrq⟩) ▸ hp)
    simp [hmem, hr, JobPhase.info?, hne]
  · simp [hmem, hr, JobPhase.info?, Job.returned, hnum]

theorem hasCause_returnAll (ns : List Nat) (c : Cause) (s : State) :
    (returnAll ns s).hasCause c = (s.hasCause c || (!ns.isEmpty && decide (c = .jobRecalled))) := by
  have hport : (ns.foldl (fun s n => returnUnreleased n s) s).port = s.port :=
    foldl_keeps (fun u : State => u.port) (fun s n => returnUnreleased n s) (fun u n => by simp) ns s
  rw [returnAll, hasCause_setCauseIf, hasCause_of_port hport]

theorem silencePrinter_eq {ns : List Nat} {p : Printer} (hp : s.printers.get? q = some p) (hs : p.state ≠ .silent) (hr : s.releasingOn q = ns) :
    silencePrinter s q = noteReturned ns (returnAll ns (updPrinter q (fun p => { p with state := .silent }) (setCause .printerSilent s))) := by
  have hget : (setCause .printerSilent s).printers.get? q = some p := hp
  have hset : setServiceState q .silent (setCause .printerSilent s)
      = recallPrinter q (updPrinter q (fun p => { p with state := .silent }) (setCause .printerSilent s)) := by
    simp only [setServiceState, hget, ne_eq, hs, not_false_eq_true, or_true, and_self, if_true]
  have hon : (updPrinter q (fun p => { p with state := .silent }) (setCause .printerSilent s)).releasingOn q = ns := hr
  rw [silencePrinter, hset, recallPrinter, hon, ← hr]

/-- What the entries into SILENT of the printers of a list come to, besides their records: their RELEASING jobs have returned. -/
structure State.SilencedTo (s t : State) (l : List Nat) : Prop where
  jobs : t.jobWork = (s.returnedAll (s.releasingFrom l)).jobWork
  returned : t.second.returned = s.second.returned ++ s.releasingFrom l
  causes : ∀ c, t.hasCause c
    = (s.hasCause c || (!l.isEmpty && decide (c = .printerSilent)) || (!(s.releasingFrom l).isEmpty && decide (c = .jobRecalled)))

theorem State.JobsSound.silenced (h : s.JobsSound) {l : List Nat} (hnd : l.Nodup)
    (hl : ∀ q ∈ l, ∃ p, s.printers.get? q = some p ∧ p.state ≠ .silent) : s.SilencedTo (l.foldl silencePrinter s) l := by
  induction l using List.reverseRecOn with
  | nil =>
    have hnone : (s.returnedAll (s.releasingFrom [])).jobWork = s.jobWork :=
      congrArg State.jobWork (foldl_returnUnreleased h List.nodup_nil (by simp)).symm
    exact ⟨hnone.symm, (List.append_nil _).symm, fun c => by simp [State.releasingFrom]⟩
  | append_singleton l q ih =>
    obtain ⟨hnl, -, hdis⟩ := List.nodup_append.1 hnd
    have hq : q ∉ l := fun hm => hdis q hm q (List.mem_singleton_self q) rfl
    obtain ⟨p, hp, hs⟩ := hl q (List.mem_append_right _ (List.mem_singleton_self q))
    obtain ⟨hjobs, hreturned, hcauses⟩ := ih hnl fun x hx => hl x (List.mem_append_left _ hx)
    have hfrom : s.releasingFrom (l ++ [q]) = s.releasingFrom l ++ s.releasingThere q := by simp [State.releasingFrom]
    have hget : (l.foldl silencePrinter s).printers.get? q = some p := by
      rw [foldl_silencePrinter_printers, Table.foldl_modify _ hnl]
      refine (Table.get?_mapWith s.printers (fun n (p : Printer) => if n ∈ l then { p with state := .silent } else p) q).trans ?_
      rw [hp, Option.map_some, if_neg hq]
    rw [List.foldl_append, List.foldl_cons, List.foldl_nil, silencePrinter_eq hget hs (h.releasingOn_returned hq hjobs)]
    generalize l.foldl silencePrinter s = u at hjobs hreturned hcauses
    refine ⟨?_, ?_, fun c => ?_⟩
    · have hall := foldl_returnUnreleased h (h.nodup_releasingFrom hnd) fun n hn => h.releasing_of_mem_releasingFrom hn
      have hpart := foldl_returnUnreleased h (h.nodup_releasingFrom hnl) fun n hn => h.releasing_of_mem_releasingFrom hn
      have hwork : State.jobWork (updPrinter q (fun p => { p with state := .silent }) (setCause .printerSilent u))
          = (s.returnedAll (s.releasingFrom l)).jobWork := hjobs
      refine (jobWork_returnAll _ _).trans ((jobWork_foldl_returnUnreleased hwork _).trans ?_)
      rw [← hall, ← hpart, hfrom, List.foldl_append]
    · rw [hfrom, ← List.append_assoc, ← hreturned]
      exact congrArg (· ++ s.releasingThere q) (by simp)
    · have hport : (noteReturned (s.releasingThere q) (Machine.returnAll (s.releasingThere q)
          (updPrinter q (fun p => { p with state := .silent }) (setCause .printerSilent u)))).hasCause c
          = ((setCause .printerSilent u).hasCause c || (!(s.releasingThere q).isEmpty && decide (c = .jobRecalled))) :=
        hasCause_returnAll ..
      rw [hport, hasCause_setCause, hcauses, hfrom]
      have hempty : (s.releasingFrom l ++ s.releasingThere q).isEmpty = ((s.releasingFrom l).isEmpty && (s.releasingThere q).isEmpty) := by
        cases s.releasingFrom l <;> rfl
      rw [hempty]
      cases decide (c = .printerSilent) <;> cases decide (c = .jobRecalled) <;> simp [Bool.or_assoc]

/-! ### The silence examination -/

/-- A printer record once it has become SILENT and its kinds of class 0 have been judged. -/
def State.silencedBy (s : State) (p : Printer) : Printer :=
  { p with state := .silent, filters := judgeClass0 s { p with state := .silent } }

/-- The printers after the silence examination. -/
def State.silencedPrinters (s : State) : Table Printer :=
  s.printers.map fun e => (e.1, if s.silenceDue e.2 = true then s.silencedBy e.2 else e.2)

theorem nodup_keys_filter {α : Type} {l : Table α} (hs : l.Sorted) (f : Nat × α → Bool) : (Table.keys (l.filter f)).Nodup :=
  (List.filter_sublist.map Prod.fst).nodup (List.Pairwise.imp (fun h => Nat.ne_of_lt h) hs)

theorem judgeClass0_of_params (h : t.params = s.params) : judgeClass0 t = judgeClass0 s := by
  funext p
  simp only [judgeClass0, State.kindOf, h]
  rfl

theorem silenceExamination_printers (hs : Table.Sorted s.printers) : (silenceExamination s).printers = s.silencedPrinters := by
  have hnd : (s.printersWhere fun _ p => s.silenceDue p).Nodup := nodup_keys_filter hs _
  have hparams : ((s.printersWhere fun _ p => s.silenceDue p).foldl silencePrinter s).params = s.params :=
    foldl_keeps (fun u : State => u.params) silencePrinter (fun u n => by simp) _ s
  unfold silenceExamination
  dsimp only [noteUnreconciled]
  rw [foldl_judgePrinter, judgeClass0_of_params hparams, Table.foldl_modify _ hnd, foldl_silencePrinter_printers, Table.foldl_modify _ hnd, List.map_map]
  refine List.map_congr_left fun e he => ?_
  have hmem : e.1 ∈ (s.printersWhere fun _ p => s.silenceDue p) ↔ s.silenceDue e.2 = true := Table.mem_keys_filter_iff hs he
  by_cases hdue : s.silenceDue e.2 = true
  · simp [hmem, hdue, State.silencedBy]
  · simp [hmem, hdue]

/-- The silence examination returns the RELEASING jobs of the printers that became SILENT. -/
theorem State.JobsSound.silenceExamination (h : s.JobsSound) (hs : Table.Sorted s.printers) :
    s.SilencedTo (silenceExamination s) (s.printersWhere fun _ p => s.silenceDue p) := by
  obtain ⟨hjobs, hreturned, hcauses⟩ := h.silenced (nodup_keys_filter hs fun e => s.silenceDue e.2) fun q hq => by
    obtain ⟨e, he, rfl⟩ := List.mem_map.1 hq
    obtain ⟨he, hdue⟩ := List.mem_filter.1 he
    refine ⟨e.2, Table.get?_of_mem hs he, ?_⟩
    simp only [State.silenceDue, Bool.and_eq_true, decide_eq_true_eq] at hdue
    exact hdue.1
  unfold Machine.silenceExamination
  dsimp only [noteUnreconciled]
  rw [foldl_judgePrinter]
  exact ⟨hjobs, hreturned, hcauses⟩

theorem jobWork_passTimer (s : State) (u : Timer) : (passTimer s u).jobWork = (runTimer u s).jobWork := by
  obtain he | ⟨-, -, he⟩ := passTimer_cases s u <;> rw [he]
  · rfl
  · simp [State.jobWork, reconcileSecond]

theorem hasCause_passTimer_other {c : Cause} (hr : c ≠ .calloutRaised) (hd : c ≠ .calloutDeferred) (s : State) (u : Timer) :
    (passTimer s u).hasCause c = (runTimer u s).hasCause c := by
  obtain he | ⟨-, -, he⟩ := passTimer_cases s u <;> rw [he]
  · rfl
  · exact hasCause_reconcileAll_other hr hd _ _

theorem passTimer_silence_eq (s : State) :
    let t := passTimer s .silence
    t = { s with printers := t.printers, callout := t.callout, port := t.port, store := t.store, release := t.release,
                 bank := t.bank, second := t.second } := by
  obtain he | ⟨-, -, he⟩ := passTimer_cases s .silence <;> rw [he]
  · apply State.eq_of_fields <;> simp [runTimer]
  · apply State.eq_of_fields <;> simp [runTimer, reconcileSecond]

theorem inLine_of_alike (h : s.CalloutInLine q) (hparams : t.params = s.params) (hprinters : t.printers = s.printers)
    (hcallout : t.callout = s.callout) (hstock : t.stock = s.stock) : t.CalloutInLine q :=
  h.of_samePlace ⟨State.ticketOf_of_tickets (congrArg Callout.tickets hcallout), by rw [hprinters]⟩ hparams hstock

/-- Settles O16: the printers that become SILENT one by one, the return of their jobs as one return, and the reconciliation of the event,
made with its last judgment, which reads nothing that the return changed. -/
theorem silenceExpirySilencesTheUnreported : Obligations.SilenceExpirySilencesTheUnreported := by
  intro s hdue hsorted horders unreported gone silenced due last ns judged owed
  have hsound : s.JobsSound := jobOrdersSound_iff.1 horders
  have hiff (p : Printer) : s.silenceDue p = true ↔ unreported p := by
    simp only [State.silenceDue, Bool.and_eq_true, decide_eq_true_eq]
    rfl
  have hdec : (fun e : Nat × Printer => s.silenceDue e.2) = fun e => decide (unreported e.2) := by
    funext e
    rw [Bool.eq_iff_iff, decide_eq_true_iff, hiff]
  have hgone : (s.printersWhere fun _ p => s.silenceDue p) = gone := by rw [State.printersWhere, hdec]
  have hsil (p : Printer) : s.silencedBy p = silenced p := rfl
  have hjudged : s.silencedPrinters = judged.printers := by
    refine List.map_congr_left fun e _ => ?_
    by_cases h : unreported e.2
    · rw [if_pos ((hiff _).2 h), if_pos h, hsil]
    · rw [if_neg (mt (hiff _).1 h), if_neg h]
  obtain ⟨hjobs, hreturned, hcauses⟩ := hsound.silenceExamination hsorted
  rw [hgone] at hjobs hreturned hcauses
  have hexam : (passTimer s .silence).jobWork = (s.returnedAll ns).jobWork := (jobWork_passTimer s .silence).trans hjobs
  have howed : owed = Table.keys (s.printers.filter fun e => decide (e.1 ∈ s.second.unreconciled) || decide (unreported e.2)) := by
    simp only [owed, Bool.decide_or]
  have hprinters : (closeTimer .silence (silenceExamination s)).printers = judged.printers :=
    (silenceExamination_printers hsorted).trans hjudged
  have hkeys : Table.keys (closeTimer .silence (silenceExamination s)).printers = Table.keys s.printers := by
    rw [hprinters]
    exact Table.keys_map ..
  have hnoted : (closeTimer .silence (silenceExamination s)).second.unreconciled
      = s.second.unreconciled ++ Table.keys (s.printers.filter fun e => decide (unreported e.2)) := by
    rw [← hdec]
    exact unreconciled_silenceExamination s
  refine ⟨passTimer s .silence, by rw [exec_of_timer rfl, timerRow_of_due' hdue (by simp) (.inr (by simp))], passTimer_silence_eq s,
    ?keys, fun q hq pr hpr => ?record, ?cause, ?uncharged, fun j hj hrel r hr pr hpr => ?gone, passTimer_due s _, ?returned,
    fun hmore => ?more, fun hlast => ?last⟩
  case uncharged =>
    obtain ⟨hstore, hrelease, hbank⟩ : (passTimer s .silence).store = (s.returnedAll ns).store
        ∧ (passTimer s .silence).release = (s.returnedAll ns).release ∧ (passTimer s .silence).bank = (s.returnedAll ns).bank := by
      simpa only [State.jobWork, Prod.mk.injEq] using hexam
    refine ⟨hstore, hrelease, hbank, ?_⟩
    rw [hasCause_passTimer_other (by decide) (by decide), runTimer, hcauses]
    have hns : (s.releasingFrom gone).isEmpty = true ↔ ns = [] := List.isEmpty_iff
    simp [← hns]
  case cause =>
    rw [hasCause_passTimer_other (by decide) (by decide), runTimer, hcauses]
    simp
  case returned => exact (passTimer_returned s .silence).trans (by rw [runTimer, hreturned]; rfl)
  case gone =>
    intro hun
    have hrec : (passTimer s .silence).store.records = s.store.records.map (Job.returned ns) := congrArg (fun w => w.1.records) hexam
    obtain ⟨i, hi, rfl⟩ := List.mem_map.1 (hrec ▸ hj)
    by_cases hn : i.number ∈ ns
    · simp [Job.returned, hn, Job.isReleasing] at hrel
    · have hret : i.returned ns = i := if_neg hn
      rw [hret] at hrel hr
      have hpg : r.printer ∈ gone := by
        rw [← hgone]
        exact State.mem_printersWhere_of_get? hpr ((hiff pr).2 hun)
      exact hn (State.mem_releasingFrom.2 ⟨r.printer, hpg, State.mem_releasingThere.2
        ⟨(hsound.number_mem_dispatch hi).2 hrel, i, hsound.jobAt hi, r, hr, rfl⟩⟩)
  case more =>
    rw [passTimer_of_more hmore]
    refine ⟨(silenceExamination_printers hsorted).trans hjudged, by simp [runTimer], fun q hq => ?_⟩
    rw [howed]
    exact mem_owed_iff (f := fun e => decide (unreported e.2)) hnoted hq
  case last =>
    rw [passTimer_of_last rfl hlast]
    have hlist : (closeTimer .silence (silenceExamination s)).printersWhere
        (fun n _ => n ∈ (closeTimer .silence (silenceExamination s)).second.unreconciled) = owed := by
      rw [howed]
      exact printersWhere_noted hsorted hkeys (fun e => decide (unreported e.2)) hnoted
    have halike : State.Alike False judged (closeTimer .silence (silenceExamination s)) :=
      ⟨by simp [judged], by simp [judged], hprinters, by simp [judged], by simp [judged], False.elim⟩
    obtain ⟨-, hparams, hprint, hcall, hstock, -⟩ := halike.reconcileAll owed
    have hlast : reconcileSecond (closeTimer .silence (runTimer .silence s)) = { reconcileAll owed
        (closeTimer .silence (silenceExamination s)) with
        second := { (closeTimer .silence (silenceExamination s)).second with unreconciled := [] } } := by
      rw [← hlist]
      rfl
    rw [hlast]
    refine ⟨hprint, hcall, rfl, fun ht hk q hq => ?_⟩
    have hdeferred : Table.view Printer.deferred judged.printers = Table.view Printer.deferred s.printers :=
      Table.view_map (fun e => by split <;> rfl) s.printers
    have hcsound : judged.CalloutSound 0 := ((calloutSound_iff ht).1 hk).of_deferred rfl hdeferred
    exact inLine_of_alike ((place_reconcileAll hcsound owed q).1 hq) hparams hprint hcall hstock
  case keys =>
    obtain he | ⟨-, -, he⟩ := passTimer_cases s .silence <;> rw [he]
    · exact hkeys
    · exact (keys_printers_reconcileAll _ _).trans hkeys
  case record =>
    have hget : (closeTimer .silence (silenceExamination s)).printers.get? q = some (if unreported pr then silenced pr else pr) := by
      rw [show (closeTimer .silence (silenceExamination s)).printers = judged.printers from hprinters]
      exact (Table.get?_mapWith s.printers (fun _ p => if unreported p then silenced p else p) q).trans (by
        rw [Option.mem_def.1 hpr, Option.map_some])
    have hrecord : ∃ b, (passTimer s .silence).printers.get? q
        = some { (if unreported pr then silenced pr else pr) with deferred := b } := by
      obtain he | ⟨-, -, he⟩ := passTimer_cases s .silence <;> rw [he]
      · exact ⟨_, hget⟩
      · exact get?_reconcileAll _ hget
    obtain ⟨b, hb⟩ := hrecord
    refine ⟨_, hb, fun h => ?_, fun h => ?_⟩
    · rw [if_pos h]
    · rw [if_neg h]

end Sys2Proof.Machine
end

section
/-!
PROOFS. The checks of a request's fields (R173), and JOB_SUBMIT and JOB_CANCEL (R100 to R104, R107 to R109).
-/

namespace Sys2Proof.Machine

variable {s : State} {p : Payload}

/-! ### The first bad field of a request -/

/-- A request's reply behind the checks of its fields: the first bad one is refused with its index. -/
def checked (checks : List (Nat × Bool)) (rep : Reply) : Reply :=
  match firstBadField checks with
  | some i => badField i
  | none => rep

theorem checked_nil (rep : Reply) : checked [] rep = rep := rfl

theorem checked_cons (i : Nat) (b : Bool) (l : List (Nat × Bool)) (rep : Reply) :
    checked ((i, b) :: l) rep = if b = true then badField i else checked l rep := by
  cases b <;> rfl

theorem checked_of_mem {checks : List (Nat × Bool)} {i : Nat} (h : i ∈ firstBadField checks) (rep : Reply) :
    checked checks rep = badField i := by
  rw [checked, Option.mem_def.1 h]

theorem checked_of_none {checks : List (Nat × Bool)} (h : firstBadField checks = none) (rep : Reply) : checked checks rep = rep := by
  rw [checked, h]

/-- With no field bad every check has passed. -/
theorem firstBadField_eq_none_iff {checks : List (Nat × Bool)} : firstBadField checks = none ↔ ∀ c ∈ checks, c.2 = false := by
  simp [firstBadField]

/-! ### JOB_SUBMIT (R100 to R104) -/

/-- The checks of the fields of a JOB_SUBMIT, in the order of R103. -/
def submitChecks (p : Payload) : List (Nat × Bool) :=
  [(2, u16 p 6 < 1 ∨ 9999 < u16 p 6), (3, u16 p 8 < 1 ∨ 999 < u16 p 8), (4, 1 < byteAt p 10),
    (5, 1 < byteAt p 11), (7, 2 < byteAt p 13), (8, byteAt p 13 = 1 ∧ 63 < byteAt p 14)]

/-- JOB_SUBMIT of a known account, its fields in range. -/
def submitFor (p : Payload) (a : Account) (s : State) : Reply :=
  if a.role = .service then refuse .notPermitted
  else if a.suspended then refuse .state
  else if s.params.jobLimit ≤ (s.jobsOf (u16 p 0)).length then refuse .limit
  else if Config.jobEntries ≤ s.store.records.length then refuse .full
  else if byteAt p 13 = 0 ∧ (s.printers.get? (byteAt p 14)).isNone then refuse .notFound
  else
    let j := newJob p a.colour s
    okay (storeJob j s) (le 2 j.number ++ le 4 j.seq.toNat ++ [j.colour.code] ++ flag j.forcedMono)

theorem jobSubmit_eq (hp : p.length = 15) :
    jobSubmit p s = checked (submitChecks p) (match s.bank.accounts.get? (u16 p 0) with
      | none => refuse .notFound
      | some a => submitFor p a s) := by
  simp only [jobSubmit, hp, ne_eq, not_true_eq_false, if_false, submitChecks, checked_cons, checked_nil, decide_eq_true_eq] <;> rfl

theorem exec_jobSubmit_eq (hs : s.Receptive) (hp : p.length = 15) :
    exec (.jobSubmit p) s = .next (answer 0x40 (checked (submitChecks p) (match s.bank.accounts.get? (u16 p 0) with
      | none => refuse .notFound
      | some a => submitFor p a s)) s) := by
  rw [exec_jobSubmit hs, within_of_le (by omega), jobSubmit_eq hp]

theorem targetOf_eq (kind value : Nat) :
    targetOf kind value = if kind = 0 then .specific value else if kind = 1 then .floor value else .any := by
  match kind with
  | 0 | 1 => rfl
  | n + 2 => simp [targetOf]

theorem newJob_eq (p : Payload) (permitted : Bool) (s : State) :
    newJob p permitted s = ⟨issueNumber (s.store.records.map Job.number) s.store.lastNumber, s.store.nextSeq, u16 p 0, word p 2, u16 p 6,
      u16 p 8, if byteAt p 10 = 1 then .colour else .mono, if byteAt p 10 = 1 ∧ permitted = true then .colour else .mono,
      byteAt p 10 == 1 && !permitted, if byteAt p 11 = 1 then .a3 else .a4, flagAt p 12,
      if byteAt p 13 = 0 then .specific (byteAt p 14) else if byteAt p 13 = 1 then .floor (byteAt p 14) else .any,
      s.time.runSeconds, s.time.building, .held⟩ := by
  cases permitted <;> simp [newJob, Colour.ofCode, Size.ofCode, targetOf_eq, State.now]

/-- A job number issued belongs to no live job and lies in its range. -/
theorem newJob_number (hfull : s.store.records.length < 2048) (p : Payload) (permitted : Bool) :
    (∀ j ∈ s.store.records, j.number ≠ (newJob p permitted s).number) ∧ 1 ≤ (newJob p permitted s).number
      ∧ (newJob p permitted s).number ≤ 65535 := by
  refine ⟨fun j hj heq => ?_, issueNumber_range ..⟩
  have hmem : (newJob p permitted s).number ∈ s.store.records.map Job.number := heq ▸ List.mem_map_of_mem hj
  exact issueNumber_fresh (s.store.records.map Job.number) s.store.lastNumber (by rw [List.length_map]; omega) hmem

/-! ### JOB_CANCEL (R107 to R109) -/

theorem exec_jobCancel_of_two (hs : s.Receptive) (hp : p.length = 2) :
    exec (.jobCancel p) s = .next (answer 0x41 (jobCancel p s) s) := by
  rw [exec_jobCancel hs, within_of_le (by omega)]

theorem jobCancel_of_none (hp : p.length = 2) (hj : s.jobAt (u16 p 0) = none) : jobCancel p s = refuse .notFound := by
  simp only [jobCancel, hp, hj, ne_eq, not_true_eq_false, if_false]

section

variable {j : Job} (hp : p.length = 2) (hj : s.jobAt (u16 p 0) = some j)
include hp hj

theorem jobCancel_of_printing {r : ReleaseInfo} {u : Word} (hph : j.phase = .printing r u) : jobCancel p s = refuse .state := by
  simp only [jobCancel, hp, hj, hph, ne_eq, not_true_eq_false, if_false]

theorem jobCancel_of_held (hph : j.phase = .held) :
    jobCancel p s = okay (retireJob j.number s) (0 :: le 4 j.spool.toNat) := by
  simp only [jobCancel, cancelJob, hp, hj, hph, ne_eq, not_true_eq_false, if_false]
  rfl

theorem jobCancel_of_releasing {r : ReleaseInfo} (hph : j.phase = .releasing r) :
    jobCancel p s = okay (retireJob j.number (settle j.owner r 0 (undispatch j.number s))) (1 :: le 4 j.spool.toNat) := by
  simp only [jobCancel, cancelJob, hp, hj, hph, ne_eq, not_true_eq_false, if_false]
  rfl

end

theorem erase_eq_filter_ne {l : List Nat} (h : l.Nodup) (n : Nat) : l.erase n = l.filter (· ≠ n) := by
  rw [h.erase_eq_filter]
  exact List.filter_congr fun m _ => by by_cases hm : m = n <;> simp [hm]

theorem State.JobsSound.retireJob_eq (h : s.JobsSound) (n : Nat) : retireJob n s = { s with store := { s.store with
    records := s.store.records.filter (fun x => x.number != n), expiry := s.store.expiry.filter (· ≠ n) } } := by
  rw [retireJob, erase_eq_filter_ne h.expiry_nodup]

/-- Settles O41: JOB_SUBMIT by its checks in their order and the record it creates, JOB_CANCEL by the phase of the job. -/
theorem jobSubmitAndCancelChangeTheStore : Obligations.JobSubmitAndCancelChangeTheStore := by
  refine ⟨fun s p hs hp => ?submit, fun s p hs horders hp => ⟨fun hj => ?none, fun j hj => ⟨fun r u hph => ?printing, fun hph => ?held,
    fun r hph => ?releasing⟩⟩⟩
  case submit =>
    intro bad
    rw [exec_jobSubmit_eq hs hp]
    refine ⟨fun i hi => ?_, fun hbad ha => ?_, fun a ha hbad => ?_⟩
    · rw [checked_of_mem (checks := submitChecks p) hi, answer_badField]
    · rw [checked_of_none (checks := submitChecks p) hbad, ha, answer_refuse]
    · intro may room granted forced
      rw [checked_of_none (checks := submitChecks p) hbad, Option.mem_def.1 ha]
      dsimp only
      have hroom : room ↔ ¬ s.params.jobLimit ≤ (s.jobsOf (u16 p 0)).length := Nat.not_le.symm
      refine ⟨fun hr => ?_, fun hr hsus => ?_, fun hm hr => ?_, fun hm hr hf => ?_, fun hm hr hf h0 hno => ?_, fun hm hr hf ht => ?_⟩
      · rw [submitFor, if_pos hr, answer_refuse]
      · rw [submitFor, if_neg (by simp [hr]), if_pos hsus, answer_refuse]
      all_goals
        obtain ⟨huser, hact⟩ := hm
        rw [submitFor, if_neg (by simp [huser]), if_neg (by simp [hact])]
      · rw [if_pos (by simpa [hroom] using hr), answer_refuse]
      · rw [if_neg (hroom.1 hr), if_pos (by exact hf), answer_refuse]
      · rw [if_neg (hroom.1 hr), if_neg (by exact Nat.not_le.2 hf), if_pos ⟨h0, by simp [hno]⟩, answer_refuse]
      · rw [if_neg (hroom.1 hr), if_neg (by exact Nat.not_le.2 hf), if_neg fun h => by simpa [Option.isNone_iff_eq_none.1 h.2] using ht h.1]
        obtain ⟨hfresh, hlow, hhigh⟩ := newJob_number hf p a.colour
        refine ⟨storeJob (newJob p a.colour s) s, ?_, rfl, hfresh, hlow, hhigh, ?_⟩
        · rw [answer_okay, newJob_eq]
          rfl
        · rw [storeJob, newJob_eq]
  all_goals rw [exec_jobCancel_of_two hs hp]
  case none => rw [jobCancel_of_none hp hj, answer_refuse]
  case printing => rw [jobCancel_of_printing hp hj hph, answer_refuse]
  all_goals
    have hsound : s.JobsSound := jobOrdersSound_iff.1 horders
    obtain ⟨hmem, hnum⟩ := State.mem_of_jobAt (Option.mem_def.1 hj)
  case held => rw [jobCancel_of_held hp hj hph, answer_okay, hsound.retireJob_eq, hnum]
  case releasing =>
    rw [jobCancel_of_releasing hp hj hph, answer_okay, ← hnum]
    refine congrArg (fun t => Host.Outcome.next (answeredOk 0x41 _ t)) ?_
    have hbank := bank_settle_of_bank (s := s) (u := undispatch j.number s) rfl j.owner r 0
    have hexpiry := erase_eq_filter_ne hsound.expiry_nodup j.number
    have hdispatch := erase_eq_filter_ne hsound.dispatch_nodup j.number
    apply State.eq_of_fields <;> simp [retireJob, hbank, hexpiry, hdispatch]

end Sys2Proof.Machine
end

section
/-!
PROOFS. JOB_DONE (R91, R94, R106, R107, R150 to R152).
-/

namespace Sys2Proof.Machine

variable {s : State} {p : Payload} {j : Job} {r : ReleaseInfo}

theorem exec_jobDone_of_eight (hs : s.Receptive) (hp : p.length = 8) : exec (.jobDone p) s = .next (answer 0x52 (jobDone p s) s) := by
  rw [exec_jobDone hs, within_of_le (by omega)]

theorem jobDone_of_outcome (hp : p.length = 8) (h : 1 < byteAt p 6) : jobDone p s = badField 2 := by
  simp only [jobDone, hp, h, ne_eq, not_true_eq_false, if_false, if_true]

theorem jobDone_of_none (hp : p.length = 8) (h : byteAt p 6 ≤ 1) (hj : s.jobAt (u16 p 0) = none) : jobDone p s = refuse .notFound := by
  simp only [jobDone, hp, Nat.not_lt.2 h, hj, ne_eq, not_true_eq_false, if_false]

theorem jobDone_of_idle (hp : p.length = 8) (h : byteAt p 6 ≤ 1) (hj : s.jobAt (u16 p 0) = some j)
    (hph : ∀ r u, j.phase ≠ .printing r u) : jobDone p s = refuse .state := by
  simp only [jobDone, hp, Nat.not_lt.2 h, hj, ne_eq, not_true_eq_false, if_false]

theorem jobDone_of_printing {u : Word} (hp : p.length = 8) (h : byteAt p 6 ≤ 1) (hj : s.jobAt (u16 p 0) = some j)
    (hph : j.phase = .printing r u) :
    jobDone p s = okay (completeJob j r (min (u32 p 2) j.sides) (s.actualCost j r (min (u32 p 2) j.sides))
        (byteAt p 6 == 1 && flagAt p 7) s)
      (le 4 (min (u32 p 2) j.sides) ++ le 4 (s.actualCost j r (min (u32 p 2) j.sides))
        ++ le 4 (accountCharge r (s.actualCost j r (min (u32 p 2) j.sides)))
        ++ le 4 (poolCharge r (s.actualCost j r (min (u32 p 2) j.sides))) ++ flag (byteAt p 6 == 1 && flagAt p 7)) := by
  simp only [jobDone, hp, Nat.not_lt.2 h, hj, hph, ne_eq, not_true_eq_false, if_false]

/-- A job's return to HELD reads and changes the Job Store alone. -/
theorem returnToHeld_store (j : Job) (s : State) : (returnToHeld j s).store = { s.store with
    records := s.store.records.map fun x => if x.number = j.number then { x with phase := .held } else x
    expiry := insertBefore (s.newerThan j.seq) j.number s.store.expiry } := by
  simp only [returnToHeld, newerThan_updJob_phase, updJob_store, beq_iff_eq]

theorem returnToHeld_store_of_store {t : State} (h : t.store = s.store) (j : Job) : (returnToHeld j t).store = (returnToHeld j s).store := by
  rw [returnToHeld_store, returnToHeld_store, newerThan_of_store (congrArg JobStore.records h), h]

theorem completeJob_eq (n c : Nat) (requeue : Bool) : completeJob j r n c requeue s = { s with
    bank := (settle j.owner r c s).bank
    printers := s.printers.modify r.printer fun q => { q with
      jobsCompleted := q.jobsCompleted + 1, sidesCompleted := q.sidesCompleted + BitVec.ofNat 32 n }
    release := { s.release with histogram := s.release.histogram.set (bucketOf n).val (s.release.histogram.get (bucketOf n) + 1) }
    store := if requeue then (returnToHeld j s).store else (retireJob j.number s).store } := by
  cases requeue with
  | true =>
    apply State.eq_of_fields <;> simp [completeJob, countCompletion]
    exact returnToHeld_store_of_store rfl j
  | false => apply State.eq_of_fields <;> simp [completeJob, countCompletion, retireJob]

theorem bucketOf_val (n : Nat) : (bucketOf n).val
    = if n ≤ 1 then 0 else if n ≤ 10 then 1 else if n ≤ 50 then 2 else if n ≤ 200 then 3 else if n ≤ 1000 then 4 else 5 := by
  unfold bucketOf
  split_ifs <;> rfl

theorem histogram_counted (h : Vector Word 6) (b : Fin 6) (i : Nat) :
    (h.set b.val (h.get b + 1)).toList[i]? = h.toList[i]?.map fun w => if i = b.val then w + 1 else w := by
  have hget : h.toList[b.val] = h.get b := by simp [Vector.get_eq_getElem]
  rw [Vector.toList_set, List.getElem?_set]
  by_cases hi : b.val = i
  · subst hi
    simp [hget]
  · simp [hi, Ne.symm hi]

/-- Settles O52: the refusals in their order; the completion by the fields it changes, and the place of a job requeued by the split of the
expiry order. -/
theorem jobDoneSettlesAndCounts : Obligations.JobDoneSettlesAndCounts := by
  intro s p hs horders hp
  have hsound : s.JobsSound := jobOrdersSound_iff.1 horders
  rw [exec_jobDone_of_eight hs hp]
  refine ⟨fun h => ?outcome, fun h hj => ?none, fun j hj h => ⟨fun hph => ?idle, fun r u hph pr hpr => ?done⟩⟩
  case outcome => rw [jobDone_of_outcome hp h, answer_badField]; rfl
  case none => rw [jobDone_of_none hp h hj, answer_refuse]
  case idle => rw [jobDone_of_idle hp h hj hph, answer_refuse]
  case done =>
    intro n c charge again bucket
    have hcost : s.actualCost j r n = c := by rw [State.actualCost, Option.mem_def.1 hpr]; rfl
    have hagain : (byteAt p 6 == 1 && flagAt p 7) = decide again := by simp [again, Bool.decide_and, beq_eq_decide]
    have hdone : jobDone p s = okay (completeJob j r n c (decide again) s)
        (le 4 n ++ le 4 c ++ le 4 charge ++ le 4 (c - charge) ++ flag (decide again)) := by
      rw [jobDone_of_printing hp h hj hph, show min (u32 p 2) j.sides = n from rfl, hcost, hagain]
      rfl
    obtain ⟨hmem, -⟩ := State.mem_of_jobAt (Option.mem_def.1 hj)
    have hheld : j.phase ≠ .held := by simp [hph]
    rw [hdone, answer_okay, completeJob_eq]
    refine ⟨_, rfl, rfl, rfl, fun i _ => ?_, ?_, fun x hx => ?_, fun hno => ?_, fun hyes => ?_⟩
    · rw [histogram_counted, bucketOf_val]
    · rw [Table.get?_modify_self, Option.mem_def.1 hpr, Option.map_some]
    · rw [Table.get?_modify_ne _ _ hx]
    · rw [decide_eq_false hno]
      exact congrArg (fun l => { s.store with records := s.store.records.filter (fun x => x.number != j.number), expiry := l })
        (hsound.erase_expiry hmem hheld)
    · rw [decide_eq_true hyes]
      dsimp only
      rw [if_pos rfl, returnToHeld_store]
      obtain ⟨front, back, hsplit, hins, hfront, hback⟩ := insertBefore_split (s.newerThan j.seq) j.number s.store.expiry
      refine ⟨rfl, front, back, hsplit, hins, fun m hm i hi => ?_, fun m hm => ?_⟩
      · simpa [State.newerThan, Option.mem_def.1 hi] using hfront m hm
      · exact (Option.any_eq_true ..).1 (hback m hm)

end Sys2Proof.Machine
end

section
/-!
PROOFS. JOB_READ and JOB_NEXT_OF (R110, R111, R182): the walk over an owner's jobs.
-/

namespace Sys2Proof.Machine

variable {s : State} {p : Payload} {j : Job}

/-! ### The payload of a job -/

/-- The fields of a job's payload before its target value. -/
def jobHead (j : Job) : Payload :=
  le 2 j.number ++ le 4 j.seq.toNat ++ le 2 j.owner ++ le 4 j.spool.toNat ++ le 2 j.pages ++ le 2 j.copies
    ++ [j.requested.code, j.colour.code] ++ flag j.forcedMono ++ [j.size.code] ++ flag j.duplex ++ [j.target.code]

/-- The fields of a job's payload behind its target value. -/
def jobTail (j : Job) : Payload :=
  le 4 j.submitRun.toNat ++ le 4 j.submitBuilding.toNat ++ [j.phase.code] ++ releaseFields j.phase.info? ++ le 4 j.phase.takenAt.toNat

theorem jobPayload_eq (s : State) (j : Job) : jobPayload s j = jobHead j ++ targetValue s j.target :: jobTail j := by
  simp [jobPayload, jobHead, jobTail]

theorem length_jobHead (j : Job) : (jobHead j).length = 22 := by simp [jobHead, flag]

theorem length_jobTail (j : Job) : (jobTail j).length = 32 := by
  cases h : j.phase.info? <;> simp [jobTail, releaseFields, flag, h]

theorem length_jobPayload (s : State) (j : Job) : (jobPayload s j).length = 55 := by
  rw [jobPayload_eq, List.length_append, List.length_cons, length_jobHead, length_jobTail]

theorem take_jobPayload (s : State) (j : Job) : (jobPayload s j).take 22 = jobHead j := by
  rw [jobPayload_eq, List.take_left' (length_jobHead j)]

theorem drop_jobPayload (s : State) (j : Job) : (jobPayload s j).drop 22 = targetValue s j.target :: jobTail j := by
  rw [jobPayload_eq, List.drop_left' (length_jobHead j)]

theorem drop_jobPayload_succ (s : State) (j : Job) : (jobPayload s j).drop 23 = jobTail j := by
  rw [← List.drop_drop (i := 1) (j := 22), drop_jobPayload, List.drop_one, List.tail_cons]

theorem targetValue_eq {q : Nat} (h : j.target = .specific q ∨ j.target = .floor q) : targetValue s j.target = BitVec.ofNat 8 q := by
  obtain h | h := h <;> rw [h, targetValue]

/-! ### The walk -/

theorem afterJob_append {n : Nat} {front rest : List Job} (hf : ∀ i ∈ front, i.number ≠ n) (hj : j.number = n) :
    afterJob n (front ++ j :: rest) = some rest := by
  induction front with
  | nil => rw [List.nil_append, afterJob, if_pos hj]
  | cons i front ih =>
    obtain ⟨hi, hf⟩ := List.forall_mem_cons.1 hf
    rw [List.cons_append, afterJob, if_neg hi, ih hf]

theorem afterJob_eq_none {n : Nat} {l : List Job} (h : ∀ i ∈ l, i.number ≠ n) : afterJob n l = none := by
  induction l with
  | nil => rfl
  | cons i l ih =>
    obtain ⟨hi, hl⟩ := List.forall_mem_cons.1 h
    rw [afterJob, if_neg hi, ih hl]

/-- A walk that passes the last number read goes on behind it. -/
theorem walkFrom_append {front rest : List Job} (hnd : ((front ++ rest).map Job.number).Nodup) (hpos : ∀ i ∈ front, 1 ≤ i.number) :
    walkFrom ((front.getLast?.map Job.number).getD 0) (front ++ rest) = some rest := by
  obtain rfl | ⟨front, i, rfl⟩ := List.eq_nil_or_concat front
  · rfl
  · have hne : i.number ≠ 0 := by have := hpos i (by simp); omega
    rw [List.concat_eq_append, List.append_assoc] at hnd ⊢
    rw [List.getLast?_concat, Option.map_some, Option.getD_some, walkFrom, if_neg hne]
    refine afterJob_append (fun k hk => ?_) rfl
    rw [List.map_append] at hnd
    exact (List.nodup_append.1 hnd).2.2 _ (List.mem_map_of_mem hk) _ (by simp)

theorem exec_jobRead_of_two (hs : s.Receptive) (hp : p.length = 2) : exec (.jobRead p) s = .next (answer 0x42 (jobRead p s) s) := by
  rw [exec_jobRead hs, within_of_le (by omega)]

theorem exec_jobNextOf_of_four (hs : s.Receptive) (hp : p.length = 4) :
    exec (.jobNextOf p) s = .next (answer 0x43 (jobNextOf p s) s) := by
  rw [exec_jobNextOf hs, within_of_le (by omega)]

theorem jobRead_of_some (hp : p.length = 2) (hj : s.jobAt (u16 p 0) = some j) : jobRead p s = okayJob s j := by
  simp only [jobRead, hp, hj, ne_eq, not_true_eq_false, if_false]

theorem jobRead_of_none (hp : p.length = 2) (hj : s.jobAt (u16 p 0) = none) : jobRead p s = refuse .notFound := by
  simp only [jobRead, hp, hj, ne_eq, not_true_eq_false, if_false]

theorem jobNextOf_of_unknown (hp : p.length = 4) (ha : s.bank.accounts.get? (u16 p 0) = none) : jobNextOf p s = notFound 1 := by
  simp only [jobNextOf, hp, ha, Option.isNone_none, ne_eq, not_true_eq_false, if_false, if_true]

section

variable (hp : p.length = 4) (ha : (s.bank.accounts.get? (u16 p 0)).isSome = true)
include hp ha

theorem jobNextOf_of_known : jobNextOf p s = match walkFrom (u16 p 2) (s.jobsOf (u16 p 0)) with
    | none => notFound 2
    | some [] => refuse .empty
    | some (j :: _) => okayJob s j := by
  obtain ⟨a, ha⟩ := Option.isSome_iff_exists.1 ha
  simp only [jobNextOf, hp, ha, Option.isNone_some, ne_eq, not_true_eq_false, if_false, Bool.false_eq_true] <;> rfl

theorem jobNextOf_of_end (hw : walkFrom (u16 p 2) (s.jobsOf (u16 p 0)) = some []) : jobNextOf p s = refuse .empty := by
  rw [jobNextOf_of_known hp ha, hw]

theorem jobNextOf_of_next {rest : List Job} (hw : walkFrom (u16 p 2) (s.jobsOf (u16 p 0)) = some (j :: rest)) :
    jobNextOf p s = okayJob s j := by
  rw [jobNextOf_of_known hp ha, hw]

theorem jobNextOf_of_foreign (hw : walkFrom (u16 p 2) (s.jobsOf (u16 p 0)) = none) : jobNextOf p s = notFound 2 := by
  rw [jobNextOf_of_known hp ha, hw]

end

/-- The two-byte field behind a two-byte field. -/
theorem u16_behind_two (a : Nat) (q : Payload) : u16 (le 2 a ++ q) 2 = u16 q 0 := rfl

theorem State.mem_jobsOf {a : Nat} : j ∈ s.jobsOf a ↔ j ∈ s.store.records ∧ j.owner = a := by
  simp [State.jobsOf]

/-- Settles O42: the bytes of a job by the layout of its payload, the walk by where it goes on. -/
theorem jobWalkReadsTheOwnersJobs : Obligations.JobWalkReadsTheOwnersJobs := by
  refine ⟨fun s a front rest j hs horders ha hacc hjobs => ?walk, fun s p hs => ⟨fun hp hj => ?none, fun hp ha => ?account,
    fun hp ha h0 hno => ?foreign, fun hp ha h0 hnil => ?empty⟩⟩
  case none => rw [exec_jobRead_of_two hs hp, jobRead_of_none hp hj, answer_refuse]
  case account => rw [exec_jobNextOf_of_four hs hp, jobNextOf_of_unknown hp ha, answer_notFound]; rfl
  case foreign =>
    have hw : walkFrom (u16 p 2) (s.jobsOf (u16 p 0)) = none := by rw [walkFrom, if_neg h0, afterJob_eq_none hno]
    rw [exec_jobNextOf_of_four hs hp, jobNextOf_of_foreign hp ha hw, answer_notFound]; rfl
  case empty =>
    have hw : walkFrom (u16 p 2) (s.jobsOf (u16 p 0)) = some [] := by rw [walkFrom, if_pos h0, hnil]
    rw [exec_jobNextOf_of_four hs hp, jobNextOf_of_end hp ha hw, answer_refuse]
  case walk =>
    intro prev ask
    have hsound : s.JobsSound := jobOrdersSound_iff.1 horders
    have hnd : ((s.jobsOf a).map Job.number).Nodup := (List.filter_sublist.map _).nodup hsound.nodup
    have hrec (i : Job) (hi : i ∈ s.jobsOf a) : i ∈ s.store.records := (State.mem_jobsOf.1 hi).1
    have hrange (i : Job) (hi : i ∈ s.jobsOf a) : 1 ≤ i.number ∧ i.number ≤ 65535 :=
      hsound.numbered _ (List.mem_map_of_mem (hrec i hi))
    have hjmem : j ∈ s.jobsOf a := by simp [hjobs]
    have hask (n : Nat) (hn : n ≤ 65535) : (le 2 a ++ le 2 n : Payload).length = 4 ∧ u16 (le 2 a ++ le 2 n) 0 = a
        ∧ u16 (le 2 a ++ le 2 n) 2 = n :=
      ⟨by simp, u16_le_two ha _, (u16_behind_two a _).trans (u16_le_two' hn)⟩
    have hget (n : Nat) (hn : n ≤ 65535) : (s.bank.accounts.get? (u16 (le 2 a ++ le 2 n) 0)).isSome = true := by
      rw [(hask n hn).2.1]
      exact hacc
    have hprev : prev ≤ 65535 := by
      cases hl : front.getLast? with
      | none => simp [prev, hl]
      | some i => simpa [prev, hl] using (hrange i (by rw [hjobs]; exact List.mem_append_left _ (List.mem_of_getLast? hl))).2
    have hwalk : walkFrom prev (s.jobsOf a) = some (j :: rest) := by
      rw [hjobs]
      exact walkFrom_append (hjobs ▸ hnd) fun i hi => (hrange i (by rw [hjobs]; exact List.mem_append_left _ hi)).1
    refine ⟨if j.target = .any then { s with freeCount := s.freeCount + 1 } else s, jobPayload s j, ?next, ?read, ?frame, fun h => if_neg h,
      length_jobPayload s j, ?head, fun q hq => ?target, drop_jobPayload_succ s j, ?last⟩
    case next =>
      obtain ⟨hlen, hu, hv⟩ := hask prev hprev
      rw [exec_jobNextOf_of_four hs hlen, jobNextOf_of_next hlen (hget prev hprev) (by rw [hu, hv, hwalk]), okayJob, answer_okay]
    case read =>
      have hj : s.jobAt (u16 (le 2 j.number) 0) = some j := by
        rw [u16_le_two' (hrange j hjmem).2, hsound.jobAt (hrec j hjmem)]
      rw [exec_jobRead_of_two hs (by simp), jobRead_of_some (by simp) hj, okayJob, answer_okay]
    case frame => split <;> rfl
    case head => rw [take_jobPayload, jobHead, (State.mem_jobsOf.1 hjmem).2]
    case target =>
      rw [drop_jobPayload, drop_jobPayload_succ, targetValue_eq hq]
      rfl
    case last =>
      rintro rfl
      obtain ⟨hlen, hu, hv⟩ := hask j.number (hrange j hjmem).2
      have hend : walkFrom j.number (s.jobsOf a) = some [] := by
        have hpos := (hrange j hjmem).1
        rw [walkFrom, if_neg (by omega), hjobs]
        refine afterJob_append (fun i hi => ?_) rfl
        rw [hjobs, List.map_append] at hnd
        exact (List.nodup_append.1 hnd).2.2 _ (List.mem_map_of_mem hi) _ (by simp)
      rw [exec_jobNextOf_of_four hs hlen, jobNextOf_of_end hlen (hget _ (hrange j hjmem).2) (by rw [hu, hv, hend]), answer_refuse]

end Sys2Proof.Machine
end

section
/-!
PROOFS. ACCOUNT_ADD, ACCOUNT_SET and ACCOUNT_RETIRE (R80 to R82, R85, R107).
-/

namespace Sys2Proof.Machine

variable {s t : State} {p : Payload} {n : Nat} {token : Word} {a : Account}

/-! ### The holder of a token (R80) -/

theorem State.mem_of_badge {e : Nat × Account} (h : s.badge token = some e) : e ∈ s.bank.accounts ∧ e.2.token = some token :=
  ⟨List.mem_of_find?_eq_some h, by simpa using List.find?_some h⟩

theorem tokenField_of_ne (h : token ≠ 0) : tokenField token = some token := if_neg h

theorem tokenHolder_eq_some {e : Nat × Account} (hb : s.badge token = some e) (h0 : token ≠ 0) (hn : e.1 ≠ n) :
    s.tokenHolder n (tokenField token) = some e.1 := by
  simp [tokenField_of_ne h0, State.tokenHolder, hb, hn, Option.filter]

/-- A token is free for account `n` when it is no token, no account's, or its own. -/
theorem tokenHolder_eq_none (h : token = 0 ∨ s.badge token = none ∨ ∃ e ∈ s.badge token, e.1 = n) :
    s.tokenHolder n (tokenField token) = none := by
  obtain rfl | h := h
  · rfl
  by_cases h0 : token = 0
  · rw [tokenField, if_pos h0, State.tokenHolder]
  rw [tokenField_of_ne h0, State.tokenHolder]
  obtain h | ⟨e, he, rfl⟩ := h
  · rw [h]; rfl
  · simp [Option.mem_def.1 he, Option.filter]

theorem ne_of_vacant {e : Nat × Account} (he : e ∈ s.bank.accounts) (hn : s.bank.accounts.get? n = none) : e.1 ≠ n := by
  rintro rfl
  have := (Table.get?_isSome_iff s.bank.accounts e.1).2 (List.mem_map_of_mem he)
  simp [hn] at this

/-- A new account's token finds it. -/
theorem badge_put (ha : a.token = some token) (hb : s.badge token = none) (hacc : t.bank.accounts = s.bank.accounts.put n a) :
    t.badge token = some (n, a) := by
  rw [State.badge, hacc]
  exact Table.find?_put_of_none hb (by simp [ha])

/-! ### Jobs in flight of an account -/

theorem State.inflightOf_ne_zero_iff : s.inflightOf n ≠ 0 ↔ ∃ j ∈ s.jobsOf n, j.phase ≠ .held := by
  rw [State.inflightOf, ← Nat.pos_iff_ne_zero, List.countP_pos_iff]
  simp only [Job.inFlight_eq, bne_iff_ne]

theorem State.inflightOf_eq_zero (h : ∀ j ∈ s.jobsOf n, j.phase = .held) : s.inflightOf n = 0 := by
  by_contra hne
  obtain ⟨j, hj, hph⟩ := State.inflightOf_ne_zero_iff.1 hne
  exact hph (h j hj)

/-! ### ACCOUNT_ADD (R80, R81) -/

/-- The checks of the fields of an ACCOUNT_ADD, in their order. -/
def addChecks (p : Payload) : List (Nat × Bool) :=
  [(0, u16 p 0 = 0), (2, 63 < byteAt p 6), (3, 1 < byteAt p 7), (4, 1 < byteAt p 8),
    (6, i32 p 10 < -100000 ∨ 2000000 < i32 p 10), (7, 2000000 < u32 p 14), (8, 2000000 < u32 p 18)]

/-- ACCOUNT_ADD, its fields in range. -/
def addInRange (p : Payload) (s : State) : Reply :=
  if (s.bank.accounts.get? (u16 p 0)).isSome then existsAt (u16 p 0)
  else
    match s.tokenHolder (u16 p 0) (tokenField (word p 2)) with
    | some h => existsAt h
    | none =>
      if Config.accountEntries ≤ s.bank.accounts.length then refuse .full
      else okay { s with bank := { s.bank with accounts := s.bank.accounts.put (u16 p 0) (newAccount p) } } []

theorem exec_accountAdd_eq (hs : s.Receptive) (hp : p.length = 22) :
    exec (.accountAdd p) s = .next (answer 0x30 (checked (addChecks p) (addInRange p s)) s) := by
  have hadd : accountAdd p s = checked (addChecks p) (addInRange p s) := by
    simp only [accountAdd, hp, ne_eq, not_true_eq_false, if_false, addChecks, checked_cons, checked_nil, decide_eq_true_eq] <;> rfl
  rw [exec_accountAdd hs, within_of_le (by omega), hadd]

theorem answer_existsAt (code : Byte) (n : Nat) (s : State) : answer code (existsAt n) s = answeredNo code .exists (le 2 n) s := rfl

theorem addInRange_of_used (h : (s.bank.accounts.get? (u16 p 0)).isSome = true) : addInRange p s = existsAt (u16 p 0) := if_pos h

section

variable (hn : s.bank.accounts.get? (u16 p 0) = none)
include hn

theorem addInRange_of_vacant : addInRange p s = match s.tokenHolder (u16 p 0) (tokenField (word p 2)) with
    | some h => existsAt h
    | none =>
      if Config.accountEntries ≤ s.bank.accounts.length then refuse .full
      else okay { s with bank := { s.bank with accounts := s.bank.accounts.put (u16 p 0) (newAccount p) } } [] :=
  if_neg (by simp [hn])

theorem addInRange_of_held {h : Nat} (hh : s.tokenHolder (u16 p 0) (tokenField (word p 2)) = some h) : addInRange p s = existsAt h := by
  rw [addInRange_of_vacant hn, hh]

theorem addInRange_of_free (hh : s.tokenHolder (u16 p 0) (tokenField (word p 2)) = none) : addInRange p s
    = if Config.accountEntries ≤ s.bank.accounts.length then refuse .full
      else okay { s with bank := { s.bank with accounts := s.bank.accounts.put (u16 p 0) (newAccount p) } } [] := by
  rw [addInRange_of_vacant hn, hh]

end

/-! ### ACCOUNT_SET (R82) -/

/-- The checks of the fields of an ACCOUNT_SET, in their order. -/
def setChecks (p : Payload) : List (Nat × Bool) :=
  [(2, 63 < byteAt p 6), (3, 1 < byteAt p 7), (4, 1 < byteAt p 8), (6, 2000000 < u32 p 10), (7, 2000000 < u32 p 14)]

/-- ACCOUNT_SET of a known account, its fields in range. -/
def setInRange (p : Payload) (a : Account) (s : State) : Reply :=
  match s.tokenHolder (u16 p 0) (tokenField (word p 2)) with
  | some h => existsAt h
  | none =>
    if byteAt p 6 ≠ a.group ∧ s.inflightOf (u16 p 0) ≠ 0 then refuse .busy
    else if a.role = .user ∧ byteAt p 7 = 1 ∧ (s.jobsOf (u16 p 0)).length ≠ 0 then refuse .state
    else okay (updAccount (u16 p 0) (Account.set p) s) []

theorem exec_accountSet_of_18 (hs : s.Receptive) (hp : p.length = 18) :
    exec (.accountSet p) s = .next (answer 0x31 (accountSet p s) s) := by
  rw [exec_accountSet hs, within_of_le (by omega)]

theorem accountSet_of_vacant (hp : p.length = 18) (hn : s.bank.accounts.get? (u16 p 0) = none) : accountSet p s = refuse .notFound := by
  simp only [accountSet, hp, hn, ne_eq, not_true_eq_false, if_false]

theorem accountSet_of_get? (hp : p.length = 18) (ha : s.bank.accounts.get? (u16 p 0) = some a) :
    accountSet p s = checked (setChecks p) (setInRange p a s) := by
  simp only [accountSet, hp, ha, ne_eq, not_true_eq_false, if_false, setChecks, checked_cons, checked_nil, decide_eq_true_eq] <;> rfl

theorem setInRange_of_held {h : Nat} (hh : s.tokenHolder (u16 p 0) (tokenField (word p 2)) = some h) : setInRange p a s = existsAt h := by
  rw [setInRange, hh]

theorem setInRange_of_free (hh : s.tokenHolder (u16 p 0) (tokenField (word p 2)) = none) : setInRange p a s
    = if byteAt p 6 ≠ a.group ∧ s.inflightOf (u16 p 0) ≠ 0 then refuse .busy
      else if a.role = .user ∧ byteAt p 7 = 1 ∧ (s.jobsOf (u16 p 0)).length ≠ 0 then refuse .state
      else okay (updAccount (u16 p 0) (Account.set p) s) [] := by
  rw [setInRange, hh]

/-- Settles O36: both requests by their checks in their order, the records by the table's own rules. -/
theorem accountAddAndSetStoreTheRecord : Obligations.AccountAddAndSetStoreTheRecord := by
  refine ⟨fun s p hs ht hp => ?add, fun s p hs hp => ?set⟩
  case add =>
    intro n token bad
    rw [exec_accountAdd_eq hs hp]
    refine ⟨fun i hi => ?bad, fun hbad => ?_⟩
    case bad => rw [checked_of_mem (checks := addChecks p) hi, answer_badField]
    rw [checked_of_none (checks := addChecks p) hbad]
    refine ⟨fun hu => ?used, fun hn h0 e he => ?held, fun hn hfree hfull => ?full, fun hn hfree hroom => ?room⟩
    case used => rw [addInRange_of_used hu, answer_existsAt]
    case held =>
      have hne := ne_of_vacant (State.mem_of_badge (Option.mem_def.1 he)).1 hn
      rw [addInRange_of_held hn (tokenHolder_eq_some (Option.mem_def.1 he) h0 hne), answer_existsAt]
    all_goals have hholder := tokenHolder_eq_none (n := n) (hfree.imp_right .inl)
    case full => rw [addInRange_of_free hn hholder, if_pos (by exact hfull), answer_refuse]
    case room =>
      rw [addInRange_of_free hn hholder, if_neg (by exact Nat.not_le.2 hroom), answer_okay]
      refine ⟨_, rfl, rfl, fun m hm => Table.get?_put_ne _ _ hm, newAccount p, Table.get?_put_self _ _ _, rfl, fun h0 => ?_⟩
      exact badge_put (tokenField_of_ne h0) (hfree.resolve_left h0) rfl
  case set =>
    intro n token bad free
    rw [exec_accountSet_of_18 hs hp]
    refine ⟨fun hn => ?vacant, fun a ha => ?known⟩
    case vacant => rw [accountSet_of_vacant hp hn, answer_refuse]
    case known =>
      intro busy owner
      rw [accountSet_of_get? hp ha]
      have hbusy : busy ↔ byteAt p 6 ≠ a.group ∧ s.inflightOf (u16 p 0) ≠ 0 := by rw [State.inflightOf_ne_zero_iff]
      have howner : owner ↔ a.role = .user ∧ byteAt p 7 = 1 ∧ (s.jobsOf (u16 p 0)).length ≠ 0 := by
        simp only [owner, ne_eq, List.length_eq_zero_iff]
        rfl
      refine ⟨fun i hi => ?_, fun hbad h0 e he hne => ?_, fun hbad hf hb => ?_, fun hbad hf hb ho => ?_, fun hbad hf hb ho => ?_⟩
      · rw [checked_of_mem (checks := setChecks p) hi, answer_badField]
      all_goals rw [checked_of_none (checks := setChecks p) hbad]
      · rw [setInRange_of_held (tokenHolder_eq_some (Option.mem_def.1 he) h0 hne), answer_existsAt]
      all_goals rw [setInRange_of_free (tokenHolder_eq_none hf)]
      · rw [if_pos (hbusy.1 hb), answer_refuse]
      all_goals rw [if_neg (mt hbusy.2 hb)]
      · rw [if_pos (howner.1 ho), answer_refuse]
      · rw [if_neg (mt howner.2 ho), answer_okay]
        refine ⟨_, rfl, rfl, fun m hm => ?_, ?_⟩
        · rw [updAccount_bank, Table.get?_modify_ne _ _ hm]
        · rw [updAccount_bank, Table.get?_modify_self, Option.mem_def.1 ha]
          rfl

/-! ### ACCOUNT_RETIRE (R85, R107) -/

theorem exec_accountRetire_of_two (hs : s.Receptive) (hp : p.length = 2) :
    exec (.accountRetire p) s = .next (answer 0x35 (accountRetire p s) s) := by
  rw [exec_accountRetire hs, within_of_le (by omega)]

theorem accountRetire_of_vacant (hp : p.length = 2) (hn : s.bank.accounts.get? (u16 p 0) = none) :
    accountRetire p s = refuse .notFound := by
  simp only [accountRetire, hp, hn, ne_eq, not_true_eq_false, if_false]

theorem accountRetire_of_get? (hp : p.length = 2) (ha : s.bank.accounts.get? (u16 p 0) = some a) :
    accountRetire p s = if s.inflightOf (u16 p 0) ≠ 0 then refuse .busy
      else okay (removeAccount (u16 p 0) (retireJobs (s.heldOf (u16 p 0)) s)) (le 1 (s.heldOf (u16 p 0)).length ++ leInt 4 a.balance) := by
  simp only [accountRetire, hp, ha, ne_eq, not_true_eq_false, if_false]

/-- Settles O37: with every job of the account HELD, the jobs that retire are all it has. -/
theorem accountRetireRemovesTheAccount : Obligations.AccountRetireRemovesTheAccount := by
  intro s p hs horders hp n
  have hsound : s.JobsSound := jobOrdersSound_iff.1 horders
  rw [exec_accountRetire_of_two hs hp]
  refine ⟨fun hn => ?vacant, fun a ha => ?known⟩
  case vacant => rw [accountRetire_of_vacant hp hn, answer_refuse]
  case known =>
    rw [accountRetire_of_get? hp ha]
    refine ⟨fun hb => ?busy, fun hheld => ?retired⟩
    case busy => rw [if_pos (State.inflightOf_ne_zero_iff.2 hb), answer_refuse]
    case retired =>
      have hall : s.heldOf n = (s.jobsOf n).map Job.number := by
        rw [State.heldOf, List.filter_eq_self.2 fun j hj => Job.isHeld_iff.2 (hheld j hj)]
      have hmem (j : Job) (hj : j ∈ s.store.records) : j.number ∈ s.heldOf n ↔ j.owner = n := by
        rw [hall]
        constructor
        · intro h
          obtain ⟨i, hi, hij⟩ := List.mem_map.1 h
          obtain ⟨hi, ho⟩ := State.mem_jobsOf.1 hi
          exact (List.inj_on_of_nodup_map hsound.nodup hi hj hij) ▸ ho
        · exact fun ho => List.mem_map_of_mem (State.mem_jobsOf.2 ⟨hj, ho⟩)
      have hlen : (s.heldOf n).length = (s.jobsOf n).length := by rw [hall, List.length_map]
      have hrecords : s.store.records.filter (fun j => !(s.heldOf n).contains j.number) = s.store.records.filter fun j => j.owner != n :=
        List.filter_congr fun j hj => by rw [Bool.eq_iff_iff]; simp [hmem j hj]
      have hexpiry : s.store.expiry.filter (fun m => !(s.heldOf n).contains m)
          = s.store.expiry.filter fun m => !(s.jobsOf n).any fun j => j.number == m :=
        List.filter_congr fun m _ => by rw [Bool.eq_iff_iff]; simp [hall]
      rw [if_neg (not_not.2 (State.inflightOf_eq_zero hheld)), answer_okay, hlen, removeAccount, retireJobs_frame,
        retireJobs_store hsound.expiry_nodup, hrecords, hexpiry]
      rfl

end Sys2Proof.Machine
end

section
/-!
PROOFS. Cost, reservation and settlement (R90, R92 to R94), GROUP_SET and PRICE_SET (R87, R89, R95).
-/

namespace Sys2Proof.Machine

variable {s t : State} {p : Payload} {n : Nat} {a : Account}

/-! ### Groups and prices by number -/

theorem groupAt_updGroup_self {f : BudgetGroup → BudgetGroup} (h : n ∈ Table.keys s.bank.groups) :
    (updGroup n f s).groupAt n = f (s.groupAt n) := by
  obtain ⟨g, hg⟩ := Option.isSome_iff_exists.1 ((Table.get?_isSome_iff s.bank.groups n).2 h)
  simp only [State.groupAt, updGroup_bank, Table.get?_modify_self, hg, Option.map_some, Option.getD_some]

theorem groupAt_updGroup_ne {f : BudgetGroup → BudgetGroup} {m : Nat} (h : m ≠ n) : (updGroup n f s).groupAt m = s.groupAt m := by
  simp only [State.groupAt, updGroup_bank, Table.get?_modify_ne _ _ h]

theorem groupAt_of_groups (h : t.bank.groups = s.bank.groups) (n : Nat) : t.groupAt n = s.groupAt n := by
  rw [State.groupAt, h, State.groupAt]

/-- A settlement or a reservation: one update of an account and one of its group. -/
theorem get?_charged {g : Nat} {f : BudgetGroup → BudgetGroup} {f' : Account → Account} (ha : s.bank.accounts.get? n = some a) :
    (updGroup g f (updAccount n f' s)).bank.accounts.get? n = some (f' a) := by
  simp only [updGroup_bank, updAccount_bank, Table.get?_modify_self, ha, Option.map_some]

theorem groupAt_charged {g : Nat} {f : BudgetGroup → BudgetGroup} {f' : Account → Account} (hg : g ∈ Table.keys s.bank.groups) :
    (updGroup g f (updAccount n f' s)).groupAt g = f (s.groupAt g) := by
  rw [groupAt_updGroup_self (s := updAccount n f' s) (by simpa using hg), groupAt_of_groups (s := s) (by simp)]

/-! ### The cost of sides (R90) -/

theorem Prices.side_eq (q : Prices) (c : Colour) (z : Size) : q.side c z
    = if z = .a4 then (if c = .colour then q.colourA4 else q.monoA4) else (if c = .colour then q.colourA3 else q.monoA3) := by
  cases c <;> cases z <;> rfl

theorem sixteenths_rounded_up (x : Nat) : x ≤ 16 * ((x + 15) / 16) ∧ 16 * ((x + 15) / 16) < x + 16 := by omega

theorem State.portions_eq (s : State) (a : Account) (c : Nat) : s.portions a c
    = if (c : Int) ≤ s.accountAvailable a then some (c, 0)
      else if a.poolDraw = true ∧ 0 ≤ s.accountAvailable a ∧ (c : Int) - s.accountAvailable a ≤ (s.groupAt a.group).available then
        some ((s.accountAvailable a).toNat, c - (s.accountAvailable a).toNat) else none := rfl

theorem portions_sum {c : Nat} {uv : Nat × Nat} (h : s.portions a c = some uv) : uv.1 + uv.2 = c := by
  obtain ⟨-, rfl⟩ | ⟨hlt, -, hpos, -, rfl⟩ := portions_cases h
  · rfl
  · dsimp only
    omega

/-- Settles O40: the cost by its rounding, the division by its two cases, and the settlement after the reservation field by field. -/
theorem reservationIsReturnedBySettlement : Obligations.ReservationIsReturnedBySettlement := by
  intro s n cost actual a r ht ha hgroup g available poolAvailable
  refine ⟨fun cls size print duplex sides => ?cost, rfl, fun uv huv => portions_sum huv, fun hsum hle => ?settled⟩
  case cost =>
    intro q price
    refine ⟨if duplex then (sides * price * s.params.duplexFactor + 15) / 16 else sides * price, ?_, fun hd => by simp [hd], fun hd => ?_⟩
    · rw [State.cost, Prices.side_eq]
      rfl
    · rw [if_pos hd]
      exact sixteenths_rounded_up _
  case settled =>
    intro mid t charge
    have hgroups : a.group ∈ Table.keys s.bank.groups := by
      obtain ⟨-, -, -, -, -, -, -, -, -, -, hkeys, -⟩ := ht
      rw [hkeys]
      exact List.mem_range.2 (by omega)
    have hmid : mid = updGroup a.group (fun g => { g with reserved := g.reserved + r.poolPortion })
        (updAccount n (fun a => { a with reserved := a.reserved + r.accountPortion }) s) := addReservation_of_get? ha
    have hamid : mid.bank.accounts.get? n = some { a with reserved := a.reserved + r.accountPortion } := by
      rw [hmid, get?_charged ha]
    have hgmid : mid.groupAt a.group = { g with reserved := g.reserved + r.poolPortion } := by rw [hmid, groupAt_charged hgroups]
    have ht : t = updGroup a.group (fun g => { g with pool := g.pool - poolCharge r actual, reserved := g.reserved - r.poolPortion })
        (updAccount n (fun x => { x with balance := max Config.balanceMin (x.balance - accountCharge r actual),
                                         reserved := x.reserved - r.accountPortion }) mid) := by
      have hset := settle_of_get? (r := r) (c := actual) hamid
      exact hset
    have hkeys : a.group ∈ Table.keys mid.bank.groups := by
      rw [hmid]
      simpa using hgroups
    refine ⟨hamid, hgmid, ?_, ?_, ?_, ?_, fun m hm => ?_, fun m hm => ?_⟩
    · rw [ht, get?_charged hamid]
      simp [accountCharge, charge, Config.balanceMin]
    · rw [ht, groupAt_charged hkeys, hgmid]
      simp [poolCharge, accountCharge, charge]
    · simp only [charge]
      omega
    · apply State.eq_of_fields <;> simp [t, mid]
    · rw [ht, hmid]
      simp [Table.get?_modify_ne _ _ hm]
    · rw [ht, groupAt_updGroup_ne hm, groupAt_of_groups (s := mid) (by simp), hmid, groupAt_updGroup_ne hm, groupAt_of_groups (s := s) (by simp)]

/-! ### GROUP_SET (R87, R95) -/

/-- The checks of the fields of a GROUP_SET, in their order. -/
def groupChecks (p : Payload) : List (Nat × Bool) :=
  [(0, 63 < byteAt p 0), (1, 2 < byteAt p 1),
    (2, (byteAt p 1 = 1 ∧ (i32 p 2 < 0 ∨ 16000000 < i32 p 2)) ∨ (byteAt p 1 = 2 ∧ (i32 p 2 < -16000000 ∨ 16000000 < i32 p 2))),
    (3, 16000000 < u32 p 6), (4, 16000000 < u32 p 10), (5, 100000 < u32 p 14), (6, byteAt p 18 < 1 ∨ 31 < byteAt p 18),
    (7, byteAt p 18 ≤ byteAt p 19)]

/-- The pool a GROUP_SET of fields in range leaves. -/
def poolSet (p : Payload) (s : State) : Nat :=
  if byteAt p 1 = 0 then (s.groupAt (byteAt p 0)).pool
  else if byteAt p 1 = 1 then (i32 p 2).toNat
  else min Config.poolMax (((s.groupAt (byteAt p 0)).pool : Int) + i32 p 2).toNat

/-- GROUP_SET, its fields in range. -/
def groupInRange (p : Payload) (s : State) : Reply :=
  okay (refreshMembers (byteAt p 0) ((u32 p 14 : Int) - (s.groupAt (byteAt p 0)).overdraft)
    (updGroup (byteAt p 0) (BudgetGroup.set p (poolSet p s)) s)) (le 4 (poolSet p s))

theorem poolAfter_eq (mode : Nat) (v : Int) (pool : Nat) (h : mode ≤ 2) : poolAfter mode v pool
    = if (mode = 1 ∧ (v < 0 ∨ 16000000 < v)) ∨ (mode = 2 ∧ (v < -16000000 ∨ 16000000 < v)) then none
      else some (if mode = 0 then pool else if mode = 1 then v.toNat else min Config.poolMax ((pool : Int) + v).toNat) := by
  match mode, h with
  | 0, _ => simp [poolAfter]
  | 1, _ => by_cases hv : 0 ≤ v ∧ v ≤ 16000000 <;> simp [poolAfter, Config.poolMax, hv]
  | 2, _ => by_cases hv : -16000000 ≤ v ∧ v ≤ 16000000 <;> simp [poolAfter, Config.poolMax, hv]

theorem groupSet_eq (hp : p.length = 20) : groupSet p s = checked (groupChecks p) (groupInRange p s) := by
  simp only [groupSet, hp, ne_eq, not_true_eq_false, if_false, groupChecks, checked_cons, checked_nil, decide_eq_true_eq]
  by_cases hn : 63 < byteAt p 0
  · rw [if_pos hn, if_pos hn]
  rw [if_neg hn, if_neg hn]
  by_cases hm : 2 < byteAt p 1
  · rw [if_pos hm, if_pos hm]
  rw [if_neg hm, if_neg hm, poolAfter_eq _ _ _ (Nat.not_lt.1 hm)]
  by_cases hv : (byteAt p 1 = 1 ∧ (i32 p 2 < 0 ∨ 16000000 < i32 p 2)) ∨ (byteAt p 1 = 2 ∧ (i32 p 2 < -16000000 ∨ 16000000 < i32 p 2))
  · rw [if_pos hv, if_pos hv]
  · rw [if_neg hv, if_neg hv]
    rfl

theorem exec_groupSet_eq (hs : s.Receptive) (hp : p.length = 20) :
    exec (.groupSet p) s = .next (answer 0x36 (checked (groupChecks p) (groupInRange p s)) s) := by
  rw [exec_groupSet hs, within_of_le (by omega), groupSet_eq hp]

theorem groupAt_refreshMembers (g : Nat) (change : Int) (s : State) (m : Nat) : (refreshMembers g change s).groupAt m = s.groupAt m := rfl

/-- A member once its group's overdraft has changed. -/
def State.refreshed (s : State) (g : Nat) (change : Int) (a : Account) : Account :=
  if a.group = g then a.afterOverdraft change (s.accountAvailable a) else a

theorem get?_refreshMembers (g : Nat) (change : Int) (s : State) (m : Nat) :
    (refreshMembers g change s).bank.accounts.get? m = (s.bank.accounts.get? m).map (s.refreshed g change) := by
  have hmap : (refreshMembers g change s).bank.accounts = s.bank.accounts.map fun e => (e.1, s.refreshed g change e.2) :=
    List.map_congr_left fun e _ => by
      unfold State.refreshed
      split <;> rfl
  rw [hmap]
  exact Table.get?_mapWith s.bank.accounts (fun _ => s.refreshed g change) m

theorem refreshed_eq (s : State) (g : Nat) (change : Int) (a : Account) :
    s.refreshed g change a = { a with exhausted := (s.refreshed g change a).exhausted } := by
  unfold State.refreshed
  split <;> rfl

theorem refreshed_exhausted_iff {g : Nat} {change : Int} : (s.refreshed g change a).exhausted = true
    ↔ a.exhausted = true ∧ ¬ (a.group = g ∧ 0 < change ∧ 0 < s.accountAvailable a) := by
  unfold State.refreshed
  by_cases hg : a.group = g
  · rw [if_pos hg, Account.afterOverdraft, keepExhausted_iff]
    have hrise : s.accountAvailable a - change < s.accountAvailable a ↔ 0 < change := by omega
    simp only [hg, hrise, true_and]
  · simp [hg]

/-! ### PRICE_SET (R89) -/

theorem exec_priceSet_of_nine (hs : s.Receptive) (hp : p.length = 9) :
    exec (.priceSet p) s = .next (answer 0x38 (priceSet p s) s) := by
  rw [exec_priceSet hs, within_of_le (by omega)]

theorem priceSet_of_out (hp : p.length = 9) (hn : 7 < byteAt p 0) : priceSet p s = badField 0 := by
  simp only [priceSet, hp, hn, ne_eq, not_true_eq_false, if_false, if_true]

theorem priceSet_of_class (hp : p.length = 9) (hn : byteAt p 0 ≤ 7) :
    priceSet p s = okay { s with bank := { s.bank with prices := s.bank.prices.put (byteAt p 0) (pricesOf p) } }
      (le 2 (pricesOf p).monoA4 ++ le 2 (pricesOf p).colourA4 ++ le 2 (pricesOf p).monoA3 ++ le 2 (pricesOf p).colourA3) := by
  simp only [priceSet, hp, Nat.not_lt.2 hn, ne_eq, not_true_eq_false, if_false]

theorem clampPrice_eq (v : Nat) : clampPrice v = if v = 0 then 1 else if 1000 < v then 1000 else v := by
  unfold clampPrice
  split_ifs <;> omega

/-- Settles O39: the group by the update of its record, its members by the rule of the exhausted flag, the prices by the clamp. -/
theorem groupSetAndPriceSetStoreTheirFields : Obligations.GroupSetAndPriceSetStoreTheirFields := by
  intro s p hs ht n v bad
  refine ⟨fun hp i hi => ?bad, fun pool hp hbad => ?stored, fun hp => ?price⟩
  case bad => rw [exec_groupSet_eq hs hp, checked_of_mem (checks := groupChecks p) hi, answer_badField]
  case stored =>
    intro g available hpool
    have hchecks := firstBadField_eq_none_iff.1 hbad
    have hn : n ≤ 63 := Nat.not_lt.1 (of_decide_eq_false (hchecks (0, decide (63 < n)) (by simp)))
    have hpoolset : poolSet p s = pool := by
      unfold poolSet
      obtain ⟨h0, rfl⟩ | ⟨h1, hv⟩ | ⟨h2, hv⟩ := hpool
      · exact if_pos h0
      · rw [if_neg (by omega), if_pos h1, show i32 p 2 = pool from hv.symm, Int.toNat_natCast]
      · rw [if_neg (by omega), if_neg (by omega)]
        have hv : (pool : Int) = min 16000000 (max 0 (((s.groupAt (byteAt p 0)).pool : Int) + i32 p 2)) := hv
        simp only [Config.poolMax]
        omega
    have hmem : n ∈ Table.keys s.bank.groups := by
      obtain ⟨-, -, -, -, -, -, -, -, -, -, hkeys, -⟩ := ht
      rw [hkeys]
      exact List.mem_range.2 (by omega)
    rw [exec_groupSet_eq hs hp, checked_of_none (checks := groupChecks p) hbad, groupInRange, hpoolset, answer_okay]
    let u := updGroup n (BudgetGroup.set p pool) s
    let change : Int := (u32 p 14 : Int) - g.overdraft
    refine ⟨refreshMembers n change u, rfl, rfl, ?_, fun x hx => ?_, fun m a ha => ⟨u.refreshed n change a, ?_, refreshed_eq u n change a,
      refreshed_exhausted_iff.trans ?_⟩⟩
    · rw [groupAt_refreshMembers, groupAt_updGroup_self hmem]
      rfl
    · rw [groupAt_refreshMembers, groupAt_updGroup_ne hx]
    · rw [get?_refreshMembers, updGroup_bank, Option.mem_def.1 ha]
      rfl
    · have hrise : 0 < change ↔ g.overdraft < u32 p 14 := by omega
      have hover : a.group = n → u.accountAvailable a = available a := by
        intro hg
        rw [State.accountAvailable, hg, groupAt_updGroup_self hmem]
        rfl
      refine and_congr_right fun _ => not_congr (and_congr_right fun hg => ?_)
      rw [hrise, hover hg]
  case price =>
    intro clamped q
    have hq : pricesOf p = q := by simp only [pricesOf, clampPrice_eq]; rfl
    rw [exec_priceSet_of_nine hs hp]
    refine ⟨fun hn => ?_, fun hn => ?_⟩
    · rw [priceSet_of_out hp hn, answer_badField]
      rfl
    · rw [priceSet_of_class hp hn, hq, answer_okay]
      refine ⟨_, rfl, rfl, ?_, fun x hx => ?_⟩
      · simp [State.pricesAt, Table.get?_put_self, n]
      · simp only [State.pricesAt]
        rw [Table.get?_put_ne _ _ hx]

end Sys2Proof.Machine
end

section
/-!
PROOFS. STATION_SET, LINE_SET and CALENDAR_SET (R131 to R133, R135), and the polls that begin an exchange (R117, R119, R122, R130).
-/

namespace Sys2Proof.Machine

variable {s t : State} {p : Payload}

/-! ### STATION_SET (R133) -/

theorem exec_stationSet_of_six (hs : s.Receptive) (hp : p.length = 6) :
    exec (.stationSet p) s = .next (answer 0x48 (stationSet p s) s) := by
  rw [exec_stationSet hs, within_of_le (by omega)]

theorem isStation_iff {a : Nat} : isStation a = true ↔ 1 ≤ a ∧ a ≤ 126 := by simp [isStation]

theorem stationSet_of_out (hp : p.length = 6) (ha : byteAt p 0 < 1 ∨ 126 < byteAt p 0) : stationSet p s = badField 0 := by
  have hout : isStation (byteAt p 0) = false := Bool.eq_false_iff.2 fun h => by have := isStation_iff.1 h; omega
  simp only [stationSet, hp, hout, ne_eq, not_true_eq_false, if_false, Bool.not_false, if_true]

section

variable (hp : p.length = 6) (h1 : 1 ≤ byteAt p 0) (h126 : byteAt p 0 ≤ 126)
include hp h1 h126

theorem stationSet_of_station : stationSet p s = match AcceptMode.ofCode? (byteAt p 3) with
    | none => badField 3
    | some mode =>
      if flagAt p 1 ∧ (s.printers.get? (byteAt p 2)).isNone then refuse .notFound
      else okay (updStation (byteAt p 0)
        (Station.set (if flagAt p 1 then some (byteAt p 2) else none) mode (flagAt p 4) (flagAt p 5)) s) [] := by
  simp only [stationSet, hp, isStation_iff.2 ⟨h1, h126⟩, ne_eq, not_true_eq_false, if_false, Bool.not_true, Bool.false_eq_true] <;> rfl

theorem stationSet_of_mode {mode : AcceptMode} (hm : AcceptMode.ofCode? (byteAt p 3) = some mode) : stationSet p s
    = if flagAt p 1 ∧ (s.printers.get? (byteAt p 2)).isNone then refuse .notFound
      else okay (updStation (byteAt p 0)
        (Station.set (if flagAt p 1 then some (byteAt p 2) else none) mode (flagAt p 4) (flagAt p 5)) s) [] := by
  rw [stationSet_of_station hp h1 h126, hm]

theorem stationSet_of_badMode (hm : 2 < byteAt p 3) : stationSet p s = badField 3 := by
  have hnone : AcceptMode.ofCode? (byteAt p 3) = none := by
    match byteAt p 3, hm with
    | n + 3, _ => rfl
  rw [stationSet_of_station hp h1 h126, hnone]

end

theorem Station.set_eq (bound : Option Nat) (mode : AcceptMode) (redirect clear : Bool) (st : Station) :
    st.set bound mode redirect clear = { st with
      bound := bound, mode := mode, redirect := redirect, polls := if clear then 0 else st.polls
      good := if clear then 0 else st.good, bad := if clear then 0 else st.bad } := by
  cases clear <;> rfl

/-! ### LINE_SET (R135) -/

theorem exec_lineSet_of_seven (hs : s.Receptive) (hp : p.length = 7) :
    exec (.lineSet p) s = .next (answer 0x4B (lineSet p s) s) := by
  rw [exec_lineSet hs, within_of_le (by omega)]

theorem lineSet_of_report (hp : p.length = 7) (h : flagAt p 0 = false) : lineSet p s = okay s (linePayload s.line) := by
  simp only [lineSet, hp, h, ne_eq, not_true_eq_false, if_false, Bool.not_false, if_true]

section

variable (hp : p.length = 7) (h : flagAt p 0 = true)
include hp h

theorem lineSet_of_badRate (hr : LineRate.ofBaud? (u32 p 2) = none) : lineSet p s = badField 2 := by
  simp only [lineSet, hp, h, hr, ne_eq, not_true_eq_false, if_false, Bool.not_true, Bool.false_eq_true]

theorem lineSet_of_rate {rate : LineRate} (hr : LineRate.ofBaud? (u32 p 2) = some rate) :
    lineSet p s = if byteAt p 6 < 2 ∨ 50 < byteAt p 6 then badField 3
      else okay { s with line := s.line.apply s.now (flagAt p 1) rate (byteAt p 6) }
        (linePayload (s.line.apply s.now (flagAt p 1) rate (byteAt p 6))) := by
  simp only [lineSet, hp, h, hr, ne_eq, not_true_eq_false, if_false, Bool.not_true, Bool.false_eq_true]

end

section

variable {l : Line} {now : Word} {enable : Bool} {rate : LineRate} {window : Nat}

theorem Line.apply_of_same (h : enable = l.enabled ∨ (enable = true ∧ l.calendar = [])) :
    l.apply now enable rate window = { l with enabled := enable, rate := rate, window := window } := by
  unfold Line.apply
  obtain rfl | ⟨rfl, hc⟩ := h
  · simp
  · simp [hc]

theorem Line.apply_of_enabling (he : enable = true) (h : l.enabled = false) (hc : l.calendar ≠ []) :
    l.apply now enable rate window = { l with
      enabled := enable, rate := rate, window := window, regime := .full, quietStamp := now, walk := 0, gap := none } := by
  simp [Line.apply, he, h, hc, Line.toFull]

theorem Line.apply_of_disabling (he : enable = false) (h : l.enabled = true) : l.apply now enable rate window = { l with
      enabled := enable, rate := rate, window := window, regime := .off, exchange := none, gap := none, answer := none,
      stations := l.stations.map fun e => (e.1, e.2.disabled) } := by
  simp [Line.apply, he, h, Line.disable]

end

/-- Settles O43: STATION_SET by its checks and the update of one station, LINE_SET by what it does to the line. -/
theorem stationSetAndLineSetStoreTheirSettings : Obligations.StationSetAndLineSetStoreTheirSettings := by
  intro s p hs
  refine ⟨fun hp ha => ?address, fun hp h1 h126 hm => ?mode, fun mode hp h1 h126 hm => ?station, fun hp => ?line⟩
  case address => rw [exec_stationSet_of_six hs hp, stationSet_of_out hp ha, answer_badField]; rfl
  case mode => rw [exec_stationSet_of_six hs hp, stationSet_of_badMode hp h1 h126 hm, answer_badField]; rfl
  case station =>
    have hmode : AcceptMode.ofCode? (byteAt p 3) = some mode := by
      simp only [List.mem_cons, Prod.mk.injEq, List.not_mem_nil, or_false] at hm
      obtain ⟨h, rfl⟩ | ⟨h, rfl⟩ | ⟨h, rfl⟩ := hm <;> rw [h] <;> rfl
    rw [exec_stationSet_of_six hs hp, stationSet_of_mode hp h1 h126 hmode]
    refine ⟨fun hb hno => ?_, fun hb st hst => ?_⟩
    · rw [if_pos ⟨hb, by simp [hno]⟩, answer_refuse]
    · intro bound count
      rw [if_neg fun h => by simpa [Option.isNone_iff_eq_none.1 h.2] using hb h.1, answer_okay]
      refine ⟨_, rfl, rfl, fun x hx => ?_, ?_⟩
      · rw [updStation_line, Table.get?_modify_ne _ _ hx]
      · rw [updStation_line, Table.get?_modify_self, Option.mem_def.1 hst, Option.map_some, Station.set_eq]
  case line =>
    intro report
    rw [exec_lineSet_of_seven hs hp]
    refine ⟨fun h => ?_, fun h hr => ?_, fun rate hr h => ?_⟩
    · rw [lineSet_of_report hp h, answer_okay]
      rfl
    · rw [lineSet_of_badRate hp h hr, answer_badField]
      rfl
    · rw [lineSet_of_rate hp h hr]
      refine ⟨fun hw => ?_, fun h2 h50 => ?_⟩
      · rw [if_pos hw, answer_badField]
        rfl
      · intro l off
        rw [if_neg (by omega), answer_okay]
        refine ⟨fun hsame => ?_, fun hon hwas hc => ?_, fun hoff hwas => ?_⟩
        · rw [Line.apply_of_same hsame]
          rfl
        · rw [Line.apply_of_enabling hon hwas hc]
          rfl
        · rw [Line.apply_of_disabling hoff hwas]
          rfl

/-! ### CALENDAR_SET (R131, R132) -/

theorem firstBad_eq_none {ok : Nat → Bool} {l : List Nat} (h : ∀ x ∈ l, ok x = true) : firstBad ok l = none := by
  simpa [firstBad] using h

/-- The first entry of a list field that fails its check. -/
theorem firstBad_eq_some {ok : Nat → Bool} {l : List Nat} {i : Nat} (hi : i < l.length) (hbad : ok (l.getD i 0) = false)
    (hgood : ∀ x ∈ l.take i, ok x = true) : firstBad ok l = some i := by
  induction l generalizing i with
  | nil => exact absurd hi (Nat.not_lt_zero i)
  | cons x l ih =>
    cases i with
    | zero =>
      have hx : ok x = false := hbad
      simp [firstBad, List.findIdx?_cons, hx]
    | succ i =>
      obtain ⟨hx, hl⟩ := List.forall_mem_cons.1 hgood
      have hrest := ih (Nat.lt_of_succ_lt_succ hi) hbad hl
      rw [firstBad] at hrest ⊢
      simp [List.findIdx?_cons, hx, hrest]

/-- The addresses of a CALENDAR_SET's piece. -/
def pieceOf (p : Payload) : List Nat := (p.drop 3).map BitVec.toNat

theorem exec_calendarSet_of_le (hs : s.Receptive) (h60 : p.length ≤ 60) :
    exec (.calendarSet p) s = .next (answer 0x4A (calendarSet p s) s) := by
  rw [exec_calendarSet hs, within_of_le h60]

theorem calendarSet_eq (h3 : 3 ≤ p.length) : calendarSet p s
    = if 256 < u16 p 1 then badField 1
      else match firstBad isStation (pieceOf p) with
        | some j => badEntry 2 j
        | none =>
          if u16 p 1 < byteAt p 0 + (pieceOf p).length then refuse .badLength
          else if byteAt p 0 = 0 then loadPiece (u16 p 1) (pieceOf p) s
          else match s.line.continued (byteAt p 0) (u16 p 1) with
            | none => refuse .state
            | some got => loadPiece (u16 p 1) (got ++ pieceOf p) s := by
  have hpiece : listAt p 3 (p.length - 3) = pieceOf p := by
    rw [listAt, pieceOf, List.take_of_length_le (by simp)]
  simp only [calendarSet, hpiece]
  rw [if_neg (by omega)] <;> rfl

/-- The addresses held once an accepted piece is loaded. -/
def calendarHeld (p : Payload) (s : State) : List Nat :=
  (if byteAt p 0 = 0 then [] else (s.line.loading.map Prod.snd).getD []) ++ pieceOf p

/-- A piece of a CALENDAR_SET in range: past every check but the one of STATE. -/
def PieceSound (p : Payload) : Prop :=
  3 ≤ p.length ∧ p.length ≤ 60 ∧ u16 p 1 ≤ 256 ∧ (∀ a ∈ pieceOf p, 1 ≤ a ∧ a ≤ 126) ∧ byteAt p 0 + (pieceOf p).length ≤ u16 p 1

theorem calendarSet_of_sound (h : PieceSound p) : calendarSet p s
    = if byteAt p 0 = 0 then loadPiece (u16 p 1) (pieceOf p) s
      else match s.line.continued (byteAt p 0) (u16 p 1) with
        | none => refuse .state
        | some got => loadPiece (u16 p 1) (got ++ pieceOf p) s := by
  obtain ⟨h3, -, htotal, hpiece, hfit⟩ := h
  rw [calendarSet_eq h3, if_neg (by omega), firstBad_eq_none fun a ha => isStation_iff.2 (hpiece a ha)]
  exact if_neg (by omega)

theorem calendarSet_of_fits (h : PieceSound p)
    (hf : byteAt p 0 = 0 ∨ ∃ l ∈ s.line.loading, l.1 = u16 p 1 ∧ l.2.length = byteAt p 0) :
    calendarSet p s = loadPiece (u16 p 1) (calendarHeld p s) s := by
  rw [calendarSet_of_sound h, calendarHeld]
  by_cases h0 : byteAt p 0 = 0
  · rw [if_pos h0, if_pos h0, List.nil_append]
  · obtain ⟨l, hl, htotal, hlen⟩ := hf.resolve_left h0
    simp only [if_neg h0, Line.continued, Option.mem_def.1 hl, htotal, hlen, and_self, if_true, Option.map_some, Option.getD_some]

theorem calendarSet_of_unfit (h : PieceSound p)
    (hf : ¬ (byteAt p 0 = 0 ∨ ∃ l ∈ s.line.loading, l.1 = u16 p 1 ∧ l.2.length = byteAt p 0)) : calendarSet p s = refuse .state := by
  obtain ⟨h0, hno⟩ := not_or.1 hf
  have hnone : s.line.continued (byteAt p 0) (u16 p 1) = none := by
    unfold Line.continued
    cases hl : s.line.loading with
    | none => rfl
    | some l => exact if_neg fun h => hno ⟨l, hl, h⟩
  rw [calendarSet_of_sound h, if_neg h0, hnone]

/-- The line after a calendar is installed, by the case of R132, step 5. -/
theorem Line.reregimed_eq (l : Line) (now : Word) (hw : l.walk = 0) :
    let toFull := l.calendar ≠ [] ∧ l.enabled = true ∧ l.regime = .off
    l.reregimed now = { l with
      regime := if l.calendar = [] then .off else if toFull then .full else l.regime
      quietStamp := if toFull then now else l.quietStamp
      gap := if l.calendar = [] ∨ toFull then none else l.gap } := by
  intro toFull
  unfold Line.reregimed
  by_cases hc : l.calendar = []
  · simp [hc, toFull]
  · by_cases hr : l.enabled = true ∧ l.regime = .off
    · simp [hc, hr, toFull, Line.toFull, hw]
    · have hno : ¬ (l.enabled && l.regime == .off) = true := by simpa using hr
      simp [hc, hr, hno, toFull]

/-- The line a calendar is installed into, before its regime is set again (R132, steps 1 to 4). -/
def Line.relisted (cal : List Nat) (l : Line) : Line := { l with
  calendar := cal, walk := 0, loading := none
  answer := l.answer.filter fun a => cal.contains a
  exchange := l.exchange.map (Exchange.recalendared cal)
  stations := l.stations.map fun e => (e.1, e.2.relisted (l.calendar.contains e.1) (cal.contains e.1)) }

theorem installCalendar_eq (cal : List Nat) (s : State) :
    installCalendar cal s = { s with line := (s.line.relisted cal).reregimed s.now } := rfl

theorem get?_relisted (cal : List Nat) (l : Line) (x : Nat) : (l.relisted cal).stations.get? x
    = (l.stations.get? x).map (Station.relisted (l.calendar.contains x) (cal.contains x)) :=
  Table.get?_mapWith l.stations (fun n => Station.relisted (l.calendar.contains n) (cal.contains n)) x

theorem Station.relisted_eq (cal old : List Nat) (x : Nat) (st : Station) :
    st.relisted (old.contains x) (cal.contains x)
      = if x ∈ old ∧ x ∉ cal then { st with state := .unlisted, slot := none, last := none, misses := 0 }
        else if x ∈ cal ∧ x ∉ old then { st with state := .unknown, misses := 0, pollCount := 0, badCount := 0, noisy := false }
        else st := by
  by_cases hold : x ∈ old <;> by_cases hcal : x ∈ cal <;> simp [Station.relisted, hold, hcal]

theorem loadPiece_of_part {total : Nat} {cal : List Nat} (h : cal.length ≠ total) : loadPiece total cal s
    = okay { s with line := { s.line with loading := some (total, cal) } } (le 2 cal.length ++ [0]) := by
  simp only [loadPiece, h, if_false, flag, decide_false, Bool.false_eq_true]

theorem loadPiece_of_whole {total : Nat} {cal : List Nat} (h : cal.length = total) : loadPiece total cal s
    = okay (installCalendar cal s) (le 2 cal.length ++ [1]) := by
  simp only [loadPiece, h, if_true, flag, decide_true]

/-- Settles O44: the refusals in their order, a piece loaded, and the installation field by field. -/
theorem calendarSetLoadsAndInstalls : Obligations.CalendarSetLoadsAndInstalls := by
  intro s p hs total piece listed sound fits cal
  have hlisted (a : Nat) : isStation a = true ↔ listed a := isStation_iff
  have hfits : fits ↔ byteAt p 0 = 0 ∨ ∃ l ∈ s.line.loading, l.1 = u16 p 1 ∧ l.2.length = byteAt p 0 := Iff.rfl
  refine ⟨fun hlen => ?length, fun h3 h60 htotal => ?total, fun h3 h60 htotal i hi hbad hgood => ?address, fun h3 h60 htotal hall hlong => ?long,
    fun hsound hf => ?unfit, fun hsound hf hpart => ?part, fun hsound hf hwhole => ?whole⟩
  case length =>
    have hshort : within calendarSet p s = refuse .badLength := by
      unfold within
      obtain h | h := hlen
      · rw [if_neg (by simp only [Config.payloadMax]; omega), calendarSet, if_pos h]
      · rw [if_pos (by exact h)]
    rw [exec_calendarSet hs, hshort, answer_refuse]
  case total => rw [exec_calendarSet_of_le hs h60, calendarSet_eq h3, if_pos htotal, answer_badField]; rfl
  case address =>
    have hfirst : firstBad isStation (pieceOf p) = some i :=
      firstBad_eq_some (List.mem_range.1 hi) (Bool.eq_false_iff.2 fun h => hbad ((hlisted _).1 h)) fun a ha => (hlisted a).2 (hgood a ha)
    rw [exec_calendarSet_of_le hs h60, calendarSet_eq h3, if_neg (Nat.not_lt.2 htotal), hfirst]
    rfl
  case long =>
    have hnone : firstBad isStation (pieceOf p) = none := firstBad_eq_none fun a ha => (hlisted a).2 (hall a ha)
    rw [exec_calendarSet_of_le hs h60, calendarSet_eq h3, if_neg (Nat.not_lt.2 htotal), hnone]
    dsimp only
    rw [if_pos (by exact hlong), answer_refuse]
  case unfit => rw [exec_calendarSet_of_le hs hsound.2.1, calendarSet_of_unfit hsound (mt hfits.2 hf), answer_refuse]
  case part =>
    rw [exec_calendarSet_of_le hs hsound.2.1, calendarSet_of_fits hsound hf, loadPiece_of_part (by exact hpart), answer_okay]
    rfl
  case whole =>
    have hline := Line.reregimed_eq (s.line.relisted cal) s.now rfl
    refine ⟨installCalendar cal s, ?exec, rfl, ?line, ?_⟩
    case exec =>
      rw [exec_calendarSet_of_le hs hsound.2.1, calendarSet_of_fits hsound hf, loadPiece_of_whole (by exact hwhole), answer_okay]
      rfl
    case line => rw [installCalendar_eq, hline]; rfl
    rw [installCalendar_eq, hline]
    refine ⟨rfl, rfl, rfl, rfl, ?_, fun hc => ?_, fun hc hr => ?_, fun hc he hr => ?_, fun ex hex => ?_, fun x _ st hst => ?_⟩
    · exact congrArg (fun f => s.line.answer.filter f) (funext fun a => by simp)
    · exact if_pos hc
    · have hno : ¬ (cal ≠ [] ∧ s.line.enabled = true ∧ s.line.regime = .off) := fun h => hr h.2.2
      exact (if_neg hc).trans (if_neg hno)
    · exact ⟨(if_neg hc).trans (if_pos ⟨hc, he, hr⟩), if_pos ⟨hc, he, hr⟩⟩
    · exact congrArg (Option.map (Exchange.recalendared cal)) (Option.mem_def.1 hex)
    · refine (get?_relisted cal s.line x).trans ?_
      rw [Option.mem_def.1 hst, Option.map_some, Station.relisted_eq]

/-! ### The polls that begin an exchange (R117, R119, R122, R130) -/

theorem calendarPollEffect_of_poll {x : Nat} (hr : s.line.regime ≠ .off) (he : s.line.exchange = none) (ha : s.line.answer = none)
    (hx : s.line.calendar[s.line.walk]? = some x) : calendarPollEffect s = beginPoll x false s := by
  simp only [calendarPollEffect, hr, he, ha, hx, ne_eq, not_false_eq_true, and_self, if_true]

theorem calendarPollEffect_of_answer {x : Nat} (ha : s.line.answer = some x) : calendarPollEffect s = s :=
  if_neg fun h => by rw [ha] at h; simp at h

theorem answerPollEffect_of_some {x : Nat} (he : s.line.exchange = none) (ha : s.line.answer = some x) :
    answerPollEffect s = beginPoll x true s := by
  simp only [answerPollEffect, he, ha]

theorem answerPollEffect_of_none (ha : s.line.answer = none) : answerPollEffect s = s := by
  unfold answerPollEffect
  rw [ha]
  cases s.line.exchange <;> rfl

/-- A poll's first bit goes out with DE asserted. -/
theorem de_of_begun {ex : Exchange} (h : t.inReset = false) (hex : t.line.exchange = some ex) (hk : ex.sending = some 0) :
    t.de = true := by
  rw [State.de_eq_transmitting h]
  simp [Line.transmitting, hex, hk]

/-- Settles O45: the two effects by the state of the answer poll. -/
theorem pollsBeginAnExchange : Obligations.PollsBeginAnExchange := by
  intro s hs hnone begun
  refine ⟨?silent, fun x hx => ?answer, fun hx hr x hcal => ?calendar⟩
  case silent => simp [State.de, Line.transmitting, hnone]
  case answer =>
    refine ⟨?_, ?_, ?_⟩
    · rw [exec_answerPoll hs, answerPollEffect_of_some hnone hx]
      rfl
    · exact de_of_begun hs.1 rfl rfl
    · rw [exec_calendarPoll hs, calendarPollEffect_of_answer hx]
  case calendar =>
    refine ⟨?_, ?_, ?_⟩
    · rw [exec_calendarPoll hs, calendarPollEffect_of_poll hr hnone hx hcal]
      rfl
    · exact de_of_begun hs.1 rfl rfl
    · rw [exec_answerPoll hs, answerPollEffect_of_none hx]

end Sys2Proof.Machine
end

section
/-!
PROOFS. The reorder check, the checks of one event and the service of pending types (R59, R68 to R70).
-/

namespace Sys2Proof.Machine

variable {s t : State} {n : Nat} {ty : CartridgeType}

/-! ### The branches of the reorder check (R69) -/

/-- The need and the supply that a reorder check compares. -/
def State.need (s : State) (n : Nat) (ty : CartridgeType) : Nat := s.wantedCount n + ty.reserve

def State.supply (s : State) (n : Nat) (ty : CartridgeType) : Nat := ty.shelf + s.onOrder n

/-- A reorder check finds its type short. -/
def State.Short (s : State) (n : Nat) (ty : CartridgeType) : Prop := ty.holdOff = false ∧ s.supply n ty < s.need n ty

/-- The quantity that a reorder check orders of a type that is short. -/
def State.shortfall (s : State) (n : Nat) (ty : CartridgeType) : Nat := orderQuantity ty.pack (s.need n ty - s.supply n ty)

theorem reorder_of_undefined (h : s.stock.types.get? n = none) : reorder n s = (s, .none) := by
  simp only [reorder, h]

section

variable (hty : s.stock.types.get? n = some ty)
include hty

theorem reorder_of_supplied (h : ¬ s.Short n ty) : reorder n s = (setTypePending false n s, .none) := by
  have hc : ty.holdOff = true ∨ s.wantedCount n + ty.reserve ≤ ty.shelf + s.onOrder n := by
    unfold State.Short State.need State.supply at h
    by_cases hh : ty.holdOff = true
    · exact .inl hh
    · simp only [Bool.not_eq_true] at hh
      exact .inr (by simpa [hh] using h)
  simp only [reorder, hty, Bool.or_eq_true, decide_eq_true_eq, hc, if_true]

theorem reorder_of_short (h : s.Short n ty) : reorder n s = match s.openReq n with
    | some (m, r) => growReq n (s.shortfall n ty) m r s
    | .none =>
      if s.stock.reqs.length < Config.requisitionEntries then issueReq n (s.shortfall n ty) s
      else (setTypePending true n (setCauseIf (!ty.pending) .reqTableFull s), .tableFull) := by
  obtain ⟨hh, hlt⟩ := h
  have hlt : ¬ s.wantedCount n + ty.reserve ≤ ty.shelf + s.onOrder n := Nat.not_le.2 hlt
  simp only [reorder, hty, hh, hlt, decide_false, Bool.or_false, Bool.false_eq_true, if_false] <;> rfl

theorem reorder_of_open (h : s.Short n ty) {e : Nat × Requisition} (ho : s.openReq n = some e) :
    reorder n s = growReq n (s.shortfall n ty) e.1 e.2 s := by
  rw [reorder_of_short hty h, ho]

theorem reorder_of_room (h : s.Short n ty) (ho : s.openReq n = none) (hl : s.stock.reqs.length < 32) :
    reorder n s = issueReq n (s.shortfall n ty) s := by
  rw [reorder_of_short hty h, ho]
  exact if_pos hl

theorem reorder_of_full (h : s.Short n ty) (ho : s.openReq n = none) (hl : 32 ≤ s.stock.reqs.length) :
    reorder n s = (setTypePending true n (setCauseIf (!ty.pending) .reqTableFull s), .tableFull) := by
  rw [reorder_of_short hty h, ho]
  exact if_neg (Nat.not_lt.2 hl)

/-- A reorder check changes of the types the pending flag of its own, which is left set exactly with the table full. -/
theorem reorderCheck_types : ∃ b, (reorderCheck n s).stock.types = s.stock.types.modify n (fun r => { r with pending := b })
    ∧ (b = true ↔ s.Short n ty ∧ s.openReq n = none ∧ 32 ≤ s.stock.reqs.length) ∧ (b = true ↔ (reorder n s).2 = .tableFull) := by
  unfold reorderCheck
  by_cases h : s.Short n ty
  · cases ho : s.openReq n with
    | some e =>
      rw [reorder_of_open hty h ho]
      refine ⟨false, rfl, by simp, ?_⟩
      unfold growReq
      split <;> simp
    | none =>
      by_cases hl : s.stock.reqs.length < 32
      · rw [reorder_of_room hty h ho hl]
        exact ⟨false, rfl, by simp; omega, by simp [issueReq]⟩
      · rw [reorder_of_full hty h ho (Nat.not_lt.1 hl)]
        exact ⟨true, by simp [setTypePending], by simp [h]; omega, by simp⟩
  · rw [reorder_of_supplied hty h]
    exact ⟨false, rfl, by simp [h], by simp⟩

end

/-- Whole packs: the least that covers a shortfall. -/
theorem orderQuantity_least {pack d : Nat} (hp : 1 ≤ pack) : d ≤ orderQuantity pack d ∧ orderQuantity pack d < d + pack := by
  have hdiv := Nat.div_add_mod (d + pack - 1) pack
  have hmod := Nat.mod_lt (d + pack - 1) (y := pack) hp
  unfold orderQuantity
  omega

theorem State.get?_of_openReq (hs : Table.Sorted s.stock.reqs) {e : Nat × Requisition} (h : s.openReq n = some e) :
    s.stock.reqs.get? e.1 = some e.2 := Table.get?_of_mem hs (List.mem_of_find?_eq_some h)

theorem State.openReq_fits {e : Nat × Requisition} (h : s.openReq n = some e) : e.2.type = n ∧ e.2.confirmDay = none := by
  have := List.find?_some h
  simpa using this

/-! ### The checks of one event (R68) -/

theorem reorderChecks_nil (s : State) : reorderChecks [] s = s := by simp [reorderChecks]

theorem reorderChecks_congr {us ts : List Nat} (h : ∀ x, x ∈ us ↔ x ∈ ts) (s : State) : reorderChecks us s = reorderChecks ts s := by
  simp only [reorderChecks, h]

/-- The numbers below a bound split at one of them. -/
theorem range_split {N : Nat} (hn : n < N) : ∃ rest : List Nat, List.range N = List.range n ++ n :: rest ∧ ∀ x ∈ rest, n < x := by
  obtain ⟨k, rfl⟩ := Nat.exists_eq_add_of_lt hn
  refine ⟨(List.range k).map (n + 1 + ·), ?_, fun x hx => ?_⟩
  · rw [show n + k + 1 = n + 1 + k by omega, List.range_add, List.range_succ, List.append_assoc]
    rfl
  · obtain ⟨y, -, rfl⟩ := List.mem_map.1 hx
    omega

/-- The lowest of the numbers selected comes first. -/
theorem filter_range_cons {N : Nat} {ts : List Nat} (hn : n < N) (h : ∀ x ∈ ts, n < x) :
    (List.range N).filter (fun t => t ∈ n :: ts) = n :: (List.range N).filter fun t => t ∈ ts := by
  obtain ⟨rest, hsplit, hrest⟩ := range_split hn
  have hlow (x : Nat) (hx : x ∈ List.range n) : x ∉ ts := fun ht => by
    have := h x ht
    have := List.mem_range.1 hx
    omega
  have hfront (us : List Nat) (hus : ∀ x ∈ List.range n, x ∉ us) : (List.range n).filter (fun t => t ∈ us) = [] :=
    List.filter_eq_nil_iff.2 fun x hx => by simpa using hus x hx
  have hself : n ∉ ts := fun ht => Nat.lt_irrefl n (h n ht)
  have hback : rest.filter (fun t => t ∈ n :: ts) = rest.filter fun t => t ∈ ts :=
    List.filter_congr fun x hx => by
      have := hrest x hx
      simp [show x ≠ n by omega]
  rw [hsplit, List.filter_append, List.filter_append, hfront ts hlow, hfront (n :: ts) fun x hx => ?_,
    List.filter_cons_of_pos (by simp), List.filter_cons_of_neg (by simpa using hself), hback]
  · rfl
  · have := List.mem_range.1 hx
    simp [hlow x hx, show x ≠ n by omega]

theorem reorderChecks_cons {ts : List Nat} (hn : n ≤ 63) (h : ∀ x ∈ ts, n < x) (s : State) :
    reorderChecks (n :: ts) s = reorderChecks ts (reorderCheck n s) := by
  rw [reorderChecks, filter_range_cons (Nat.lt_succ_of_le hn) h, List.foldl_cons, reorderChecks]

/-! ### The service of pending types (R70) -/

/-- The type of a number is pending. -/
def State.typePending (s : State) (x : Nat) : Prop := ∃ ty, s.stock.types.get? x = some ty ∧ ty.pending = true

theorem State.typePending_iff {x : Nat} : ((s.stock.types.get? x).any fun r => r.pending) = true ↔ s.typePending x := by
  rw [Option.any_eq_true]
  rfl

theorem servePendingFrom_skip {l : List Nat} (h : ∀ x ∈ l, ¬ s.typePending x) (rest : List Nat) :
    servePendingFrom (l ++ rest) s = servePendingFrom rest s := by
  induction l with
  | nil => rfl
  | cons x l ih =>
    obtain ⟨hx, hl⟩ := List.forall_mem_cons.1 h
    rw [List.cons_append, servePendingFrom, if_neg (mt State.typePending_iff.1 hx), ih hl]

theorem servePendingFrom_nothing {l : List Nat} (h : ∀ x ∈ l, ¬ s.typePending x) : servePendingFrom l s = s := by
  have := servePendingFrom_skip h []
  rwa [List.append_nil] at this

theorem servePendingFrom_cons {x : Nat} (h : s.typePending x) (rest : List Nat) : servePendingFrom (x :: rest) s
    = if (reorder x s).2 = .tableFull then reorderCheck x s else servePendingFrom rest (reorderCheck x s) := by
  rw [servePendingFrom, if_pos (State.typePending_iff.2 h), reorderCheck]
  rcases hr : reorder x s with ⟨u, r⟩
  cases r <;> simp

theorem typePending_reorderCheck_ne {x : Nat} (h : x ≠ n) : (reorderCheck n s).typePending x ↔ s.typePending x := by
  cases hty : s.stock.types.get? n with
  | none => rw [reorderCheck, reorder_of_undefined hty]
  | some ty =>
    obtain ⟨b, hb, -, -⟩ := reorderCheck_types hty
    rw [State.typePending, State.typePending, hb, Table.get?_modify_ne _ _ h]

/-- A check leaves its type pending exactly when it finds the table full. -/
theorem typePending_reorderCheck_self (hty : s.stock.types.get? n = some ty) :
    (reorderCheck n s).typePending n ↔ (reorder n s).2 = .tableFull := by
  obtain ⟨b, hb, -, hfull⟩ := reorderCheck_types hty
  rw [State.typePending, hb, Table.get?_modify_self, hty, Option.map_some, ← hfull]
  simp

section

variable (hn : n ≤ 63) (h : s.typePending n) (hlow : ∀ x ∈ List.range n, ¬ s.typePending x)
include hn h hlow

theorem servePending_eq : ∃ rest : List Nat, List.range 64 = List.range n ++ n :: rest
    ∧ servePending s = if (reorder n s).2 = .tableFull then reorderCheck n s else servePendingFrom rest (reorderCheck n s) := by
  obtain ⟨rest, hsplit, -⟩ := range_split (Nat.lt_succ_of_le hn)
  exact ⟨rest, hsplit, by rw [servePending, hsplit, servePendingFrom_skip hlow, servePendingFrom_cons h]⟩

/-- The service stops at a check that leaves its type pending. -/
theorem servePending_of_full (hp : (reorderCheck n s).typePending n) : servePending s = reorderCheck n s := by
  obtain ⟨rest, -, heq⟩ := servePending_eq hn h hlow
  obtain ⟨ty, hty, -⟩ := h
  rw [heq, if_pos ((typePending_reorderCheck_self hty).1 hp)]

/-- The service goes on with the types still pending. -/
theorem servePending_of_served (hp : ¬ (reorderCheck n s).typePending n) : servePending s = servePending (reorderCheck n s) := by
  obtain ⟨rest, hsplit, heq⟩ := servePending_eq hn h hlow
  obtain ⟨ty, hty, -⟩ := h
  have hskip : ∀ x ∈ List.range n ++ [n], ¬ (reorderCheck n s).typePending x := by
    intro x hx
    obtain hx | hx := List.mem_append.1 hx
    · have hne : x ≠ n := Nat.ne_of_lt (List.mem_range.1 hx)
      exact mt (typePending_reorderCheck_ne hne).1 (hlow x hx)
    · rwa [List.mem_singleton.1 hx]
  have hserve : servePending (reorderCheck n s) = servePendingFrom rest (reorderCheck n s) := by
    rw [servePending, hsplit, List.append_cons, servePendingFrom_skip hskip]
  rw [heq, if_neg (mt (typePending_reorderCheck_self hty).2 hp), hserve]

end

theorem reorderCheck_frame (n : Nat) (s : State) :
    reorderCheck n s = { s with stock := (reorderCheck n s).stock, port := (reorderCheck n s).port } := by
  apply State.eq_of_fields <;> simp

/-- Settles O33: one check by its branches, the checks of an event by the order of their numbers, the service by its first check. -/
theorem reorderCheckOrdersTheShortfall : Obligations.ReorderCheckOrdersTheShortfall := by
  refine ⟨fun s n ty ht hk hty => ?check, fun s ts n => ⟨reorderChecks_nil s, fun h => by rw [reorderCheck, reorder_of_undefined h],
    fun us h => reorderChecks_congr h s, fun hn h => reorderChecks_cons hn h s⟩, fun s n ht => ?service⟩
  case check =>
    intro t wanted onOrder need supply packs short
    have hshort : short ↔ s.Short n ty := Iff.rfl
    have hqty : s.shortfall n ty = ty.pack * packs := rfl
    obtain ⟨-, -, -, -, -, -, hsreqs, -⟩ := ht
    obtain ⟨hrange, hlen, -⟩ := hk
    have hlen : s.stock.reqs.length ≤ 32 := hlen
    obtain ⟨-, -, hpack, -⟩ := hrange _ (Table.mem_of_get? hty)
    obtain ⟨b, htypes, hb, -⟩ := reorderCheck_types hty
    refine ⟨reorderCheck_frame n s, fun x hx => ?_, ⟨{ ty with pending := b }, ?_, rfl, ?_⟩, fun h => ?_, fun _ => orderQuantity_least hpack,
      fun h e he => ?grown, fun h ho hl => ?issued, fun h ho hl => ?full⟩
    · rw [htypes, Table.get?_modify_ne _ _ hx]
    · rw [htypes, Table.get?_modify_self, hty]
      rfl
    · rw [hb, hshort]
      refine and_congr_right fun _ => and_congr_right fun _ => ?_
      omega
    · simp only [t, reorderCheck, reorder_of_supplied hty (mt hshort.2 h)]
      rfl
    case grown =>
      have hget := State.get?_of_openReq hsreqs (Option.mem_def.1 he)
      have ht : t.stock.reqs = s.stock.reqs.modify e.1 fun x => { x with quantity := min 255 (x.quantity + ty.pack * packs) } := by
        simp only [t, reorderCheck, reorder_of_open hty (hshort.1 h) (Option.mem_def.1 he), hqty]
        rfl
      refine ⟨?_, ?_, fun m hm => ?_⟩
      · simp only [t, reorderCheck, reorder_of_open hty (hshort.1 h) (Option.mem_def.1 he)]
        rfl
      · rw [ht, Table.get?_modify_self, hget, Option.map_some]
      · rw [ht, Table.get?_modify_ne _ _ hm]
    case issued =>
      have ht : t = (issueReq n (ty.pack * packs) s).1 := by
        simp only [t, reorderCheck, reorder_of_room hty (hshort.1 h) ho hl, hqty]
      have hfresh : issueNumber s.stock.reqs.keys s.stock.lastReq ∉ Table.keys s.stock.reqs :=
        issueNumber_fresh _ _ (by rw [Table.keys, List.length_map]; omega)
      obtain ⟨hlow, hhigh⟩ := issueNumber_range s.stock.reqs.keys s.stock.lastReq
      rw [ht]
      refine ⟨?_, hfresh, hlow, hhigh, Table.get?_put_self _ _ _, fun m hm => Table.get?_put_ne _ _ hm⟩
      exact (hasCause_setCause .reqOpened .reqOpened _).trans (by simp)
    case full =>
      have ht : t = setTypePending true n (setCauseIf (!ty.pending) .reqTableFull s) := by
        simp only [t, reorderCheck, reorder_of_full hty (hshort.1 h) ho hl.ge]
      rw [ht]
      refine ⟨by simp [setTypePending], fun hp => ?_⟩
      have hcause : (setTypePending true n (setCauseIf (!ty.pending) .reqTableFull s)).hasCause .reqTableFull
          = (setCauseIf (!ty.pending) .reqTableFull s).hasCause .reqTableFull := rfl
      rw [hcause, hasCause_setCauseIf, hp]
      simp
  case service =>
    intro pending
    refine ⟨fun h => servePendingFrom_nothing fun x _ => ?_, fun h hlow => ?_⟩
    · rintro ⟨ty, hty, hp⟩
      rw [h _ (Table.mem_of_get? hty)] at hp
      cases hp
    · intro u
      obtain ⟨-, -, -, -, -, hkeys, -⟩ := ht
      have hn : n ≤ 63 := by
        obtain ⟨ty, hty, -⟩ := h
        exact hkeys n (Table.mem_keys_of_get? hty)
      exact ⟨servePending_of_full hn h hlow, servePending_of_served hn h hlow⟩

end Sys2Proof.Machine
end

section
/-!
PROOFS. What a reorder check does to the requisitions, and REQ_CONFIRM and REQ_CANCEL (R68 to R70, R73, R75).
-/

namespace Sys2Proof.Machine

variable {s t : State} {n : Nat}

/-! ### Tables -/

theorem Table.modify_modify {α : Type} (t : Table α) (n : Nat) (f g : α → α) :
    (t.modify n f).modify n g = t.modify n fun x => g (f x) := by
  simp only [Table.modify, List.map_map]
  refine List.map_congr_left fun e _ => ?_
  by_cases h : e.1 = n <;> simp [h]

/-- A change of a record of an ordered table stores the record changed. -/
theorem Table.modify_eq_put {α : Type} {t : Table α} (hs : t.Sorted) {n : Nat} {x : α} (h : t.get? n = some x) (f : α → α) :
    t.modify n f = t.put n (f x) := by
  induction t with
  | nil => cases h
  | cons e t ih =>
    obtain ⟨k, v⟩ := e
    obtain ⟨hlt, ht⟩ := List.pairwise_cons.1 (show List.Pairwise (· < ·) (k :: Table.keys t) from hs)
    simp only [Table.get?] at h
    by_cases hk : k = n
    · subst hk
      rw [if_pos rfl] at h
      obtain rfl := Option.some.inj h
      have hrest : Table.modify t k f = t := Table.modify_of_get?_eq_none
        ((Table.get?_eq_none_iff t k).2 fun hm => Nat.lt_irrefl k (hlt k hm)) f
      have hcons : Table.modify ((k, v) :: t) k f = (k, f v) :: Table.modify t k f := by simp [Table.modify]
      rw [hcons, hrest, Table.put, if_pos rfl]
    · rw [if_neg hk] at h
      have hn : k < n := hlt n (Table.mem_keys_of_get? h)
      have hcons : Table.modify ((k, v) :: t) n f = (k, v) :: Table.modify t n f := by simp [Table.modify, hk]
      rw [hcons, ih ht h, Table.put, if_neg hk]
      rw [if_neg (Nat.lt_asymm hn)]

/-- A change that leaves the one record it finds as it was changes nothing. -/
theorem Table.modify_eq_self {α : Type} {t : Table α} (hs : t.Sorted) {n : Nat} {x : α} (h : t.get? n = some x) {f : α → α}
    (hf : f x = x) : t.modify n f = t := by
  refine (List.map_congr_left fun e he => ?_).trans (List.map_id t)
  split
  · next hn =>
    obtain rfl : e.2 = x := Option.some.inj ((Table.get?_of_mem hs (hn ▸ he : (n, e.2) ∈ t)).symm.trans h)
    rw [hf]
    rfl
  · rfl

/-! ### The requisitions after a reorder check (R69) -/

/-- What a reorder check makes of the requisitions, by its result. -/
inductive ReorderKept (n : Nat) (s t : State) : ReorderResult → Prop where
  | kept (h : t.stock.reqs = s.stock.reqs) : ReorderKept n s t .none
  | full (h : t.stock.reqs = s.stock.reqs) : ReorderKept n s t .tableFull
  | grew (k d : Nat) (r : Requisition) (ho : s.openReq n = some (k, r)) (hne : min 255 (r.quantity + d) ≠ r.quantity)
      (h : t.stock.reqs = s.stock.reqs.modify k fun x => { x with quantity := min 255 (x.quantity + d) }) :
      ReorderKept n s t (.grew k)
  | issued (k q : Nat) (ho : s.openReq n = .none) (hk : s.stock.reqs.get? k = .none) (hl : 1 ≤ k) (hh : k ≤ 65535)
      (h : t.stock.reqs = s.stock.reqs.put k ⟨n, q, s.time.day, .none, false⟩) : ReorderKept n s t (.issued k)

theorem reorder_kept (n : Nat) (hs : Table.Sorted s.stock.reqs) (hlen : s.stock.reqs.length ≤ 32) :
    ReorderKept n s (reorder n s).1 (reorder n s).2 := by
  obtain ⟨-, he⟩ | ⟨ty, -, ⟨-, he⟩ | ⟨-, -, ⟨k, r, ho, he⟩ | ⟨ho, hl, he⟩ | ⟨-, -, he⟩⟩⟩ := reorder_cases n s <;> rw [he]
  · exact .kept rfl
  · exact .kept rfl
  · have hget : s.stock.reqs.get? k = some r := State.get?_of_openReq hs ho
    unfold growReq
    split
    · next hd =>
      have hself : ∀ q, q = r.quantity → { r with quantity := q } = r := by
        rintro _ rfl
        rfl
      exact .kept (Table.modify_eq_self hs hget (f := fun x => { x with quantity := min 255 (x.quantity + _) }) (hself _ hd))
    · next hd => exact .grew k _ r ho hd rfl
  · have hfresh := issueNumber_fresh s.stock.reqs.keys s.stock.lastReq (by rw [Table.keys, List.length_map]; omega)
    obtain ⟨hlow, hhigh⟩ := issueNumber_range s.stock.reqs.keys s.stock.lastReq
    exact .issued _ _ ho ((Table.get?_eq_none_iff _ _).2 hfresh) hlow hhigh rfl
  · exact .full (by simp [setTypePending])

/-- The number a check without an OPEN requisition answers to a confirmation: 0 and no change, or that of a new requisition. -/
theorem ReorderKept.issuedNumber {result : ReorderResult} (h : ReorderKept n s t result) (ho : s.openReq n = none) :
    (result.issuedNumber = 0 ∧ t.stock.reqs = s.stock.reqs)
    ∨ ∃ q, s.stock.reqs.get? result.issuedNumber = none ∧ 1 ≤ result.issuedNumber ∧ result.issuedNumber ≤ 65535
      ∧ t.stock.reqs = s.stock.reqs.put result.issuedNumber ⟨n, q, s.time.day, none, false⟩ := by
  cases h with
  | kept h => exact .inl ⟨rfl, h⟩
  | full h => exact .inl ⟨rfl, h⟩
  | grew k d r hk => rw [hk] at ho; cases ho
  | issued k q _ hk hl hh h => exact .inr ⟨q, hk, hl, hh, h⟩

/-- What a reorder check makes of the requisition under a number: it stays, grows, or is a new one. -/
inductive ReqKept (n : Nat) (d : Day) (before after : Option Requisition) : Prop where
  | same (h : after = before)
  | grew (r : Requisition) (q : Nat) (hr : before = some r) (ht : r.type = n) (ho : r.confirmDay = none)
      (hq : r.quantity ≤ 255 → r.quantity ≤ q) (h : after = some { r with quantity := q })
  | issued (q : Nat) (hn : before = none) (h : after = some ⟨n, q, d, none, false⟩)

theorem reqKept_reorderCheck (n k : Nat) (hs : Table.Sorted s.stock.reqs) (hlen : s.stock.reqs.length ≤ 32) :
    ReqKept n s.time.day (s.stock.reqs.get? k) ((reorderCheck n s).stock.reqs.get? k) := by
  have hkept := reorder_kept n hs hlen
  rw [← reorderCheck] at hkept
  generalize (reorder n s).2 = result at hkept
  cases hkept with
  | kept h => exact .same (by rw [h])
  | full h => exact .same (by rw [h])
  | grew m d r ho hne h =>
    by_cases hk : k = m
    · subst hk
      obtain ⟨ht, hc⟩ := State.openReq_fits ho
      have hget : s.stock.reqs.get? k = some r := State.get?_of_openReq hs ho
      exact .grew r (min 255 (r.quantity + d)) hget ht hc (fun _ => by omega) (by rw [h, Table.get?_modify_self, hget, Option.map_some])
    · exact .same (by rw [h, Table.get?_modify_ne _ _ hk])
  | issued m q ho hm hl hh h =>
    by_cases hk : k = m
    · subst hk
      exact .issued q hm (by rw [h, Table.get?_put_self])
    · exact .same (by rw [h, Table.get?_put_ne _ _ hk])

/-! ### The invariants of the stock's tables -/

/-- What the requests on the stock ask of the state. -/
structure StockReady (s : State) : Prop where
  tables : TablesOrdered s
  stock : s.stock.Sound

namespace StockReady

theorem part (h : StockReady s) (hp : Part s t) : StockReady t := ⟨h.tables.part hp, h.stock.part h.tables hp⟩

theorem reorderCheck (h : StockReady s) (n : Nat) : StockReady (reorderCheck n s) := h.part (.reorderCheck s n)

theorem sorted (h : StockReady s) : Table.Sorted s.stock.reqs := h.tables.2.2.2.2.2.2.1

theorem sortedTypes (h : StockReady s) : Table.Sorted s.stock.types := h.tables.2.2.2.2.1

theorem numbered (h : StockReady s) : Numbered (Table.keys s.stock.reqs) := h.tables.2.2.2.2.2.2.2.1

theorem length (h : StockReady s) : s.stock.reqs.length ≤ 32 := h.stock.length

theorem kept (h : StockReady s) (n : Nat) : ReorderKept n s (Machine.reorder n s).1 (Machine.reorder n s).2 :=
  reorder_kept n h.sorted h.length

theorem reqKept (h : StockReady s) (n k : Nat) :
    ReqKept n s.time.day (s.stock.reqs.get? k) ((Machine.reorderCheck n s).stock.reqs.get? k) :=
  reqKept_reorderCheck n k h.sorted h.length

end StockReady

/-! ### REQ_CONFIRM (R73) -/

variable {p : Payload} {r : Requisition}

theorem reqs_updReq (n : Nat) (f : Requisition → Requisition) (s : State) :
    (updReq n f s).stock.reqs = s.stock.reqs.modify n f := rfl

theorem exec_reqConfirm_of_2 (hs : s.Receptive) (hp : p.length = 2) :
    exec (.reqConfirm p) s = .next (answer 0x2A (reqConfirm p s) s) := by
  rw [exec_reqConfirm hs, within_of_le (by omega)]

theorem reqConfirm_of_none (hp : p.length = 2) (h : s.stock.reqs.get? (u16 p 0) = none) : reqConfirm p s = refuse .notFound := by
  simp only [reqConfirm, hp, h, ne_eq, not_true_eq_false, if_false]

theorem reqConfirm_of_get? (hp : p.length = 2) (h : s.stock.reqs.get? (u16 p 0) = some r) : reqConfirm p s
    = if r.confirmDay.isSome then refuse .state
      else
        let c := reorder r.type (updReq (u16 p 0) (fun r => { r with confirmDay := some s.time.day }) s)
        okay c.1 (le 1 r.quantity ++ le 2 s.time.day.toNat ++ le 2 c.2.issuedNumber) := by
  simp only [reqConfirm, hp, h, ne_eq, not_true_eq_false, if_false]

/-- Once the one OPEN requisition of a type is CONFIRMED, the type has none. -/
theorem openReq_confirmed (h : StockReady s) (hr : s.stock.reqs.get? n = some r) (ho : r.confirmDay = none) (d : Day) :
    (updReq n (fun r => { r with confirmDay := some d }) s).openReq r.type = none := by
  rw [State.openReq_eq_none_iff, mem_openTypes]
  rintro ⟨e, he, hopen, htype⟩
  obtain ⟨e', he', rfl⟩ := List.mem_map.1 he
  dsimp only at hopen htype
  by_cases hn : e'.1 = n
  · rw [if_pos hn] at hopen
    cases hopen
  · rw [if_neg hn] at hopen htype
    have hmem : (n, r) ∈ s.stock.reqs.filter fun e => e.2.confirmDay.isNone :=
      List.mem_filter.2 ⟨Table.mem_of_get? hr, by simp [ho]⟩
    have hmem' : e' ∈ s.stock.reqs.filter fun e => e.2.confirmDay.isNone := List.mem_filter.2 ⟨he', by simp [hopen]⟩
    exact hn (congrArg Prod.fst (List.inj_on_of_nodup_map h.stock.single hmem' hmem htype))

/-- What the check after a confirmation makes of the requisitions, by the number that it answers. -/
theorem issuedNumber_reorder (h : StockReady s) {k : Nat} (hnone : s.openReq k = none) {m : Nat}
    (hm : m = (reorder k s).2.issuedNumber) : m ≤ 65535
      ∧ (∀ x, x ≠ m → (reorderCheck k s).stock.reqs.get? x = s.stock.reqs.get? x)
      ∧ (m ≠ 0 → s.stock.reqs.get? m = none ∧ ∃ r, (reorderCheck k s).stock.reqs.get? m = some r ∧ r.type = k ∧ r.confirmDay = none)
      ∧ (m = 0 ↔ (reorderCheck k s).stock.reqs = s.stock.reqs) := by
  have hkept := h.kept k
  rw [← reorderCheck] at hkept
  obtain ⟨h0, heq⟩ | ⟨q, hfree, hlow, hhigh, hput⟩ := hkept.issuedNumber hnone
  · rw [← hm] at h0
    subst h0
    exact ⟨Nat.zero_le _, fun x _ => by rw [heq], fun h => absurd rfl h, fun _ => heq, fun _ => rfl⟩
  · rw [← hm] at hfree hlow hhigh hput
    have hself := Table.get?_put_self s.stock.reqs m ⟨k, q, s.time.day, none, false⟩
    rw [← hput] at hself
    refine ⟨hhigh, fun x hx => by rw [hput, Table.get?_put_ne _ _ hx], fun _ => ⟨hfree, _, hself, rfl, rfl⟩, fun h => by omega,
      fun he => ?_⟩
    rw [he, hfree] at hself
    cases hself

/-! ### REQ_CANCEL (R75) -/

theorem exec_reqCancel_of_2 (hs : s.Receptive) (hp : p.length = 2) :
    exec (.reqCancel p) s = .next (answer 0x2C (reqCancel p s) s) := by
  rw [exec_reqCancel hs, within_of_le (by omega)]

theorem reqCancel_of_none (hp : p.length = 2) (h : s.stock.reqs.get? (u16 p 0) = none) : reqCancel p s = refuse .notFound := by
  simp only [reqCancel, hp, h, ne_eq, not_true_eq_false, if_false]

theorem reqCancel_of_get? (hp : p.length = 2) (h : s.stock.reqs.get? (u16 p 0) = some r) : reqCancel p s
    = okay (servePending (reorderCheck r.type (updType r.type (fun t => { t with holdOff := true }) (retireReq (u16 p 0) s))))
        (le 1 r.quantity) := by
  simp only [reqCancel, hp, h, ne_eq, not_true_eq_false, if_false]

/-- The reorder check of a type just held off only clears its pending flag. -/
theorem reorderCheck_of_heldOff {ty : CartridgeType} (hs : Table.Sorted s.stock.types) (hty : s.stock.types.get? n = some ty) :
    reorderCheck n (updType n (fun t => { t with holdOff := true }) s)
      = { s with stock := { s.stock with types := s.stock.types.put n { ty with holdOff := true, pending := false } } } := by
  have hget : (updType n (fun t => { t with holdOff := true }) s).stock.types.get? n = some { ty with holdOff := true } := by
    rw [updType, Table.get?_modify_self, hty, Option.map_some]
  have hput := Table.modify_eq_put hs hty (fun t => { t with holdOff := true, pending := false })
  rw [reorderCheck, reorder_of_supplied hget (fun h => by cases h.1)]
  simp only [setTypePending, updType, Table.modify_modify, hput]

/-- The reorder check of a type held off and not pending changes nothing. -/
theorem reorderCheck_of_idle {ty : CartridgeType} (hs : Table.Sorted s.stock.types) (hty : s.stock.types.get? n = some ty)
    (hoff : ty.holdOff = true) (hp : ty.pending = false) : reorderCheck n s = s := by
  have hself : setTypePending false n s = s := by
    rw [setTypePending, updType, Table.modify_eq_self hs hty (by rw [← hp])]
  rw [reorderCheck, reorder_of_supplied hty (fun h => absurd h.1 (by rw [hoff]; decide)), hself]

/-- What the service after a cancelled requisition keeps: the type held off, and of the requisitions the numbers, that of the
cancelled one given only to a new requisition of another type. -/
structure CancelKept (n m : Nat) (ty : CartridgeType) (s t : State) : Prop where
  ready : StockReady t
  time : t.time = s.time
  type : t.stock.types.get? m = some ty
  fresh : ∀ r, t.stock.reqs.get? n = some r → r.confirmDay = none ∧ r.raiseDay = s.time.day ∧ r.type ≠ m
  others : ∀ k ∈ Table.keys s.stock.reqs, k ≠ n → (t.stock.reqs.get? k).isSome = true

theorem CancelKept.reorderCheck {m : Nat} {ty : CartridgeType} (hoff : ty.holdOff = true) (hp : ty.pending = false)
    (h : CancelKept n m ty s t) (x : Nat) : CancelKept n m ty s (reorderCheck x t) := by
  by_cases hm : m = x
  · subst hm
    rwa [reorderCheck_of_idle h.ready.sortedTypes h.type hoff hp]
  refine ⟨h.ready.reorderCheck x, by simpa using h.time, ?type, fun r hr => ?fresh, fun k hk hkn => ?others⟩
  case type =>
    cases hx : t.stock.types.get? x with
    | none => rw [Machine.reorderCheck, reorder_of_undefined hx, h.type]
    | some tx =>
      obtain ⟨b, hb, -⟩ := reorderCheck_types hx
      rw [hb, Table.get?_modify_ne _ _ hm, h.type]
  case fresh =>
    cases h.ready.reqKept x n with
    | same he => exact h.fresh r (he ▸ hr)
    | grew r' q hr' ht ho hq he =>
      obtain rfl := Option.some.inj (hr.symm.trans he)
      exact h.fresh r' hr'
    | issued q hn he =>
      obtain rfl := Option.some.inj (hr.symm.trans he)
      exact ⟨rfl, congrArg (·.day) h.time, Ne.symm hm⟩
  case others =>
    have hsome := h.others k hk hkn
    cases h.ready.reqKept x k with
    | same he => rwa [he]
    | grew r' q hr' ht ho hq he => rw [he]; rfl
    | issued q hn he => rw [he]; rfl

/-- Settles O34: a confirmation by the result of the check that follows, a cancellation by what every check of the service keeps. -/
theorem requisitionsAreConfirmedAndCancelled : Obligations.RequisitionsAreConfirmedAndCancelled := by
  refine ⟨fun s p hs ht hk hp => ?confirm, fun s p hs ht hk hp => ?cancel⟩
  all_goals
    have hready : StockReady s := ⟨ht, stockSound_iff.1 hk⟩
    intro n
  case confirm =>
    rw [exec_reqConfirm_of_2 hs hp]
    refine ⟨fun hn => by rw [reqConfirm_of_none hp hn, answer_refuse], fun r hr => ?_⟩
    rw [reqConfirm_of_get? hp (Option.mem_def.1 hr)]
    refine ⟨fun hc => by rw [if_pos hc, answer_refuse], fun ho => ?_⟩
    intro confirmed
    have hnone : confirmed.openReq r.type = none := openReq_confirmed hready (Option.mem_def.1 hr) ho s.time.day
    have hself : confirmed.stock.reqs.get? n = some { r with confirmDay := some s.time.day } := by
      simp only [confirmed, reqs_updReq, Table.get?_modify_self, Option.mem_def.1 hr, Option.map_some]
    have hother (x : Nat) (hx : x ≠ n) : confirmed.stock.reqs.get? x = s.stock.reqs.get? x := by
      simp only [confirmed, reqs_updReq, Table.get?_modify_ne _ _ hx]
    have hframe : reorderCheck r.type confirmed = { s with
        stock := (reorderCheck r.type confirmed).stock, port := (reorderCheck r.type confirmed).port } :=
      reorderCheck_frame r.type confirmed
    obtain ⟨hle, hrest, hnew, hiff⟩ :=
      issuedNumber_reorder (hready.part (.confirmReq s n s.time.day)) hnone rfl
    rw [if_neg (by simp [ho]), answer_okay]
    have hne (h : n = (reorder r.type confirmed).2.issuedNumber) : False := by
      have hpos : 1 ≤ n := (hready.numbered n (Table.mem_keys_of_get? hr)).1
      have hfree := (hnew (h ▸ Nat.pos_iff_ne_zero.1 hpos)).1
      rw [← h, hself] at hfree
      cases hfree
    refine ⟨reorderCheck r.type confirmed, _, List.mem_range.2 (Nat.lt_succ_of_le hle), rfl, hframe, (hrest n hne).trans hself,
      fun x hx hxm => (hrest x hxm).trans (hother x hx), fun h => ?_, fun h => ?_, rfl, hiff⟩
    · obtain ⟨hfree, r', hr', htype, hopen⟩ := hnew h
      exact ⟨(hother _ fun hx => hne hx.symm).symm.trans hfree, r', hr', htype, hopen⟩
    · rw [h] at hne ⊢
      rw [hiff.1 h, hother 0 fun h => hne h.symm]
  case cancel =>
    rw [exec_reqCancel_of_2 hs hp]
    refine ⟨fun hn => by rw [reqCancel_of_none hp hn, answer_refuse], fun r hr ty hty => ?_⟩
    have hretired : StockReady (retireReq n s) := hready.part (.retireReq s n)
    have hty' : (retireReq n s).stock.types.get? r.type = some ty := hty
    have hcheck := reorderCheck_of_heldOff hretired.sortedTypes hty'
    rw [reqCancel_of_get? hp (Option.mem_def.1 hr), answer_okay, hcheck]
    have hstart : CancelKept n r.type { ty with holdOff := true, pending := false } s { s with stock := { s.stock with
        reqs := s.stock.reqs.del n, types := s.stock.types.put r.type { ty with holdOff := true, pending := false } } } := by
      refine ⟨hcheck ▸ (hretired.part (.updType _ r.type (fun t => { t with holdOff := true }) fun _ h => h)).reorderCheck r.type, rfl, Table.get?_put_self _ _ _,
        fun r' hr' => ?_, fun k hk hkn => ?_⟩
      · rw [Table.get?_del_self] at hr'
        cases hr'
      · rw [Table.get?_del_ne _ hkn]
        exact (Table.get?_isSome_iff _ _).2 hk
    have hkept := servePending_induct (P := CancelKept n r.type _ s) (fun x t h => CancelKept.reorderCheck rfl rfl h x) hstart
    exact ⟨_, rfl, by apply State.eq_of_fields <;> simp, hkept.type, hkept.fresh, hkept.others, rfl⟩

end Sys2Proof.Machine
end

section
/-!
PROOFS. REQ_RECEIVE and TYPE_SET, and the announcement of a shelf that has changed (R25, R41, R64, R65, R72, R74).
-/

namespace Sys2Proof.Machine

variable {s t : State} {n : Nat} {p : Payload} {r : Requisition} {ty : CartridgeType}

/-! ### The announcement of a shelf (R25, R41) -/

theorem State.CalloutSound.of_fields {k : Nat} (h : s.CalloutSound k) (hp : t.printers = s.printers) (hc : t.callout = s.callout) :
    t.CalloutSound k where
  printers := hp ▸ h.printers
  sorted := hc ▸ h.sorted
  room := hc ▸ h.room
  oneEach := hc ▸ h.oneEach
  sound := hc ▸ h.sound
  printed := by rw [hp, hc]; exact h.printed
  deferred := by
    have hticket (q : Nat) : t.ticketOf q = s.ticketOf q := by rw [State.ticketOf, hc, State.ticketOf]
    simpa only [hp, hticket] using h.deferred

/-- An announced type brings every printer with a CONFIRMED toner kind and a cartridge of it in line. -/
theorem inLine_announced (h : s.CalloutSound 0) {e : Nat × Printer} (he : e ∈ s.printers) (hc : e.2.tonerConfirmed = true)
    (ht : ∃ c ∈ e.2.slots, c.type = n) : (calloutUpdate [] [n] s).CalloutInLine e.1 := by
  refine (place_reconcileAll h _ e.1).1 (State.mem_printersWhere_of_get? (Table.get?_of_mem h.printers he) ?_)
  simpa [hc] using ht

theorem hasCause_announced (ts : List Nat) (s : State) {c : Cause} (hr : c ≠ .calloutRaised) (hd : c ≠ .calloutDeferred) :
    (calloutUpdate [] ts s).hasCause c = s.hasCause c := hasCause_reconcileAll_other hr hd _ _

/-- An announcement leaves the stock and the causes of the Stock Unit. -/
theorem stockAsIn_announced (ts : List Nat) (s : State) : (calloutUpdate [] ts s).StockAsIn s := by
  refine ⟨by simp, fun c hc => hasCause_announced ts s ?_ ?_⟩ <;> rintro rfl <;> simp at hc

/-! ### REQ_RECEIVE (R74) -/

theorem exec_reqReceive_of_3 (hs : s.Receptive) (hp : p.length = 3) :
    exec (.reqReceive p) s = .next (answer 0x2B (reqReceive p s) s) := by
  rw [exec_reqReceive hs, within_of_le (by omega)]

theorem reqReceive_of_zero (hp : p.length = 3) (hq : byteAt p 2 = 0) : reqReceive p s = badField 1 := by
  simp only [reqReceive, hp, hq, ne_eq, not_true_eq_false, if_false, if_true]

theorem reqReceive_of_none (hp : p.length = 3) (hq : byteAt p 2 ≠ 0) (h : s.stock.reqs.get? (u16 p 0) = none) :
    reqReceive p s = refuse .notFound := by
  simp only [reqReceive, hp, hq, h, ne_eq, not_true_eq_false, if_false]

theorem reqReceive_of_get? (hp : p.length = 3) (hq : byteAt p 2 ≠ 0) (h : s.stock.reqs.get? (u16 p 0) = some r)
    (hty : s.stock.types.get? r.type = some ty) : reqReceive p s = okay (applyReceive (u16 p 0) (byteAt p 2) r ty.shelf s)
      (le 1 (min 255 (ty.shelf + byteAt p 2)) ++ le 1 (r.quantity - byteAt p 2) ++ le 1 (ty.shelf + byteAt p 2 - 255)) := by
  simp only [reqReceive, hp, hq, h, hty, ne_eq, not_true_eq_false, if_false, Option.map_some, Option.getD_some]

/-- The shelf after a receipt, with the mismatch of its excess (steps 1 and 2 of R74). -/
def stockShelf (k q : Nat) (ty : CartridgeType) (s : State) : State :=
  setCauseIf (255 < ty.shelf + q) .stockMismatch
    { s with stock := { s.stock with types := s.stock.types.put k { ty with shelf := min 255 (ty.shelf + q) } } }

/-- The stock after a receipt against a requisition (steps 3 to 5 of R74). -/
def receiveReq (n q : Nat) (r : Requisition) (s : State) : State :=
  if r.quantity ≤ q then servePending (reorderCheck r.type (retireReq n s))
  else reorderCheck r.type (updReq n (fun r => { r with quantity := r.quantity - q }) s)

theorem stockShelf_eq (hs : Table.Sorted s.stock.types) {k : Nat} (hty : s.stock.types.get? k = some ty) (q : Nat) :
    setCauseIf (255 < ty.shelf + q) .stockMismatch (updType k (fun t => { t with shelf := min 255 (ty.shelf + q) }) s)
      = stockShelf k q ty s := by
  rw [stockShelf, updType, Table.modify_eq_put hs hty]

theorem applyReceive_eq (hs : Table.Sorted s.stock.types) (hty : s.stock.types.get? r.type = some ty) (n q : Nat) :
    applyReceive n q r ty.shelf s = if min 255 (ty.shelf + q) = ty.shelf then receiveReq n q r (stockShelf r.type q ty s)
      else calloutUpdate [] [r.type] (receiveReq n q r (stockShelf r.type q ty s)) := by
  rw [applyReceive, stockShelf_eq hs hty]
  rfl

/-- What every check after a receipt keeps: the type but its pending flag, and a STOCK_MISMATCH. -/
structure ShelfKept (k : Nat) (ty : CartridgeType) (s t : State) : Prop where
  ready : StockReady t
  time : t.time = s.time
  printers : t.printers = s.printers
  callout : t.callout = s.callout
  type : ∃ b, t.stock.types.get? k = some { ty with pending := b }
  mismatch : s.hasCause .stockMismatch = true → t.hasCause .stockMismatch = true

theorem hasCause_reorderCheck (k : Nat) (s : State) {c : Cause} (h : s.hasCause c = true) : (reorderCheck k s).hasCause c = true := by
  unfold reorderCheck
  obtain ⟨-, he⟩ | ⟨ty, -, ⟨-, he⟩ | ⟨-, -, ⟨k, r, ho, he⟩ | ⟨ho, hl, he⟩ | ⟨-, -, he⟩⟩⟩ := reorder_cases k s <;> rw [he]
  · exact h
  · exact h
  · exact h
  · refine (hasCause_setCause .reqOpened c _).trans ?_
    rw [Bool.or_eq_true]
    exact .inl h
  · refine (hasCause_setCauseIf _ .reqTableFull c s).trans ?_
    rw [h, Bool.true_or]

theorem ShelfKept.reorderCheck {k : Nat} (h : ShelfKept k ty s t) (x : Nat) : ShelfKept k ty s (reorderCheck x t) where
  ready := h.ready.reorderCheck x
  time := by simpa using h.time
  printers := by simpa using h.printers
  callout := by simpa using h.callout
  type := by
    obtain ⟨b, hb⟩ := h.type
    cases hx : t.stock.types.get? x with
    | none => rw [Machine.reorderCheck, reorder_of_undefined hx]; exact ⟨b, hb⟩
    | some tx =>
      obtain ⟨b', hb', -⟩ := reorderCheck_types hx
      by_cases hk : k = x
      · subst hk
        exact ⟨b', by rw [hb', Table.get?_modify_self, hb, Option.map_some]⟩
      · exact ⟨b, by rw [hb', Table.get?_modify_ne _ _ hk, hb]⟩
  mismatch hm := hasCause_reorderCheck x t (h.mismatch hm)

/-- A number that only a requisition issued in this event carries. -/
def State.FreshAt (t : State) (n : Nat) (d : Day) : Prop := ∀ r, t.stock.reqs.get? n = some r → r.confirmDay = none ∧ r.raiseDay = d

theorem State.FreshAt.reorderCheck {d : Day} (hr : StockReady t) (hd : t.time.day = d) (h : t.FreshAt n d) (x : Nat) :
    (reorderCheck x t).FreshAt n d := by
  intro r he'
  cases hr.reqKept x n with
  | same he => exact h r (he ▸ he')
  | grew r' q hr' ht ho hq he =>
    obtain rfl := Option.some.inj (he'.symm.trans he)
    exact h r' hr'
  | issued q hn he =>
    obtain rfl := Option.some.inj (he'.symm.trans he)
    exact ⟨rfl, hd⟩

theorem stockShelf_ready (h : StockReady s) {k : Nat} (hty : s.stock.types.get? k = some ty) (q : Nat) :
    StockReady (stockShelf k q ty s) := by
  rw [← stockShelf_eq h.sortedTypes hty, setCauseIf]
  have hset : StockReady (updType k (fun t => { t with shelf := min 255 (ty.shelf + q) }) s) :=
    h.part (.updType s k _ fun ty ht => ⟨Nat.min_le_left _ _, ht.2⟩)
  split
  · exact hset.part (.cause _ _)
  · exact hset

/-- The stock after a receipt, its type as it was but for the pending flag. -/
theorem shelfKept_receiveReq (h : StockReady s) {k q : Nat} (hty : s.stock.types.get? k = some ty) (hr : s.stock.reqs.get? n = some r) :
    ShelfKept k ty s (receiveReq n q r s) := by
  have hself : ShelfKept k ty s s := ⟨h, rfl, rfl, rfl, ⟨ty.pending, hty⟩, id⟩
  unfold receiveReq
  split
  · have hretired : ShelfKept k ty s (retireReq n s) := { hself with ready := h.part (.retireReq s n) }
    exact servePending_induct (P := ShelfKept k ty s) (fun x t h => h.reorderCheck x) (hretired.reorderCheck r.type)
  · next hq =>
    have hless : ShelfKept k ty s (updReq n (fun r => { r with quantity := r.quantity - q }) s) :=
      { hself with ready := h.part (.lessenReq s n q r hr (Nat.not_le.1 hq)) }
    exact hless.reorderCheck r.type

/-- A requisition received whole leaves its number to a requisition of this event. -/
theorem freshAt_receiveReq (h : StockReady s) {q : Nat} (hq : r.quantity ≤ q) : (receiveReq n q r s).FreshAt n s.time.day := by
  have hretired : StockReady (retireReq n s) := h.part (.retireReq s n)
  have hstart : (retireReq n s).FreshAt n s.time.day := fun r hr => by
    rw [retireReq, Table.get?_del_self] at hr
    cases hr
  rw [receiveReq, if_pos hq]
  refine (servePending_induct (P := fun t => StockReady t ∧ t.time = s.time ∧ t.FreshAt n s.time.day)
    (fun x t ⟨hr, ht, hf⟩ => ⟨hr.reorderCheck x, by simpa using ht, hf.reorderCheck hr (congrArg (·.day) ht) x⟩) ?_).2.2
  exact ⟨hretired.reorderCheck _, by simp [retireReq], hstart.reorderCheck hretired rfl _⟩

/-- A requisition received in part has what is still to come, and more only when it is OPEN. -/
theorem get?_receiveReq (h : StockReady s) {q : Nat} (hr : s.stock.reqs.get? n = some r) (hq : q < r.quantity) :
    ∃ r', (receiveReq n q r s).stock.reqs.get? n = some r' ∧ r' = { r with quantity := r'.quantity } ∧ r.quantity - q ≤ r'.quantity
      ∧ (r.confirmDay.isSome = true → r'.quantity = r.quantity - q) := by
  have hless : StockReady (updReq n (fun r => { r with quantity := r.quantity - q }) s) := h.part (.lessenReq s n q r hr hq)
  have hget : (updReq n (fun r => { r with quantity := r.quantity - q }) s).stock.reqs.get? n
      = some { r with quantity := r.quantity - q } := by
    rw [reqs_updReq, Table.get?_modify_self, hr, Option.map_some]
  obtain ⟨-, -, hle, -⟩ := h.stock.reqs _ (Table.mem_of_get? hr)
  rw [receiveReq, if_neg (Nat.not_le.2 hq)]
  cases hless.reqKept r.type n with
  | same he => exact ⟨_, he.trans hget, rfl, le_rfl, fun _ => rfl⟩
  | grew r' q' hr' ht ho hq' he =>
    obtain rfl := Option.some.inj (hget.symm.trans hr')
    refine ⟨_, he, rfl, hq' ?_, fun hc => ?_⟩
    · exact (Nat.sub_le _ _).trans hle
    · rw [show r.confirmDay = none from ho] at hc
      cases hc
  | issued q' hn he => rw [hget] at hn; cases hn

theorem receiveReq_eq (h : Table.Sorted s.stock.reqs) (hr : s.stock.reqs.get? n = some r) (q : Nat) : receiveReq n q r s
    = if r.quantity ≤ q then servePending (reorderCheck r.type { s with stock := { s.stock with reqs := s.stock.reqs.del n } })
      else reorderCheck r.type (updReq n (fun x => { x with quantity := r.quantity - q }) s) := by
  have hupd : updReq n (fun r => { r with quantity := r.quantity - q }) s = updReq n (fun x => { x with quantity := r.quantity - q }) s := by
    rw [updReq, updReq, Table.modify_eq_put h hr, Table.modify_eq_put h hr]
  rw [receiveReq, hupd]
  rfl

/-- Settles O35: the shelf and the requisition by the checks that follow, the printers by the announcement. -/
theorem reqReceiveStocksTheShelf : Obligations.ReqReceiveStocksTheShelf := by
  intro s p hs ht hk hp n q stocked
  have hready : StockReady s := ⟨ht, stockSound_iff.1 hk⟩
  rw [exec_reqReceive_of_3 hs hp]
  refine ⟨fun hq => ?zero, fun hq hn => ?none, fun hq r hr ty hty => ?taken⟩
  case zero =>
    rw [reqReceive_of_zero hp hq, answer_badField]
    rfl
  case none => rw [reqReceive_of_none hp hq hn, answer_refuse]
  case taken =>
    have hshelf : ty.shelf ≤ 255 := (hready.stock.types _ (Table.mem_of_get? hty)).1
    have hty1 : (stockShelf r.type q ty s).stock.types.get? r.type = some { ty with shelf := min 255 (ty.shelf + q) } := by
      simp [stockShelf]
    have hr1 : (stockShelf r.type q ty s).stock.reqs.get? n = some r := by simpa [stockShelf] using hr
    have hready1 := stockShelf_ready hready hty q
    have hkept := shelfKept_receiveReq (q := q) hready1 hty1 hr1
    have hprinters : (receiveReq n q r (stockShelf r.type q ty s)).printers = s.printers := hkept.printers.trans (by simp [stockShelf])
    have hcallout : (receiveReq n q r (stockShelf r.type q ty s)).callout = s.callout := hkept.callout.trans (by simp [stockShelf])
    have hu : stockShelf r.type q ty s = stocked r ty := by
      simp only [stockShelf, setCauseIf, decide_eq_true_eq, stocked]
    have heq := applyReceive_eq hready.sortedTypes hty n q
    have hin : (applyReceive n q r ty.shelf s).StockAsIn (receiveReq n q r (stockShelf r.type q ty s)) := by
      rw [heq]
      split
      · exact ⟨rfl, fun _ _ => rfl⟩
      · exact stockAsIn_announced _ _
    obtain ⟨hstock, hcauses⟩ := id hin
    obtain ⟨b, hb⟩ := hkept.type
    refine ⟨applyReceive n q r ty.shelf s, ?_, ?_, ⟨{ ty with shelf := min 255 (ty.shelf + q), pending := b }, ?_, rfl⟩, fun hover => ?_,
      fun hroom htickets e he hc hslot => ?_, fun hfull => ?_, fun hpart => ?_, fun hwhole => ?_, ?_⟩
    · rw [reqReceive_of_get? hp hq hr hty, answer_okay]
    · have hframe := applyReceive_frame (s := s) n q r ty.shelf
      exact hframe
    · rw [hstock]
      exact hb
    · rw [hcauses _ (by simp)]
      refine hkept.mismatch ?_
      rw [stockShelf, hasCause_setCauseIf, decide_eq_true hover]
      simp
    · rw [heq, if_neg (by omega)]
      exact inLine_announced (((calloutSound_iff ht).1 htickets).of_fields hprinters hcallout) (hprinters ▸ he) hc hslot
    · rw [heq, if_pos (by omega)]
      exact ⟨hcallout, hprinters⟩
    · rw [hstock]
      exact get?_receiveReq hready1 hr1 hpart
    · rw [hstock]
      have hfresh := freshAt_receiveReq (n := n) hready1 hwhole
      rwa [show (stockShelf r.type q ty s).time = s.time by simp [stockShelf]] at hfresh
    · rw [receiveReq_eq hready1.sorted hr1, hu] at hin
      exact hin

/-! ### TYPE_SET (R64, R65) -/

/-- The checks of the fields of a TYPE_SET, in their order; those after the first are of a definition. -/
def typeChecks (p : Payload) : List (Nat × Bool) :=
  [(0, 63 < byteAt p 0), (2, flagAt p 1 ∧ 15 < byteAt p 2), (3, flagAt p 1 ∧ ¬ (1 ≤ byteAt p 3 ∧ byteAt p 3 ≤ 16)),
    (4, flagAt p 1 ∧ ¬ (1 ≤ byteAt p 4 ∧ byteAt p 4 ≤ 60)), (5, flagAt p 1 ∧ 30 < byteAt p 5), (6, flagAt p 1 ∧ 2 < byteAt p 6),
    (7, flagAt p 1 ∧ ((byteAt p 6 = 1 ∧ (i16 p 7 < 0 ∨ 255 < i16 p 7)) ∨ (byteAt p 6 = 2 ∧ (i16 p 7 < -255 ∨ 255 < i16 p 7))))]

/-- The shelf of a type, 0 when it is undefined. -/
def State.shelfOf (s : State) (n : Nat) : Nat := ((s.stock.types.get? n).map fun o => o.shelf).getD 0

/-- The shelf a definition of fields in range leaves. -/
def shelfSet (p : Payload) (s : State) : Nat :=
  if byteAt p 6 = 0 then s.shelfOf (byteAt p 0)
  else if byteAt p 6 = 1 then (i16 p 7).toNat
  else min 255 (max 0 ((s.shelfOf (byteAt p 0) : Int) + i16 p 7)).toNat

/-- The type that a definition of fields in range stores. -/
def typeDefined (p : Payload) (s : State) : CartridgeType :=
  setType (s.stock.types.get? (byteAt p 0)) (shelfSet p s) (byteAt p 2) (byteAt p 3) (byteAt p 4) (byteAt p 5)

/-- TYPE_SET, its fields in range. -/
def typeInRange (p : Payload) (s : State) : Reply :=
  if flagAt p 1 = true then
    okay (defineType (byteAt p 0) (typeDefined p s) s).1
      (le 1 (shelfSet p s) ++ le 2 (defineType (byteAt p 0) (typeDefined p s) s).2.number)
  else undefineType (byteAt p 0) s

theorem shelfAfter_eq (mode : Nat) (v : Int) (shelf : Nat) (h : mode ≤ 2) : shelfAfter mode v shelf
    = if (mode = 1 ∧ (v < 0 ∨ 255 < v)) ∨ (mode = 2 ∧ (v < -255 ∨ 255 < v)) then none
      else some (if mode = 0 then shelf else if mode = 1 then v.toNat else min 255 (max 0 ((shelf : Int) + v)).toNat) := by
  match mode, h with
  | 0, _ => simp [shelfAfter]
  | 1, _ => by_cases hv : 0 ≤ v ∧ v ≤ 255 <;> simp [shelfAfter, hv]
  | 2, _ => by_cases hv : -255 ≤ v ∧ v ≤ 255 <;> simp [shelfAfter, hv]

theorem shelfAfter_of_checked (h : firstBadField (typeChecks p) = none) (hd : flagAt p 1 = true) :
    shelfAfter (byteAt p 6) (i16 p 7) (s.shelfOf (byteAt p 0)) = some (shelfSet p s) := by
  have hall := firstBadField_eq_none_iff.1 h
  simp only [typeChecks, hd, List.forall_mem_cons, decide_eq_false_iff_not, true_and] at hall
  obtain ⟨-, -, -, -, -, hmode, hvalue, -⟩ := hall
  rw [shelfAfter_eq _ _ _ (Nat.not_lt.1 hmode), if_neg hvalue]
  rfl

theorem typeSet_eq (hp : p.length = 9) : typeSet p s = checked (typeChecks p) (typeInRange p s) := by
  cases hd : flagAt p 1 with
  | false =>
    simp only [typeSet, typeInRange, typeChecks, checked_cons, checked_nil, hp, hd]
    simp
  | true =>
    simp only [typeSet, typeInRange, typeChecks, checked_cons, checked_nil, hp, hd, decide_eq_true_eq, not_and_or, not_le, true_and,
      ne_eq, not_true_eq_false, Bool.not_true, Bool.false_eq_true, if_false, if_true]
    by_cases hm : 2 < byteAt p 6
    · simp only [hm, if_true]
    rw [if_neg hm, if_neg hm]
    have hshelf := shelfAfter_eq (byteAt p 6) (i16 p 7) (s.shelfOf (byteAt p 0)) (Nat.not_lt.1 hm)
    unfold State.shelfOf at hshelf
    by_cases hv : (byteAt p 6 = 1 ∧ (i16 p 7 < 0 ∨ 255 < i16 p 7)) ∨ (byteAt p 6 = 2 ∧ (i16 p 7 < -255 ∨ 255 < i16 p 7))
    · rw [if_pos hv] at hshelf
      rw [hshelf, if_pos hv]
    · rw [if_neg hv] at hshelf
      rw [hshelf, if_neg hv]
      rfl

theorem exec_typeSet_eq (hs : s.Receptive) (hp : p.length = 9) :
    exec (.typeSet p) s = .next (answer 0x28 (checked (typeChecks p) (typeInRange p s)) s) := by
  rw [exec_typeSet hs, within_of_le (by omega), typeSet_eq hp]

theorem typeInRange_of_clear (hd : flagAt p 1 = false) : typeInRange p s = undefineType (byteAt p 0) s := by
  rw [typeInRange, if_neg (by simp [hd])]

theorem undefineType_of_used (h : ∃ e ∈ s.stock.reqs, e.2.type = n) : undefineType n s = refuse .state := by
  rw [undefineType, if_pos (by simpa using h)]

theorem undefineType_of_undefined (h : ∀ e ∈ s.stock.reqs, e.2.type ≠ n) (hty : s.stock.types.get? n = none) :
    undefineType n s = okay s [0, 0, 0] := by
  rw [undefineType, if_neg (by simpa using h), if_pos (by simp [hty])]
  rfl

theorem undefineType_of_defined (h : ∀ e ∈ s.stock.reqs, e.2.type ≠ n) (hty : s.stock.types.get? n = some ty) : undefineType n s
    = okay (calloutUpdate [] [n] { s with stock := { s.stock with types := s.stock.types.del n } }) [0, 0, 0] := by
  rw [undefineType, if_neg (by simpa using h), if_neg (by simp [hty])]
  rfl

theorem Table.del_of_get?_eq_none {α : Type} {t : Table α} (h : t.get? n = none) : t.del n = t := by
  refine List.filter_eq_self.2 fun e he => ?_
  have hne : e.1 ≠ n := fun hn => (Table.get?_eq_none_iff t n).1 h (hn ▸ List.mem_map_of_mem he)
  simpa using hne

/-- The OPEN requisition of a type is the one that the stock holds. -/
theorem StockReady.openReq_of_get? (h : StockReady s) {k : Nat} (hr : s.stock.reqs.get? k = some r) (ht : r.type = n)
    (ho : r.confirmDay = none) : s.openReq n = some (k, r) := by
  cases hopen : s.openReq n with
  | none => exact absurd (mem_openTypes.2 ⟨_, Table.mem_of_get? hr, ho, ht⟩) ((s.openReq_eq_none_iff n).1 hopen)
  | some e =>
    obtain ⟨het, heo⟩ := State.openReq_fits hopen
    have hmem (e : Nat × Requisition) (he : e ∈ s.stock.reqs) (hc : e.2.confirmDay = none) :
        e ∈ s.stock.reqs.filter fun e => e.2.confirmDay.isNone := List.mem_filter.2 ⟨he, by simp [hc]⟩
    have hboth := List.inj_on_of_nodup_map h.stock.single (hmem e (List.mem_of_find?_eq_some hopen) heo)
      (hmem _ (Table.mem_of_get? hr) ho) (het.trans ht.symm)
    rw [hboth]

/-- The number a reorder check answers to a definition: 0 and no change, or that of the OPEN requisition that it issued or grew. -/
theorem number_reorder (h : StockReady s) {m : Nat} (hm : m = (reorder n s).2.number) : m ≤ 65535
    ∧ (m = 0 ↔ (reorderCheck n s).stock.reqs = s.stock.reqs) ∧ (m ≠ 0 → ∃ r, (reorderCheck n s).openReq n = some (m, r)) := by
  have hkept := h.kept n
  rw [← reorderCheck] at hkept
  have hready := h.reorderCheck n
  generalize (reorder n s).2 = result at hkept hm
  subst hm
  cases hkept with
  | kept he => exact ⟨Nat.zero_le _, iff_of_true rfl he, fun h => absurd rfl h⟩
  | full he => exact ⟨Nat.zero_le _, iff_of_true rfl he, fun h => absurd rfl h⟩
  | grew k d r ho hne he =>
    obtain ⟨ht, hc⟩ := State.openReq_fits ho
    have hget : s.stock.reqs.get? k = some r := State.get?_of_openReq h.sorted ho
    obtain ⟨hlow, hhigh⟩ := h.numbered k (Table.mem_keys_of_get? hget)
    have hgrown : (reorderCheck n s).stock.reqs.get? k = some { r with quantity := min 255 (r.quantity + d) } := by
      rw [he, Table.get?_modify_self, hget, Option.map_some]
    refine ⟨hhigh, iff_of_false (Nat.ne_of_gt hlow) fun heq => ?_, fun _ => ⟨_, hready.openReq_of_get? hgrown ht hc⟩⟩
    rw [heq, hget] at hgrown
    exact hne (congrArg Requisition.quantity (Option.some.inj hgrown)).symm
  | issued k q ho hk hl hh he =>
    have hnew : (reorderCheck n s).stock.reqs.get? k = some ⟨n, q, s.time.day, none, false⟩ := by rw [he, Table.get?_put_self]
    refine ⟨hh, iff_of_false (Nat.ne_of_gt hl) fun heq => ?_, fun _ => ⟨_, hready.openReq_of_get? hnew rfl rfl⟩⟩
    rw [heq, hk] at hnew
    cases hnew

/-- The state of a definition before its reorder check. -/
def withType (n : Nat) (ty : CartridgeType) (s : State) : State :=
  { s with stock := { s.stock with types := s.stock.types.put n ty } }

theorem defineType_of_changed (h : s.stock.types.get? n = none ∨ ty.shelf ≠ s.shelfOf n) :
    (defineType n ty s).1 = calloutUpdate [] [n] (reorderCheck n (withType n ty s)) := by
  have hc : ((s.stock.types.get? n).all fun o => decide (o.shelf ≠ ty.shelf)) = true := by
    unfold State.shelfOf at h
    cases hold : s.stock.types.get? n with
    | none => rfl
    | some o =>
      rw [hold] at h
      exact decide_eq_true fun he => h.resolve_left (by simp) he.symm
  simp only [defineType, hc, if_true]
  rfl

theorem defineType_of_same (hold : (s.stock.types.get? n).isSome = true) (h : ty.shelf = s.shelfOf n) :
    (defineType n ty s).1 = reorderCheck n (withType n ty s) := by
  obtain ⟨o, ho⟩ := Option.isSome_iff_exists.1 hold
  have hc : ((s.stock.types.get? n).all fun o => decide (o.shelf ≠ ty.shelf)) = false := by
    simp [ho, h, State.shelfOf]
  simp only [defineType, hc, Bool.false_eq_true, if_false]
  rfl

theorem defineType_stock (n : Nat) (ty : CartridgeType) (s : State) :
    (defineType n ty s).1.stock = (reorderCheck n (withType n ty s)).stock := by
  unfold defineType
  dsimp only
  split
  · exact calloutUpdate_stock (s := (reorder n (withType n ty s)).1) [] [n]
  · rfl

theorem withType_ready (h : StockReady s) (hb : firstBadField (typeChecks p) = none) (hd : flagAt p 1 = true) :
    StockReady (withType (byteAt p 0) (typeDefined p s) s) := by
  have hshelf := shelfAfter_of_checked (s := s) hb hd
  have hall := firstBadField_eq_none_iff.1 hb
  simp only [typeChecks, hd, List.forall_mem_cons, decide_eq_false_iff_not, true_and, not_not, not_lt] at hall
  obtain ⟨hn, hreserve, hpack, hlead, hmargin, -⟩ := hall
  exact h.part (.putType s _ _ _ _ _ _ _ _ hn hreserve hpack hlead hmargin hshelf)

/-- Settles O32: a definition by the check of the type as it stores it, an undefinition by the table, both by the announcement. -/
theorem typeSetDefinesOrUndefinesAType : Obligations.TypeSetDefinesOrUndefinesAType := by
  intro s p hs ht hk hp n old was v defines bad announced
  have hready : StockReady s := ⟨ht, stockSound_iff.1 hk⟩
  have hann (u : State) (hprinters : u.printers = s.printers) (hcallout : u.callout = s.callout) :
      announced (calloutUpdate [] [n] u) := fun htickets e he hc hslot =>
    inLine_announced (((calloutSound_iff ht).1 htickets).of_fields hprinters hcallout) (hprinters ▸ he) hc hslot
  rw [exec_typeSet_eq hs hp]
  refine ⟨fun i hi => ?bad, fun hb hd hused => ?used, fun hb hd hfree => ?undefined, fun shelf hb hd hshelf => ?defined⟩
  case bad => rw [checked_of_mem (checks := typeChecks p) hi, answer_badField]
  all_goals rw [checked_of_none (checks := typeChecks p) hb]
  case used => rw [typeInRange_of_clear (Bool.not_eq_true _ ▸ hd), undefineType_of_used hused, answer_refuse]
  case undefined =>
    rw [typeInRange_of_clear (Bool.not_eq_true _ ▸ hd)]
    cases hold : s.stock.types.get? n with
    | none =>
      rw [undefineType_of_undefined hfree hold, answer_okay]
      refine ⟨s, rfl, by rw [Table.del_of_get?_eq_none hold], rfl, fun _ => rfl, fun h => ?_⟩
      simp [old, hold] at h
    | some o =>
      rw [undefineType_of_defined hfree hold, answer_okay]
      refine ⟨_, rfl, by simp, by apply State.eq_of_fields <;> simp, fun h => ?_, fun _ => hann _ rfl rfl⟩
      simp [old, hold] at h
  case defined =>
    intro base
    have hset : shelf = shelfSet p s := by
      have hmode0 : byteAt p 6 = 0 → shelfSet p s = s.shelfOf n := fun h => if_pos h
      have hmode1 : byteAt p 6 = 1 → shelfSet p s = v.toNat := fun h => by rw [shelfSet, h]; rfl
      have hmode2 : byteAt p 6 = 2 → shelfSet p s = min 255 (max 0 ((s.shelfOf n : Int) + v)).toNat := fun h => by
        rw [shelfSet, h]; rfl
      obtain ⟨h, hs⟩ | ⟨h, hs⟩ | ⟨h, hs⟩ := hshelf
      · rw [hmode0 h]
        exact hs
      · rw [hmode1 h]
        omega
      · rw [hmode2 h]
        have hwas : was = s.shelfOf n := rfl
        omega
    have hbase : base = withType n (typeDefined p s) s := by
      simp only [base, hset]
      rfl
    have hbready : StockReady base := hbase ▸ withType_ready hready hb hd
    have hget : base.stock.types.get? n = some (typeDefined p s) := by
      rw [hbase]
      exact Table.get?_put_self _ _ _
    obtain ⟨b, htypes, -⟩ := reorderCheck_types hget
    obtain ⟨hle, hzero, hopen⟩ := number_reorder hbready rfl
    have hstock : (defineType n (typeDefined p s) s).1.stock = (reorderCheck n base).stock := hbase ▸ defineType_stock _ _ _
    have hresult : (defineType n (typeDefined p s) s).2 = (reorder n base).2 := by
      rw [hbase]
      rfl
    rw [typeInRange, if_pos hd, answer_okay]
    refine ⟨_, _, List.mem_range.2 (Nat.lt_succ_of_le hle), by rw [← hresult, hset], ?frame, hstock, ?type, fun x hx => ?others, ?zero,
      fun hm => ?opened, fun hc => ?changed, fun hold hc => ?same⟩
    case frame =>
      have hframe := defineType_frame (s := s) n (typeDefined p s)
      exact hframe
    case type => exact ⟨{ typeDefined p s with pending := b }, by
      rw [hstock, htypes, Table.get?_modify_self, hget, Option.map_some, Option.mem_def], by rw [hset]; rfl⟩
    case others => rw [hstock, htypes, Table.get?_modify_ne _ _ hx, hbase, withType, Table.get?_put_ne _ _ hx]
    case zero =>
      rw [hstock, hzero, hbase]
      exact Iff.rfl
    case opened =>
      obtain ⟨r, hr⟩ := hopen hm
      exact ⟨r, by rw [State.openReq, hstock]; exact hr⟩
    case changed =>
      have hchanged : s.stock.types.get? n = none ∨ (typeDefined p s).shelf ≠ s.shelfOf n := hc.imp_right fun h => by rwa [hset] at h
      rw [defineType_of_changed hchanged]
      refine hann _ ?_ ?_ <;> simp [withType]
    case same =>
      have hsame : (typeDefined p s).shelf = s.shelfOf n := by rwa [hset] at hc
      rw [defineType_of_same hold hsame]
      constructor <;> simp [withType]

end Sys2Proof.Machine
end

section
/-!
PROOFS. The steps of the sweep (R52, R53, R59, R68, R77, R95 to R97, R165 to R167).
-/

namespace Sys2Proof.Machine

variable {s t : State} {n : Nat} {ty : CartridgeType}

/-! ### The walk and the reorder checks -/

/-- A reorder check reads of the Time Base the day number only. -/
theorem reorder_setWalk (k : Nat) (w : Option SweepWalk) (s : State) :
    reorder k (setWalk w s) = (setWalk w (reorder k s).1, (reorder k s).2) := by
  cases hty : s.stock.types.get? k with
  | none => rw [reorder_of_undefined hty, reorder_of_undefined (s := setWalk w s) hty]
  | some ty =>
    have hty' : (setWalk w s).stock.types.get? k = some ty := hty
    by_cases h : s.Short k ty
    · have h' : (setWalk w s).Short k ty := h
      rw [reorder_of_short hty h, reorder_of_short hty' h']
      have hopen : (setWalk w s).openReq k = s.openReq k := rfl
      rw [hopen]
      cases s.openReq k with
      | some e => rfl
      | none =>
        dsimp only
        have hreqs : (setWalk w s).stock.reqs = s.stock.reqs := rfl
        rw [hreqs]
        split
        · rfl
        · unfold setCauseIf
          split <;> rfl
    · have h' : ¬ (setWalk w s).Short k ty := h
      rw [reorder_of_supplied hty h, reorder_of_supplied hty' h']
      rfl

theorem reorderChecks_setWalk (ts : List Nat) (w : Option SweepWalk) (s : State) :
    reorderChecks ts (setWalk w s) = setWalk w (reorderChecks ts s) := by
  have hcheck (k : Nat) (u : State) : reorderCheck k (setWalk w u) = setWalk w (reorderCheck k u) := by
    simp only [reorderCheck, reorder_setWalk]
  unfold reorderChecks
  induction (List.range 64).filter (fun t => t ∈ ts) generalizing s with
  | nil => rfl
  | cons k l ih => rw [List.foldl_cons, List.foldl_cons, hcheck, ih]

/-! ### The printer step (R52, R166) -/

theorem printerStepEffect_of_walk (h : s.time.sweep = some (.printers n)) : printerStepEffect s = sweepPrinterWalk n s := by
  simp only [printerStepEffect, h]

/-- The first entry that a search finds by its number is the one that the table gives for it. -/
theorem Table.get?_of_find? {α : Type} {t : Table α} {f : Nat → Bool} {e : Nat × α} (h : t.find? (fun e => f e.1) = some e) :
    t.get? e.1 = some e.2 := by
  induction t with
  | nil => cases h
  | cons d t ih =>
    rw [List.find?_cons] at h
    split at h
    · obtain rfl := Option.some.inj h
      exact if_pos rfl
    · next hd =>
      have hne : d.1 ≠ e.1 := fun he => by
        have hf := List.find?_some h
        simp only [← he, hd] at hf
        cases hf
      rw [Table.get?, if_neg hne]
      exact ih h

/-- The types newly WANTED, as the list of the pairs before and after whose mark is new. -/
theorem flatten_newMark (l m : List Cartridge) : (List.zipWith newMark l m).flatten
    = ((l.zip m).filter fun x => !x.1.wanted && x.2.wanted).map fun x => x.2.type := by
  induction l generalizing m with
  | nil => rfl
  | cons a l ih =>
    cases m with
    | nil => rfl
    | cons b m =>
      rw [List.zipWith_cons_cons, List.flatten_cons, ih, List.zip_cons_cons, List.filter_cons, newMark]
      split <;> rfl

/-- Settles O20: the walk's first printer, its record by the table's rules, the checks apart from the walk. -/
theorem sweepStepSweepsTheNextPrinter : Obligations.SweepStepSweepsTheNextPrinter := by
  intro s n hs hsweep
  rw [exec_sweepPrinterStep hs, printerStepEffect_of_walk hsweep]
  refine ⟨fun hnone => ?_, fun e he => ?_⟩
  · have hfind : s.printers.find? (fun e => decide (n ≤ e.1)) = none :=
      List.find?_eq_none.2 fun e he => by simpa using hnone e he
    rw [sweepPrinterWalk, hfind]
    rfl
  · intro pages swept marked
    have hget : s.printers.get? e.1 = some e.2 := Table.get?_of_find? (f := fun k => n ≤ k) he
    let record := fun p : Printer => { p with slots := s.sweptSlots e.2, pMono := 0, pColour := 0, rebase := false }
    let walk := some (if e.1 < 255 then SweepWalk.printers (e.1 + 1) else .groups 0)
    have hmarked : (List.zipWith newMark e.2.slots (s.sweptSlots e.2)).flatten = marked := flatten_newMark _ _
    have heq : sweepPrinterWalk n s = reorderChecks marked (setWalk walk (updPrinter e.1 record s)) := by
      rw [sweepPrinterWalk, Option.mem_def.1 he]
      simp only [sweepPrinter, hmarked, reorderChecks_setWalk]
      rfl
    have hprinters : (sweepPrinterWalk n s).printers = s.printers.modify e.1 record := by
      rw [heq, reorderChecks_printers]
      rfl
    have htime : (sweepPrinterWalk n s).time = { s.time with sweep := walk } := by
      rw [heq, reorderChecks_time]
      rfl
    refine ⟨_, rfl, ?_, ?_, ?_, fun q _ hq => ?_⟩
    · rw [← htime]
      apply State.eq_of_fields <;> simp [heq, setWalk]
    · rw [hprinters, Table.get?_modify_self, hget]
      rfl
    · rw [hprinters, htime, heq]
      rfl
    · rw [hprinters, Table.get?_modify_ne _ _ hq]

/-! ### The group and the account steps (R95 to R97, R166) -/

theorem groupStepEffect_of_walk (h : s.time.sweep = some (.groups n)) : groupStepEffect s = sweepGroupWalk n s := by
  simp only [groupStepEffect, h, Option.map_some, passedOver]

theorem accountStepEffect_of_walk (h : s.time.sweep = some (.accounts n)) : accountStepEffect s = sweepAccountWalk n s := by
  simp only [accountStepEffect, h]

/-- A group has a period day among the days of the sweep's span (R96). -/
def State.PeriodDay (s : State) (g : BudgetGroup) : Prop :=
  ∃ i ∈ List.range s.time.span, (s.time.closing - BitVec.ofNat 16 i).toNat % g.period = g.phase

theorem refilledBy_iff (g : BudgetGroup) : g.refilledBy s.time.closing s.time.span = true ↔ s.PeriodDay g := by
  simp [BudgetGroup.refilledBy, BudgetGroup.periodDay, State.PeriodDay, List.any_eq_true]

theorem accountWalk_eq (k : Nat) (s : State) :
    accountWalk k s = if s.bank.accounts.any (fun x => decide (k < x.1)) = true then .accounts k else .types 0 := by
  unfold accountWalk
  cases h : s.bank.accounts.above k with
  | none => rw [if_neg (by simpa using List.find?_eq_none.1 h)]
  | some e =>
    have hany : s.bank.accounts.any (fun x => decide (k < x.1)) = true :=
      List.any_eq_true.2 ⟨e, List.mem_of_find?_eq_some h, (List.find?_some h :)⟩
    rw [if_pos hany]

/-- Settles O22: the refill of the record of the position, the walk by the accounts left. -/
theorem sweepRefillsOnAPeriodDay : Obligations.SweepRefillsOnAPeriodDay := by
  intro s n hs ht periodDay
  obtain ⟨-, -, -, -, -, -, -, -, hsorted, hnumbered, hgroups, -⟩ := ht
  refine ⟨fun hn hsweep => ?group, fun hsweep e he => ?account⟩
  case group =>
    intro g pool
    have hmem : n ∈ Table.keys s.bank.groups := by rw [hgroups]; exact List.mem_range.2 (by omega)
    have hself : (groupStep n s).groupAt n = if g.refilledBy s.time.closing s.time.span = true ∧ g.pool < g.cap
        then { g with pool := min (g.pool + g.allowance) g.cap } else g := by
      rw [groupStep, groupAt_updGroup_self hmem]
    rw [exec_sweepGroupStep hs, groupStepEffect_of_walk hsweep]
    refine ⟨_, rfl, rfl, ?_, fun q _ hq => ?_, fun hp => ?_, fun hp => ?_⟩
    · have hwalk : accountWalk 0 s = if s.bank.accounts = [] then .types 0 else .accounts 0 := by
        rw [accountWalk_eq]
        have hany : s.bank.accounts.any (fun x => decide (0 < x.1)) = true ↔ s.bank.accounts ≠ [] := by
          rw [List.any_eq_true]
          refine ⟨fun ⟨e, he, _⟩ => List.ne_nil_of_mem he, fun h => ?_⟩
          obtain ⟨e, he⟩ := List.exists_mem_of_ne_nil _ h
          exact ⟨e, he, decide_eq_true (hnumbered e.1 (List.mem_map_of_mem he)).1⟩
        by_cases h : s.bank.accounts = []
        · rw [if_neg (mt hany.1 (not_not.2 h)), if_pos h]
        · rw [if_pos (hany.2 h), if_neg h]
      refine (congrArg (fun w => some (if n < 63 then SweepWalk.groups (n + 1) else w)) hwalk).trans ?_
      split
      · rfl
      · split <;> rfl
    · exact groupAt_updGroup_ne hq
    · refine hself.trans ?_
      by_cases hcap : g.pool < g.cap
      · rw [if_pos ⟨(refilledBy_iff g).2 hp, hcap⟩]
        simp only [pool, hcap, if_true]
      · rw [if_neg fun h => hcap h.2]
        simp only [pool, hcap, if_false]
    · exact hself.trans (if_neg fun h => hp ((refilledBy_iff g).1 h.1))
  case account =>
    intro g b mark
    have hget : s.bank.accounts.get? e.1 = some e.2 := Table.get?_of_find? (f := fun k => n < k) he
    have heq : sweepAccountWalk n s = setWalk (some (accountWalk e.1 s)) (accountStep e.1 s) := by
      rw [sweepAccountWalk, Option.mem_def.1 he]
    have hself : (accountStep e.1 s).bank.accounts.get? e.1
        = some (if g.refilledBy s.time.closing s.time.span = true ∧ e.2.balance < e.2.cap
            then { e.2 with balance := b, exhausted := mark } else e.2) := by
      rw [accountStep, updAccount_bank, Table.get?_modify_self, hget, Option.map_some]
      rfl
    rw [exec_sweepAccountStep hs, accountStepEffect_of_walk hsweep, heq]
    refine ⟨_, rfl, rfl, ?_, fun q _ hq => ?_, fun hp => ?_, fun hp => ?_⟩
    · exact (congrArg some (accountWalk_eq e.1 s)).trans (by split <;> rfl)
    · have hother : (accountStep e.1 s).bank.accounts.get? q = s.bank.accounts.get? q := by
        rw [accountStep, updAccount_bank, Table.get?_modify_ne _ _ hq]
      exact hother
    · exact hself.trans (by rw [if_pos ⟨(refilledBy_iff g).2 hp.1, hp.2⟩])
    · exact hself.trans (by rw [if_neg fun h => hp ⟨(refilledBy_iff g).1 h.1, h.2⟩])

/-! ### The type step (R68, R77, R165, R167) -/

theorem typeStepEffect_of_walk (h : s.time.sweep = some (.types n)) : typeStepEffect s = sweepTypeWalk n s := by
  simp only [typeStepEffect, h, Option.map_some, passedOver]

/-- A requisition of a type, confirmed too long before the opening day (R77). -/
def State.Late (s : State) (n : Nat) (r : Requisition) : Prop :=
  r.type = n ∧ ∃ c ∈ r.confirmDay, (s.time.opening - c).toNat ≤ 32767
    ∧ ∃ ty ∈ s.stock.types.get? n, ty.lead + s.params.overdueGrace < (s.time.opening - c).toNat

/-- The overdue examination finds a requisition. -/
def State.foundLate (s : State) (n : Nat) (r : Requisition) : Bool :=
  (s.stock.types.get? n).any fun ty => r.type == n && r.becomesOverdue s.time.opening (ty.lead + s.params.overdueGrace)

theorem foundLate_iff (r : Requisition) : s.foundLate n r = true ↔ r.overdue = false ∧ s.Late n r := by
  simp only [State.foundLate, State.Late, Requisition.becomesOverdue, Option.any_eq_true, dayDiff, Bool.and_eq_true, beq_iff_eq,
    Bool.not_eq_true', Option.mem_def]
  constructor
  · rintro ⟨ty, hty, htype, ho, c, hc, hle, hlt⟩
    exact ⟨ho, htype, c, hc, of_decide_eq_true hle, ty, hty, of_decide_eq_true hlt⟩
  · rintro ⟨ho, htype, c, hc, hle, ty, hty, hlt⟩
    exact ⟨ty, hty, htype, ho, c, hc, decide_eq_true hle, decide_eq_true hlt⟩

theorem checkOverdue_eq (n : Nat) (s : State) : checkOverdue n s = setCauseIf (s.stock.reqs.any fun e => s.foundLate n e.2) .reqOverdue
    { s with stock := { s.stock with
        reqs := s.stock.reqs.map fun e => (e.1, { e.2 with overdue := e.2.overdue || s.foundLate n e.2 }) } } := by
  unfold checkOverdue State.foundLate
  cases s.stock.types.get? n with
  | none => simp [setCauseIf]
  | some ty =>
    dsimp only [Option.any_some]
    congr 4
    funext e
    split
    · next h => simp [h]
    · next h => simp [h]

theorem hasCause_reorderCheck_other {c : Cause} (ho : c ≠ .reqOpened) (hf : c ≠ .reqTableFull) (k : Nat) (s : State) :
    (reorderCheck k s).hasCause c = s.hasCause c := by
  unfold reorderCheck
  obtain ⟨-, he⟩ | ⟨ty, -, ⟨-, he⟩ | ⟨-, -, ⟨k, r, -, he⟩ | ⟨-, -, he⟩ | ⟨-, -, he⟩⟩⟩ := reorder_cases k s <;> rw [he]
  · rfl
  · rfl
  · refine (hasCause_setCause .reqOpened c _).trans ?_
    rw [decide_eq_false ho, Bool.or_false]
    rfl
  · refine (hasCause_setCauseIf _ .reqTableFull c s).trans ?_
    rw [decide_eq_false hf, Bool.and_false, Bool.or_false]

/-- The state of a type step when its examination begins. -/
def typeChecked (n : Nat) (s : State) : State := reorderCheck n (updType n (fun ty => { ty with holdOff := false }) s)

theorem typeStep_eq (n : Nat) (s : State) : typeStep n s = checkOverdue n (typeChecked n s) := rfl

theorem typeChecked_types (hty : s.stock.types.get? n = some ty) :
    ∃ b, (typeChecked n s).stock.types.get? n = some { ty with holdOff := false, pending := b } := by
  have hget : (updType n (fun ty => { ty with holdOff := false }) s).stock.types.get? n = some { ty with holdOff := false } := by
    rw [updType, Table.get?_modify_self, hty, Option.map_some]
  obtain ⟨b, hb, -⟩ := reorderCheck_types hget
  exact ⟨b, by rw [typeChecked, hb, Table.get?_modify_self, hget, Option.map_some]⟩

theorem typeChecked_types_ne {k : Nat} (hk : k ≠ n) : (typeChecked n s).stock.types.get? k = s.stock.types.get? k := by
  have hget : (updType n (fun ty => { ty with holdOff := false }) s).stock.types.get? k = s.stock.types.get? k := by
    rw [updType, Table.get?_modify_ne _ _ hk]
  rw [typeChecked]
  cases hty : (updType n (fun ty => { ty with holdOff := false }) s).stock.types.get? n with
  | none => rw [reorderCheck, reorder_of_undefined hty, hget]
  | some ty =>
    obtain ⟨b, hb, -⟩ := reorderCheck_types hty
    rw [hb, Table.get?_modify_ne _ _ hk, hget]

theorem typeChecked_undefined (hty : s.stock.types.get? n = none) : (typeChecked n s).stock.types.get? n = none := by
  have hget : (updType n (fun ty => { ty with holdOff := false }) s).stock.types.get? n = none := by
    rw [updType, Table.get?_modify_self, hty, Option.map_none]
  rw [typeChecked, reorderCheck, reorder_of_undefined hget, hget]

/-- The check before it leaves what the examination finds. -/
theorem foundLate_typeChecked (r : Requisition) : (typeChecked n s).foundLate n r = s.foundLate n r := by
  have htime : (typeChecked n s).time = s.time := by simp [typeChecked]
  have hparams : (typeChecked n s).params = s.params := by simp [typeChecked]
  cases hty : s.stock.types.get? n with
  | none => simp only [State.foundLate, hty, typeChecked_undefined hty, Option.any_none]
  | some ty =>
    obtain ⟨b, hb⟩ := typeChecked_types hty
    rw [State.foundLate, State.foundLate, hty, hb, htime, hparams]
    rfl

theorem typeStep_of_checked (n : Nat) (s : State) : typeStep n s
    = setCauseIf ((typeChecked n s).stock.reqs.any fun e => s.foundLate n e.2) .reqOverdue
      { typeChecked n s with stock := { (typeChecked n s).stock with
        reqs := (typeChecked n s).stock.reqs.map fun e => (e.1, { e.2 with overdue := e.2.overdue || s.foundLate n e.2 }) } } := by
  rw [typeStep_eq, checkOverdue_eq]
  simp only [foundLate_typeChecked]

theorem foundLate_or (r : Requisition) : (r.overdue || s.foundLate n r) = true ↔ r.overdue = true ∨ s.Late n r := by
  rw [Bool.or_eq_true, foundLate_iff]
  cases r.overdue <;> simp

/-- The requisition under a number after the type step: it may have grown, and is overdue when the examination finds it so. -/
theorem get?_typeStep (h : StockReady s) {q : Nat} {r : Requisition} (hr : s.stock.reqs.get? q = some r) :
    ∃ d, (typeStep n s).stock.reqs.get? q = some { r with quantity := d, overdue := r.overdue || s.foundLate n r } := by
  have hready : StockReady (updType n (fun ty => { ty with holdOff := false }) s) := h.part (.updType s n _ fun _ h => h)
  have hreqs : (typeStep n s).stock.reqs
      = (typeChecked n s).stock.reqs.map fun e => (e.1, { e.2 with overdue := e.2.overdue || s.foundLate n e.2 }) := by
    rw [typeStep_of_checked, setCauseIf]
    split <;> rfl
  have hmap := Table.get?_mapWith (typeChecked n s).stock.reqs (fun _ r => { r with overdue := r.overdue || s.foundLate n r }) q
  rw [hreqs, hmap]
  cases hready.reqKept n q with
  | same he => exact ⟨r.quantity, by rw [typeChecked, he, updType, hr, Option.map_some]⟩
  | grew r' d hr' ht ho hq he =>
    obtain rfl := Option.some.inj (hr.symm.trans hr')
    exact ⟨d, by rw [typeChecked, he, Option.map_some]; rfl⟩
  | issued d hn he => rw [updType, hr] at hn; cases hn

/-- The examination finds of the requisitions those that it finds before the check. -/
theorem any_foundLate (h : StockReady s) : ((typeChecked n s).stock.reqs.any fun e => s.foundLate n e.2) = true
    ↔ ∃ e ∈ s.stock.reqs, s.Late n e.2 ∧ e.2.overdue = false := by
  have hready : StockReady (updType n (fun ty => { ty with holdOff := false }) s) := h.part (.updType s n _ fun _ h => h)
  have hchecked : StockReady (typeChecked n s) := hready.reorderCheck n
  rw [List.any_eq_true]
  refine ⟨fun ⟨e, he, hf⟩ => ?_, fun ⟨e, he, hlate, ho⟩ => ?_⟩
  · have hget := Table.get?_of_mem hchecked.sorted he
    obtain ⟨ho, hlate⟩ := (foundLate_iff e.2).1 hf
    have hkept := hready.reqKept n e.1
    rw [← typeChecked] at hkept
    cases hkept with
    | same heq => exact ⟨e, Table.mem_of_get? (by rw [← hget, heq]; rfl), hlate, ho⟩
    | grew r d hr ht hopen hq heq =>
      have heq := Option.some.inj (hget.symm.trans heq)
      rw [heq] at hlate ho
      exact ⟨(e.1, r), Table.mem_of_get? hr, hlate, ho⟩
    | issued d hn heq =>
      rw [Option.some.inj (hget.symm.trans heq)] at hlate
      obtain ⟨-, c, hc, -⟩ := hlate
      cases hc
  · have hget : (updType n (fun ty => { ty with holdOff := false }) s).stock.reqs.get? e.1 = some e.2 := Table.get?_of_mem h.sorted he
    have hfound : s.foundLate n e.2 = true := (foundLate_iff e.2).2 ⟨ho, hlate⟩
    have hkept := hready.reqKept n e.1
    rw [← typeChecked] at hkept
    cases hkept with
    | same heq => exact ⟨e, Table.mem_of_get? (heq.trans hget), hfound⟩
    | grew r d hr ht hopen hq heq =>
      obtain rfl := Option.some.inj (hget.symm.trans hr)
      exact ⟨_, Table.mem_of_get? heq, hfound⟩
    | issued d hn heq => rw [hget] at hn; cases hn

/-- Settles O23: the requisitions by the examination, the end of the walk by the queued sweep. -/
theorem sweepTypeStepEndsHoldOffAndFindsOverdue : Obligations.SweepTypeStepEndsHoldOffAndFindsOverdue := by
  intro s n hs ht hk hn hsweep late checked
  have hready : StockReady s := ⟨ht, stockSound_iff.1 hk⟩
  have hlate (r : Requisition) : late r ↔ s.Late n r := Iff.rfl
  have hstock : (sweepTypeWalk n s).stock = (typeStep n s).stock := by
    unfold sweepTypeWalk
    split <;> simp [setWalk, completeSweep]
  have hcauses (c : Cause) (hc : c ≠ .sweepDone) : (sweepTypeWalk n s).hasCause c = (typeStep n s).hasCause c := by
    unfold sweepTypeWalk
    split
    · rfl
    · refine (hasCause_setCause .sweepDone c _).trans ?_
      rw [decide_eq_false hc, Bool.or_false]
  have htypes : (typeStep n s).stock.types = (typeChecked n s).stock.types := by
    rw [typeStep_of_checked, setCauseIf]
    split <;> rfl
  have htime : (typeStep n s).time = s.time := by simp [typeStep]
  have hmap : (fun e : Nat × Requisition => (e.1, { e.2 with overdue := e.2.overdue || s.foundLate n e.2 }))
      = fun e => (e.1, { e.2 with overdue := e.2.overdue || decide (late e.2) }) := by
    funext e
    have hor : (e.2.overdue || s.foundLate n e.2) = (e.2.overdue || decide (late e.2)) := by
      rw [Bool.eq_iff_iff, foundLate_or, Bool.or_eq_true, decide_eq_true_eq, hlate]
    rw [hor]
  refine ⟨sweepTypeWalk n s, ?_, ?_, fun ty hty => ?types, fun q _ hq => ?others, fun q _ r hr => ?reqs, ?overdue, ⟨?stock, fun c hc => ?causes⟩,
    fun hlt => ?more, fun heq => ?last⟩
  · rw [exec_sweepTypeStep hs, typeStepEffect_of_walk hsweep]
  · have hframe := sweepTypeWalk_frame (s := s) n
    exact hframe
  case types =>
    obtain ⟨b, hb⟩ := typeChecked_types (Option.mem_def.1 hty)
    exact ⟨_, by rw [hstock, htypes]; exact hb, rfl⟩
  case others => rw [hstock, htypes, typeChecked_types_ne hq]
  case reqs =>
    obtain ⟨d, hd⟩ := get?_typeStep (n := n) hready (Option.mem_def.1 hr)
    exact ⟨_, by rw [hstock]; exact hd, rfl, foundLate_or r⟩
  case overdue =>
    have hkept : (typeChecked n s).hasCause .reqOverdue = s.hasCause .reqOverdue :=
      hasCause_reorderCheck_other (by decide) (by decide) n (updType n (fun ty => { ty with holdOff := false }) s)
    rw [hcauses _ (by decide), typeStep_of_checked, hasCause_setCauseIf, decide_eq_true rfl, Bool.and_true, Bool.or_eq_true,
      any_foundLate hready]
    exact or_congr (by rw [← hkept]; rfl) Iff.rfl
  case stock =>
    rw [hstock, typeStep_of_checked, hmap, setCauseIf]
    split <;> rfl
  case causes =>
    have hne : c ≠ .sweepDone ∧ c ≠ .reqOverdue := by
      constructor <;> rintro rfl <;> simp at hc
    rw [hcauses c hne.1, typeStep_of_checked, hasCause_setCauseIf, decide_eq_false hne.2, Bool.and_false, Bool.or_false]
    rfl
  case more =>
    rw [sweepTypeWalk, if_pos hlt]
    simp only [setWalk, htime]
  case last =>
    rw [sweepTypeWalk, if_neg (by omega)]
    have hwalk : (completeSweep (typeStep n s)).time
        = if s.time.queued then startSweep { s.time with queued := false } else { s.time with sweep := none } := by
      simp only [completeSweep, setCause_time, htime]
    refine ⟨?_, fun hq => ?_, fun hq => ?_⟩
    · refine (hasCause_setCause .sweepDone .sweepDone (typeStep n s)).trans ?_
      rw [decide_eq_true rfl, Bool.or_true]
    · rw [hwalk, if_neg (by simp [hq])]
    · rw [hwalk, if_pos hq]
      refine ⟨rfl, rfl, rfl, rfl, rfl, fun l hl => ?_, rfl⟩
      simp only [startSweep, Option.mem_def.1 hl, Option.getD_some, sweepSpan, dayDiff]

end Sys2Proof.Machine
end

section
/-!
PROOFS. What a reorder check reads, and PRINTER_ADD and PRINTER_RETIRE (R1, R6, R7, R10, R11, R36, R43, R59, R68).
-/

namespace Sys2Proof.Machine

variable {s t : State} {n : Nat}

/-! ### What the reorder checks read (R69) -/

/-- What a cartridge counts for in the wanted counts. -/
def Cartridge.mark (c : Cartridge) : Bool × Nat := (c.wanted, c.type)

/-- What a printer counts for in the wanted counts. -/
def Printer.marks (p : Printer) : List (Bool × Nat) := p.slots.map Cartridge.mark

/-- Two states alike in all that a reorder check reads and, of the causes, in those that the Stock Unit sets. -/
structure State.StockAlike (s t : State) : Prop where
  stock : t.stock = s.stock
  marks : Table.view Printer.marks t.printers = Table.view Printer.marks s.printers
  day : t.time.day = s.time.day
  causes : ∀ c ∈ [Cause.reqOpened, .reqTableFull, .stockMismatch], t.hasCause c = s.hasCause c

theorem wantedCount_of_marks (h : Table.view Printer.marks t.printers = Table.view Printer.marks s.printers) (n : Nat) :
    t.wantedCount n = s.wantedCount n := by
  have hcount (l : Table Printer) : (l.map fun e => e.2.slots.countP fun c => c.wanted && c.type == n)
      = (Table.view Printer.marks l).map fun e => e.2.countP fun m => m.1 && m.2 == n := by
    simp only [Table.view, List.map_map]
    refine List.map_congr_left fun e _ => ?_
    simp only [Function.comp_apply, Printer.marks, List.countP_map]
    rfl
  rw [State.wantedCount, State.wantedCount, hcount, hcount, h]

namespace State.StockAlike

theorem refl (s : State) : s.StockAlike s := ⟨rfl, rfl, rfl, fun _ _ => rfl⟩

theorem symm (h : s.StockAlike t) : t.StockAlike s := ⟨h.stock.symm, h.marks.symm, h.day.symm, fun c hc => (h.causes c hc).symm⟩

theorem trans {u : State} (h : s.StockAlike t) (h' : t.StockAlike u) : s.StockAlike u :=
  ⟨h'.stock.trans h.stock, h'.marks.trans h.marks, h'.day.trans h.day, fun c hc => (h'.causes c hc).trans (h.causes c hc)⟩

theorem stockAsIn (h : s.StockAlike t) : t.StockAsIn s := ⟨h.stock, h.causes⟩

/-- States with one port have the same causes. -/
theorem of_port (hs : t.stock = s.stock) (hm : Table.view Printer.marks t.printers = Table.view Printer.marks s.printers)
    (hd : t.time.day = s.time.day) (hp : t.port = s.port) : s.StockAlike t :=
  ⟨hs, hm, hd, fun c _ => hasCause_of_port hp c⟩

theorem withStock (h : s.StockAlike t) {k k' : Stock} (hk : k' = k) : State.StockAlike { s with stock := k } { t with stock := k' } :=
  ⟨hk, h.marks, h.day, h.causes⟩

theorem updType (h : s.StockAlike t) (n : Nat) (f : CartridgeType → CartridgeType) : (updType n f s).StockAlike (updType n f t) :=
  h.withStock (by rw [h.stock])

theorem updReq (h : s.StockAlike t) (n : Nat) (f : Requisition → Requisition) : (updReq n f s).StockAlike (updReq n f t) :=
  h.withStock (by rw [h.stock])

theorem setCause (h : s.StockAlike t) (c : Cause) : (setCause c s).StockAlike (setCause c t) :=
  ⟨h.stock, h.marks, h.day, fun x hx => by rw [hasCause_setCause, hasCause_setCause, h.causes x hx]⟩

theorem setCauseIf (h : s.StockAlike t) (b : Bool) (c : Cause) : (setCauseIf b c s).StockAlike (setCauseIf b c t) := by
  cases b with
  | true => exact h.setCause c
  | false => exact h

theorem issueReq (h : s.StockAlike t) (n q : Nat) : (issueReq n q s).1.StockAlike (issueReq n q t).1 := by
  refine updType (setCause (s := { s with stock := _ }) (t := { t with stock := _ }) (h.withStock ?_) .reqOpened) n _
  rw [h.stock, h.day]

theorem reorderCheck (h : s.StockAlike t) (n : Nat) : (reorderCheck n s).StockAlike (reorderCheck n t) := by
  unfold Machine.reorderCheck
  cases hty : s.stock.types.get? n with
  | none => rwa [reorder_of_undefined hty, reorder_of_undefined (h.stock ▸ hty)]
  | some ty =>
    have hty' : t.stock.types.get? n = some ty := h.stock ▸ hty
    have hneed : t.need n ty = s.need n ty := congrArg (· + ty.reserve) (wantedCount_of_marks h.marks n)
    have hsupply : t.supply n ty = s.supply n ty := by rw [State.supply, State.onOrder, h.stock, State.supply, State.onOrder]
    have hshort : t.Short n ty ↔ s.Short n ty := by rw [State.Short, State.Short, hneed, hsupply]
    have hquantity : t.shortfall n ty = s.shortfall n ty := by rw [State.shortfall, State.shortfall, hneed, hsupply]
    have hopen : t.openReq n = s.openReq n := by rw [State.openReq, h.stock, State.openReq]
    by_cases hs : s.Short n ty
    · rw [reorder_of_short hty hs, reorder_of_short hty' (hshort.2 hs), hopen, hquantity, h.stock]
      cases s.openReq n with
      | some e => exact (h.updReq _ _).updType _ _
      | none =>
        dsimp only
        split
        · exact h.issueReq _ _
        · exact (h.setCauseIf _ _).updType _ _
    · rw [reorder_of_supplied hty hs, reorder_of_supplied hty' (mt hshort.1 hs)]
      exact h.updType _ _

theorem reorderChecks (h : s.StockAlike t) (ts : List Nat) : (reorderChecks ts s).StockAlike (reorderChecks ts t) := by
  unfold Machine.reorderChecks
  induction (List.range 64).filter (fun t => t ∈ ts) generalizing s t with
  | nil => exact h
  | cons n l ih => exact ih (h.reorderCheck n)

end State.StockAlike

/-! ### PRINTER_ADD (R6, R7) -/

variable {p : Payload}

theorem within_of_gt {body : Payload → State → Reply} (h : 60 < p.length) : within body p s = refuse .badLength := by
  simp only [within, Config.payloadMax, h, if_true]

/-- The list field at the end of a payload. -/
theorem listAt_eq_drop {i k : Nat} (h : p.length = i + k) : listAt p i k = (p.drop i).map BitVec.toNat := by
  rw [listAt, List.take_of_length_le (by rw [List.length_drop]; omega)]

/-- The checks of the fields of a PRINTER_ADD before its types, in their order. -/
def addChecksOf (p : Payload) : List (Nat × Bool) :=
  [(1, 63 < byteAt p 1), (2, 7 < byteAt p 2), (4, byteAt p 4 ≠ 1 ∧ byteAt p 4 ≠ 4), (3, bitAt p 3 0 = true ∧ byteAt p 4 = 1)]

/-- The types that a PRINTER_ADD or a PRINTER_SET names. -/
def typesOf (p : Payload) : List Nat := (p.drop 5).map BitVec.toNat

/-- PRINTER_ADD, its fields before the types in range. -/
def printerAddInRange (p : Payload) (s : State) : Reply :=
  match firstBad (· ≤ 63) (typesOf p) with
  | some j => badEntry 5 j
  | none =>
    if (s.printers.get? (byteAt p 0)).isSome then refuse .exists
    else
      okay { s with
        printers := s.printers.put (byteAt p 0) (newPrinter s.now (byteAt p 1) (byteAt p 2) (capsAt p 3) (typesOf p)) } []

theorem exec_printerAdd_of_fits (hs : s.Receptive) (h60 : p.length ≤ 60) (hfit : p.length = 5 + byteAt p 4) :
    exec (.printerAdd p) s = .next (answer 0x10 (checked (addChecksOf p) (printerAddInRange p s)) s) := by
  have hadd : printerAdd p s = checked (addChecksOf p) (printerAddInRange p s) := by
    have htypes : listAt p 5 (byteAt p 4) = typesOf p := listAt_eq_drop hfit
    rw [printerAdd, if_neg (by omega), if_neg (by omega), htypes]
    simp only [addChecksOf, checked_cons, checked_nil, decide_eq_true_eq]
    rfl
  rw [exec_printerAdd hs, within_of_le h60, hadd]

theorem exec_printerAdd_of_unfit (hs : s.Receptive) (h : ¬ (p.length ≤ 60 ∧ p.length = 5 + byteAt p 4)) :
    exec (.printerAdd p) s = .next (answeredNo 0x10 .badLength [] s) := by
  rw [exec_printerAdd hs]
  by_cases h60 : p.length ≤ 60
  · have hbad : printerAdd p s = refuse .badLength := by
      rw [printerAdd]
      split
      · rfl
      · rw [if_pos fun hf => h ⟨h60, hf⟩]
    rw [within_of_le h60, hbad, answer_refuse]
  · rw [within_of_gt (Nat.not_le.1 h60), answer_refuse]

/-- Settles O24: the checks in their order, the record by the table's own rules. -/
theorem printerAddFillsAnAwaitingRecord : Obligations.PrinterAddFillsAnAwaitingRecord := by
  intro s p hs n types fits bad
  refine ⟨exec_printerAdd_of_unfit hs, fun hf i hi => ?bad, fun hf hb i hi hbad hgood => ?entry, fun hf hb hgood => ?good⟩
  all_goals
    obtain ⟨h60, hlen⟩ := hf
    rw [exec_printerAdd_of_fits hs h60 hlen]
  case bad => rw [checked_of_mem (checks := addChecksOf p) hi, answer_badField]
  all_goals rw [checked_of_none (checks := addChecksOf p) hb, printerAddInRange]
  case entry =>
    have hfirst : firstBad (· ≤ 63) (typesOf p) = some i := firstBad_eq_some (List.mem_range.1 hi) (decide_eq_false (Nat.not_le.2 hbad))
      fun t ht => decide_eq_true (hgood t ht)
    rw [hfirst]
    rfl
  case good =>
    have hfirst : firstBad (· ≤ 63) (typesOf p) = none := firstBad_eq_none fun t ht => decide_eq_true (hgood t ht)
    rw [hfirst]
    refine ⟨fun hu => ?_, fun hn => ?_⟩
    · dsimp only
      rw [if_pos hu, answer_refuse]
    · dsimp only
      rw [if_neg (by rw [hn]; simp), answer_okay]
      refine ⟨_, rfl, rfl, fun q hq => Table.get?_put_ne _ _ hq, _, Table.get?_put_self _ _ _, rfl, rfl, rfl, rfl, rfl, rfl, rfl, rfl, rfl,
        rfl, rfl, rfl, rfl, rfl, rfl, rfl, fun k => ?_⟩
      simp [newPrinter]

/-! ### PRINTER_RETIRE (R10, R11) -/

theorem exec_printerRetire_of_1 (hs : s.Receptive) (hp : p.length = 1) :
    exec (.printerRetire p) s = .next (answer 0x13 (printerRetire p s) s) := by
  rw [exec_printerRetire hs, within_of_le (by omega)]

theorem printerRetire_of_vacant (hp : p.length = 1) (h : s.printers.get? (byteAt p 0) = none) : printerRetire p s = refuse .notFound := by
  simp only [printerRetire, hp, h, ne_eq, not_true_eq_false, if_false]

theorem printerRetire_of_get? {pr : Printer} (hp : p.length = 1) (h : s.printers.get? (byteAt p 0) = some pr) : printerRetire p s
    = if s.inflightCount (byteAt p 0) ≠ 0 then refuse .busy
      else
        okay (applyRetire (byteAt p 0) pr s)
          (le 2 (s.store.records.countP fun j => j.holdsFor (byteAt p 0)) ++ le 1 (s.boundTo (byteAt p 0)).length
            ++ le 2 (s.ticketNumber (byteAt p 0))) := by
  simp only [printerRetire, hp, h, ne_eq, not_true_eq_false, if_false]

theorem inflightCount_ne_zero_iff : s.inflightCount n ≠ 0 ↔ ∃ j ∈ s.store.records, ∃ r ∈ j.phase.info?, r.printer = n := by
  simp [State.inflightCount, List.countP_eq_zero, Option.any_eq_true]

theorem length_boundTo (s : State) (n : Nat) : (s.boundTo n).length = s.line.stations.countP fun e => e.2.bound == some n := by
  rw [State.boundTo, Table.keys, List.length_map, List.countP_eq_length_filter]

/-- The current causes read of the stock which types have a shelf of 1 or more. -/
theorem currentCauses_of_stocked (hp : t.params = s.params) (hs : t.stocked = s.stocked) (q : Printer) :
    currentCauses t q = currentCauses s q := by
  have htoner (base : Nat) (cs : List Cartridge) : tonerSeverity t base cs = tonerSeverity s base cs := by
    rw [tonerSeverity, tonerSeverity, hp, hs]
  have hsev : effSeverity t q = effSeverity s q := by
    funext k
    cases k <;> simp only [effSeverity, htoner, State.kindOf, hp]
  simp only [currentCauses, hsev]

theorem stocked_reorderCheck (k : Nat) (s : State) : (reorderCheck k s).stocked = s.stocked := by
  cases hty : s.stock.types.get? k with
  | none => rw [reorderCheck, reorder_of_undefined hty]
  | some ty =>
    obtain ⟨b, hb, -⟩ := reorderCheck_types hty
    funext x
    rw [State.stocked, hb, Table.get?_modify, State.stocked]
    split
    · rw [Option.any_map]
    · rfl

theorem stocked_reorderChecks (ts : List Nat) (s : State) : (reorderChecks ts s).stocked = s.stocked :=
  reorderChecks_induct (P := fun u => u.stocked = s.stocked) ts (fun k _ h => (stocked_reorderCheck k _).trans h) rfl

/-- A hand-over reads of the state its printers, its callouts and its causes as they stand. -/
theorem State.EntryHandedOver.of_fields {u : State} (h : u.EntryHandedOver t) (hprinters : u.printers = s.printers)
    (hcallout : u.callout = s.callout) (htime : u.time = s.time) (hparams : u.params = s.params) (hstocked : u.stocked = s.stocked) :
    s.EntryHandedOver t := by
  have hcauses : currentCauses u = currentCauses s := funext (currentCauses_of_stocked hparams hstocked)
  simpa only [State.EntryHandedOver, hprinters, hcallout, htime, hparams, hcauses] using h

/-- The tickets but the retired one are those of the other printers. -/
theorem del_ticket_eq_filter (hs : Table.Sorted s.callout.tickets) (h : OneEach s.callout.tickets) {m : Nat} {k : Ticket}
    (hk : s.ticketOf n = some (m, k)) : s.callout.tickets.del m = s.callout.tickets.filter fun e => e.2.printer ≠ n := by
  obtain ⟨hmem, hn⟩ := State.mem_of_ticketOf hk
  refine List.filter_congr fun e he => ?_
  have hiff : e.1 = m ↔ e.2.printer = n := by
    constructor
    · intro hm
      rw [Table.record_eq hs he hmem hm, hn]
    · intro hp
      have hof := State.ticketOf_of_mem h he
      rw [hp, hk] at hof
      rw [← Option.some.inj hof]
  simp [hiff]

/-- A printer record after a hand-over, its deferred-callout flag apart. -/
theorem get?_handOver {q : Nat} {pr : Printer} (hp : s.printers.get? q = some pr) :
    ∃ b, (handOver s).printers.get? q = some { pr with deferred := b } := by
  have hview := view_handOver (f := fun p : Printer => { p with deferred := false }) s fun _ _ => rfl
  have hget := Table.map_get?_eq_of_view_eq hview q
  rw [hp, Option.map_some, Option.map_eq_some_iff] at hget
  obtain ⟨p, hp', heq⟩ := hget
  refine ⟨p.deferred, hp'.trans (congrArg some ?_)⟩
  cases p
  cases pr
  simp_all

/-- The state of a retirement before its checks, as the obligation writes it. -/
def State.leftBy (s : State) (n : Nat) : State :=
  { s with printers := s.printers.del n, callout := { s.callout with tickets := s.callout.tickets.filter fun e => e.2.printer ≠ n } }

/-- The state of a retirement before its hand-over. -/
structure RetiredTo (n : Nat) (pr : Printer) (s u : State) : Prop where
  printers : u.printers = s.printers.del n
  callout : u.callout = (s.leftBy n).callout
  time : u.time = s.time
  params : u.params = s.params
  stocked : u.stocked = s.stocked
  stock : State.StockAsIn u (reorderChecks ((pr.slots.filter fun c => c.wanted).map fun c => c.type) (s.leftBy n))
  store : u.store = { s.store with records := s.store.records.map (Job.retargeted n pr.floor) }
  line : u.line = { s.line with stations := s.line.stations.map fun e => (e.1, e.2.unbound n) }

theorem retiredTo_of_gone {pr : Printer} {v : State} (hprinters : v.printers = s.printers.del n) (hcallout : v.callout = (s.leftBy n).callout)
    (htime : v.time = s.time) (hparams : v.params = s.params) (hstock : v.stock = s.stock) (hport : v.port = s.port)
    (hstore : v.store = { s.store with records := s.store.records.map (Job.retargeted n pr.floor) }) (hline : v.line = s.line) :
    RetiredTo n pr s (unbindStations n (reorderChecks ((pr.slots.filter fun c => c.wanted).map fun c => c.type) v)) where
  printers := by simpa [unbindStations] using hprinters
  callout := by simpa [unbindStations] using hcallout
  time := by simpa [unbindStations] using htime
  params := by simpa [unbindStations] using hparams
  stocked := (stocked_reorderChecks _ v).trans (by unfold State.stocked; rw [hstock])
  stock := (State.StockAlike.reorderChecks (.of_port (s := s.leftBy n) (t := v) hstock (by rw [hprinters]; rfl) (by rw [htime]; rfl) hport) _).stockAsIn
  store := by simpa [unbindStations] using hstore
  line := by simp [unbindStations, hline]

/-- Settles O26: the state before the hand-over by its parts, the hand-over by the rule of R36. -/
theorem printerRetireFreesTheNumber : Obligations.PrinterRetireFreesTheNumber := by
  intro s p hs hp n
  rw [exec_printerRetire_of_1 hs hp]
  refine ⟨fun hn => by rw [printerRetire_of_vacant hp hn, answer_refuse], fun pr hpr => ?_⟩
  rw [printerRetire_of_get? hp (Option.mem_def.1 hpr)]
  refine ⟨fun hbusy => by rw [if_pos (inflightCount_ne_zero_iff.2 hbusy), answer_refuse], fun hfree ht hk => ?_⟩
  intro moves left
  have hidle : ¬ s.inflightCount n ≠ 0 := fun h => by
    obtain ⟨j, hj, r, hr, hrn⟩ := inflightCount_ne_zero_iff.1 h
    exact hfree j hj r hr hrn
  have hsound : s.CalloutSound 0 := (calloutSound_iff ht).1 hk
  rw [if_neg hidle, answer_okay, length_boundTo]
  have hframe := applyRetire_frame s n pr
  have hall : ∃ u, RetiredTo n pr s u ∧ applyRetire n pr s = if (s.ticketOf n).isSome = true then handOver u else u := by
    obtain ⟨hnone, he⟩ | ⟨m, k, hk, he⟩ := applyRetire_cases s n pr
    · have hfilter : s.callout.tickets.filter (fun e => decide (e.2.printer ≠ n)) = s.callout.tickets :=
        List.filter_eq_self.2 fun e he => decide_eq_true (State.ticketOf_eq_none_iff.1 hnone e he)
      refine ⟨_, retiredTo_of_gone (v := { retargetJobs n pr.floor s with printers := s.printers.del n }) rfl ?_ rfl rfl rfl rfl rfl rfl,
        by rw [hnone, if_neg (by simp)]; exact he⟩
      exact congrArg (fun x => { s.callout with tickets := x }) hfilter.symm
    · refine ⟨_, retiredTo_of_gone (v := retireTicket m { retargetJobs n pr.floor s with printers := s.printers.del n })
        rfl ?_ rfl rfl rfl rfl rfl rfl, by rw [hk, if_pos (by rfl)]; exact he⟩
      exact congrArg (fun x => { s.callout with tickets := x }) (del_ticket_eq_filter hsound.sorted hsound.oneEach hk)
  obtain ⟨u, hu, heq⟩ := hall
  have hkeys : Table.keys (applyRetire n pr s).printers = Table.keys (s.printers.del n) := by
    rw [heq, ← hu.printers]
    split
    · exact keys_printers_handOver u
    · rfl
  have hline : (applyRetire n pr s).line = u.line := by
    rw [heq]
    split <;> simp
  refine ⟨applyRetire n pr s, rfl, hframe, ?gone, ?ticket, ?stock, fun hnone => ?kept, fun k hk => ?handed, fun q hq x hx => ?others, ?store, ?line,
    fun a st hst => ?station⟩
  case gone =>
    rw [Table.get?_eq_none_iff, hkeys, Table.mem_keys_del]
    exact fun h => h.2 rfl
  case ticket =>
    have hsoundt := hsound.applyRetire n pr
    refine State.ticketOf_eq_none_iff.2 fun e he hen => ?_
    have hmem := hsoundt.printed e he
    rw [hkeys, hen, Table.mem_keys_del] at hmem
    exact hmem.2 rfl
  case stock =>
    obtain ⟨hstock, hcauses⟩ := hu.stock
    rw [heq]
    split
    · refine ⟨(handOver_stock u).trans hstock, fun c hc => (hasCause_handOver_other ?_ u).trans (hcauses c hc)⟩
      rintro rfl
      simp at hc
    · exact ⟨hstock, hcauses⟩
  case others =>
    have hget : u.printers.get? q = some x := by rw [hu.printers, Table.get?_del_ne _ hq, Option.mem_def.1 hx]
    rw [heq]
    split
    · obtain ⟨b, hb⟩ := get?_handOver hget
      exact ⟨_, hb, rfl⟩
    · exact ⟨x, hget, rfl⟩
  case kept =>
    rw [heq, hnone, if_neg (by simp)]
    refine ⟨hu.callout.trans ?_, hu.printers⟩
    have hfilter : s.callout.tickets.filter (fun e => decide (e.2.printer ≠ n)) = s.callout.tickets :=
      List.filter_eq_self.2 fun e he => decide_eq_true (State.ticketOf_eq_none_iff.1 hnone e he)
    exact congrArg (fun x => { s.callout with tickets := x }) hfilter
  case handed =>
    have hsorted : Table.Sorted u.printers := by
      rw [hu.printers]
      exact Table.sorted_del hsound.printers n
    have hlen : u.callout.tickets.length < 65535 := by
      rw [hu.callout]
      exact Nat.lt_of_le_of_lt (List.length_filter_le _ _) hsound.room_lt
    rw [heq, Option.mem_def.1 hk, if_pos (by rfl)]
    exact (entryHandedOver_handOver hsorted hlen).of_fields hu.printers hu.callout hu.time hu.params hu.stocked
  case store =>
    have hstore : (applyRetire n pr s).store = u.store := by
      rw [heq]
      split
      · exact handOver_store u
      · rfl
    rw [hstore, hu.store]
    rfl
  case line =>
    rw [hline, hu.line]
  case station =>
    rw [hline, hu.line]
    refine (Table.get?_mapWith s.line.stations (fun _ st => st.unbound n) a).trans ?_
    rw [Option.mem_def.1 hst, Option.map_some, Station.unbound]
    split <;> rfl

end Sys2Proof.Machine
end

section
/-!
PROOFS. The end of an event on one printer: its service state with the recall, the judgments of class 0 and the reconciliations
(R3 to R5, R25, R27, R30, R41, R149).
-/

namespace Sys2Proof.Machine

variable {s t u v : State} {q : Nat} {p : Printer} {st : ServiceState}

/-! ### The service state and the recall (R3 to R5, R149) -/

/-- What storing a service state on a printer comes to. -/
structure Serviced (q : Nat) (p : Printer) (st : ServiceState) (u v : State) : Prop where
  frame : v = { u with printers := v.printers, store := v.store, release := v.release, bank := v.bank, port := v.port }
  self : v.printers.get? q = some { p with state := st }
  others : ∀ x, x ≠ q → v.printers.get? x = u.printers.get? x
  marks : Table.view Printer.marks v.printers = Table.view Printer.marks u.printers
  deferred : Table.view Printer.deferred v.printers = Table.view Printer.deferred u.printers
  causes : ∀ c, c ≠ .jobRecalled → v.hasCause c = u.hasCause c
  recalled : st = .down → p.state ≠ .down → v.jobWork = (returnAll (u.releasingOn q) u).jobWork
    ∧ v.hasCause .jobRecalled = (returnAll (u.releasingOn q) u).hasCause .jobRecalled
  kept : st ≠ .down ∨ p.state = .down → v.jobWork = u.jobWork

/-- A printer that keeps its service state. -/
theorem Serviced.refl (hp : u.printers.get? q = some p) : Serviced q p p.state u u :=
  ⟨rfl, hp, fun _ _ => rfl, rfl, rfl, fun _ _ => rfl, fun h h' => absurd h h', fun _ => rfl⟩

theorem hasCause_recallPrinter (q : Nat) (c : Cause) (s : State) (h : c ≠ .jobRecalled) : (recallPrinter q s).hasCause c = s.hasCause c := by
  rw [recallPrinter, hasCause_returnAll, decide_eq_false h, Bool.and_false, Bool.or_false]

theorem serviced_setServiceState (hp : u.printers.get? q = some p) (hst : st ≠ .silent) :
    Serviced q p st u (setServiceState q st u) where
  frame := by apply State.eq_of_fields <;> simp
  self := by rw [setServiceState_printers, Table.get?_modify_self, hp, Option.map_some]
  others x hx := by rw [setServiceState_printers, Table.get?_modify_ne _ _ hx]
  marks := view_setServiceState u (fun _ _ => rfl) q st
  deferred := view_setServiceState u (fun _ _ => rfl) q st
  causes c hc := by
    obtain ⟨-, h⟩ | ⟨_, -, ⟨-, -, h⟩ | ⟨-, h⟩⟩ := setServiceState_cases q st u <;> rw [h]
    · rw [hasCause_recallPrinter q c _ hc]
      rfl
    · rfl
  recalled hdown hne := by
    obtain ⟨hn, -⟩ | ⟨p', hp', ⟨-, -, h⟩ | ⟨h, -⟩⟩ := setServiceState_cases q st u
    · rw [hp] at hn
      cases hn
    · have hset : setServiceState q st u
          = { recallPrinter q u with printers := u.printers.modify q fun p => { p with state := st } } :=
        h.trans (recallPrinter_withPrinters q _)
      rw [hset]
      exact ⟨rfl, rfl⟩
    · obtain rfl : p = p' := Option.some.inj (hp.symm.trans hp')
      exact absurd ⟨hdown ▸ hne, .inl hdown⟩ h
  kept h := by
    obtain ⟨-, he⟩ | ⟨p', hp', ⟨hne, hdown, -⟩ | ⟨-, he⟩⟩ := setServiceState_cases q st u
    · rw [he]
    · obtain rfl : p = p' := Option.some.inj (hp.symm.trans hp')
      have hd := hdown.resolve_right hst
      exact absurd (h.resolve_left (not_not.2 hd)) (hd ▸ hne)
    · rw [he]
      rfl

theorem Printer.derived_ne_silent (e : Nat) (p : Printer) : p.derived e ≠ .silent := by
  unfold Printer.derived
  split
  · decide
  · split <;> decide

theorem serviced_deriveState (hp : u.printers.get? q = some p) : Serviced q p (p.derived u.params.emptyLevel) u (deriveState q u) := by
  simp only [deriveState, hp]
  exact serviced_setServiceState hp (Printer.derived_ne_silent _ p)

/-- The service state of a printer that is derived again unless it is AWAITING or SILENT. -/
def Printer.rederived (e : Nat) (p : Printer) : ServiceState := if p.state = .awaiting ∨ p.state = .silent then p.state else p.derived e

theorem serviced_rederiveState (hp : u.printers.get? q = some p) : Serviced q p (p.rederived u.params.emptyLevel) u (rederiveState q u) := by
  simp only [rederiveState, hp]
  unfold Printer.rederived
  split
  · exact .refl hp
  · exact serviced_deriveState hp

/-! ### The jobs recalled -/

theorem State.JobsSound.releasingOn_eq (h : s.JobsSound) (q : Nat) : s.releasingOn q = s.releasingThere q := by
  have hnone : (s.returnedAll (s.releasingFrom [])).jobWork = s.jobWork :=
    congrArg State.jobWork (foldl_returnUnreleased h List.nodup_nil (by simp)).symm
  exact h.releasingOn_returned (l := []) (by simp) hnone.symm

/-- A recall made in a state with the jobs of `s` returns them as it does in `s`. -/
theorem State.JobsSound.recall (h : s.JobsSound) (hu : u.jobWork = s.jobWork) (hc : u.hasCause .jobRecalled = s.hasCause .jobRecalled)
    (ht : t.jobWork = (Machine.returnAll (u.releasingOn q) u).jobWork)
    (htc : t.hasCause .jobRecalled = (Machine.returnAll (u.releasingOn q) u).hasCause .jobRecalled) :
    s.ReturnedUncharged t (s.releasingThere q) := by
  obtain ⟨hstore, hrelease, -⟩ : u.store = s.store ∧ u.release = s.release ∧ u.bank = s.bank := by
    simpa only [State.jobWork, Prod.mk.injEq] using hu
  have hon : u.releasingOn q = s.releasingThere q := by
    rw [← h.releasingOn_eq, State.releasingOn, State.releasingOn, hrelease]
    simp only [State.jobAt, hstore]
  have hwork : t.jobWork = (Machine.returnAll (s.releasingThere q) s).jobWork := by
    rw [ht, hon, jobWork_returnAll, jobWork_returnAll, jobWork_foldl_returnUnreleased hu]
  have hcause : t.hasCause .jobRecalled = (Machine.returnAll (s.releasingThere q) s).hasCause .jobRecalled := by
    rw [htc, hon, hasCause_returnAll, hasCause_returnAll, hc]
  obtain ⟨h1, h2, h3⟩ : t.store = _ ∧ t.release = _ ∧ t.bank = _ := by simpa only [State.jobWork, Prod.mk.injEq] using hwork
  obtain ⟨hs, hr, hb, hcr⟩ := h.returnAll (ns := s.releasingThere q) List.filter_sublist
  exact ⟨h1.trans hs, h2.trans hr, h3.trans hb, by rw [hcause]; exact hcr⟩

/-! ### The end of the event (R25, R27, R30, R41) -/

/-- What the end of an event comes to that has stored a service state on a printer, and announces types. -/
structure Concluded (q : Nat) (p : Printer) (st : ServiceState) (ann : List Nat) (u t : State) : Prop where
  frame : t = { u with printers := t.printers, callout := t.callout, store := t.store, release := t.release, bank := t.bank,
                       port := t.port }
  self : ∃ b, t.printers.get? q = some { p with state := st, filters := judgeClass0 u { p with state := st }, deferred := b }
  others : ∀ x, x ≠ q → ∀ y, u.printers.get? x = some y → ∃ b, t.printers.get? x = some { y with deferred := b }
  marks : Table.view Printer.marks t.printers = Table.view Printer.marks u.printers
  causes : ∀ c, c ≠ .jobRecalled → c ≠ .calloutRaised → c ≠ .calloutDeferred → t.hasCause c = u.hasCause c
  recalled : st = .down → p.state ≠ .down → t.jobWork = (returnAll (u.releasingOn q) u).jobWork
    ∧ t.hasCause .jobRecalled = (returnAll (u.releasingOn q) u).hasCause .jobRecalled
  kept : st ≠ .down ∨ p.state = .down → t.jobWork = u.jobWork
  inLine : u.CalloutSound 0 → t.CalloutInLine q
  announced : u.CalloutSound 0 → ∀ x y, x ≠ q → u.printers.get? x = some y → y.tonerConfirmed = true → (∃ d ∈ y.slots, d.type ∈ ann) →
    t.CalloutInLine x

theorem Serviced.concluded (h : Serviced q p st u v) (ann : List Nat) : Concluded q p st ann u (calloutUpdate [q] ann v) := by
  have hparams : v.params = u.params := by rw [h.frame]
  have hcallout : v.callout = u.callout := by rw [h.frame]
  have hself : (judgePrinter v q).printers.get? q = some { p with state := st, filters := judgeClass0 u { p with state := st } } := by
    rw [judgePrinter, updPrinter_printers, Table.get?_modify_self, h.self, Option.map_some, judgeClass0_of_params hparams]
  have hothers (x : Nat) (hx : x ≠ q) : (judgePrinter v q).printers.get? x = u.printers.get? x := by
    rw [judgePrinter, updPrinter_printers, Table.get?_modify_ne _ _ hx, h.others x hx]
  have hsound (hs : u.CalloutSound 0) : (judgePrinter v q).CalloutSound 0 :=
    State.CalloutSound.judged (hs.of_deferred (by rw [hcallout]) h.deferred) [q]
  have hwork : (calloutUpdate [q] ann v).jobWork = v.jobWork := by simp [State.jobWork]
  have hcause (c : Cause) (hr : c ≠ .calloutRaised) (hd : c ≠ .calloutDeferred) : (calloutUpdate [q] ann v).hasCause c = v.hasCause c :=
    hasCause_reconcileAll_other hr hd _ _
  have hin (hs : u.CalloutSound 0) : (calloutUpdate [q] ann v).CalloutInLine q :=
    (place_reconcileAll (hsound hs) _ q).1 (State.mem_printersWhere_of_get? hself (by simp))
  refine ⟨?frame, get?_reconcileAll _ hself, fun x hx y hy => get?_reconcileAll _ ((hothers x hx).trans hy), ?marks,
    fun c hj hr hd => (hcause c hr hd).trans (h.causes c hj), fun hdown hne => ?recalled, fun hk => hwork.trans (h.kept hk), hin,
    fun hs x y hx hy hc hslot => ?announced⟩
  case frame =>
    have hv := h.frame
    rw [hv]
    apply State.eq_of_fields <;> simp
  case marks => exact (view_calloutUpdate (f := Printer.marks) v (fun _ _ => rfl) (fun _ _ => rfl) [q] ann).trans h.marks
  case recalled =>
    obtain ⟨hw, hcr⟩ := h.recalled hdown hne
    exact ⟨hwork.trans hw, (hcause _ (by decide) (by decide)).trans hcr⟩
  case announced =>
    refine (place_reconcileAll (hsound hs) _ x).1 (State.mem_printersWhere_of_get? ((hothers x hx).trans hy) ?_)
    simpa [hc] using .inr hslot

/-- The filters that the judgments of class 0 leave. -/
theorem judgeClass0_at (s : State) (p : Printer) (k : FaultKind) : (judgeClass0 s p).at k
    = if (s.params.kinds.at k).cls = 0 then (if p.present s.params.emptyLevel k then .confirmed else .clear) else p.filters.at k := by
  rw [judgeClass0, KindTable.at_of]
  rfl

end Sys2Proof.Machine
end

section
/-!
PROOFS. One slot: the rules of a cartridge's change, its swap and its test, CARTRIDGE_SWAPPED and CARTRIDGE_SEED (R48 to R51, R58, R60, R71).
-/

namespace Sys2Proof.Machine

variable {s t u v : State} {q i : Nat} {pr : Printer} {c : Cartridge} {ty : CartridgeType}

/-! ### Slots -/

theorem updSlot_updSlot (q i : Nat) (f g : Cartridge → Cartridge) (s : State) :
    updSlot q i g (updSlot q i f s) = updSlot q i (fun c => g (f c)) s := by
  simp only [updSlot, updPrinter, Table.modify_modify, List.modify_modify_eq]
  rfl

theorem get?_updSlot_self (h : s.printers.get? q = some pr) (i : Nat) (f : Cartridge → Cartridge) :
    (updSlot q i f s).printers.get? q = some { pr with slots := pr.slots.modify i f } := by
  rw [updSlot, updPrinter_printers, Table.get?_modify_self, h, Option.map_some]

theorem get?_updSlot_ne {x : Nat} (h : x ≠ q) (i : Nat) (f : Cartridge → Cartridge) :
    (updSlot q i f s).printers.get? x = s.printers.get? x := by
  rw [updSlot, updPrinter_printers, Table.get?_modify_ne _ _ h]

theorem slotAt_eq (h : s.printers.get? q = some pr) (i : Nat) : s.slotAt q i = pr.slots[i]? := by
  rw [State.slotAt, h, Option.bind_some]

theorem slotAt_of_printers (h : t.printers = s.printers) (q i : Nat) : t.slotAt q i = s.slotAt q i := by
  rw [State.slotAt, h, State.slotAt]

theorem slotAt_updSlot_self (h : s.slotAt q i = some c) (f : Cartridge → Cartridge) : (updSlot q i f s).slotAt q i = some (f c) := by
  obtain ⟨pr, hpr, hc⟩ := Option.bind_eq_some_iff.1 h
  rw [slotAt_eq (get?_updSlot_self hpr i f)]
  simp [hc]

theorem map_modify_of_comm {α β : Type} {f : α → β} {g : α → α} {g' : β → β} (h : ∀ x, f (g x) = g' (f x)) (l : List α) (i : Nat) :
    (l.modify i g).map f = (l.map f).modify i g' := by
  induction l generalizing i with
  | nil => simp
  | cons x l ih => cases i <;> simp [h, ih]

/-- A change of a record that a function of it follows. -/
theorem Table.view_modify_comm {α β : Type} {f : α → β} {g : α → α} {g' : β → β} (h : ∀ x, f (g x) = g' (f x)) (t : Table α) (n : Nat) :
    Table.view f (t.modify n g) = (Table.view f t).modify n g' := by
  simp only [Table.view, Table.modify, List.map_map]
  refine List.map_congr_left fun e _ => ?_
  by_cases hn : e.1 = n <;> simp [hn, h]

theorem marks_updSlot {f : Cartridge → Cartridge} {m : Bool × Nat → Bool × Nat} (h : ∀ c, (f c).mark = m c.mark) (q i : Nat) (s : State) :
    Table.view Printer.marks (updSlot q i f s).printers = (Table.view Printer.marks s.printers).modify q fun l => l.modify i m := by
  have hcomm (p : Printer) : Printer.marks { p with slots := p.slots.modify i f } = p.marks.modify i m := map_modify_of_comm h p.slots i
  exact Table.view_modify_comm hcomm s.printers q

/-- Changes of a slot that make the same of its mark. -/
theorem marks_updSlot_congr {f g : Cartridge → Cartridge} {m : Bool × Nat → Bool × Nat} (hf : ∀ c, (f c).mark = m c.mark)
    (hg : ∀ c, (g c).mark = m c.mark) (q i : Nat)
    (hm : Table.view Printer.marks t.printers = Table.view Printer.marks s.printers) :
    Table.view Printer.marks (updSlot q i f t).printers = Table.view Printer.marks (updSlot q i g s).printers := by
  rw [marks_updSlot hf, marks_updSlot hg, hm]

/-! ### The WANTED test and the forecast (R50, R51, R58) -/

/-- The days that the forecast of a type is compared with (R58). -/
def State.horizon (s : State) (x : Nat) : Option Nat := (s.stock.types.get? x).map fun ty => ty.lead + ty.margin

/-- A slot's record once its forecast is computed again and the test is applied. -/
def State.retested (s : State) (c : Cartridge) : Cartridge := s.testWanted c.refreshed

theorem wantedCondition_congr (hp : t.params = s.params) (hh : t.horizon = s.horizon) (c : Cartridge) :
    t.wantedCondition c = s.wantedCondition c := by
  have hany (s : State) : ((s.stock.types.get? c.type).any fun ty => decide (c.forecast ≤ ty.lead + ty.margin))
      = (s.horizon c.type).any fun d => decide (c.forecast ≤ d) := by
    rw [State.horizon, Option.any_map]
  rw [State.wantedCondition, State.wantedCondition, hany, hany, hp, hh]

theorem retested_congr (hp : t.params = s.params) (hh : t.horizon = s.horizon) (c : Cartridge) : t.retested c = s.retested c := by
  rw [State.retested, State.retested, State.testWanted_eq, State.testWanted_eq, wantedCondition_congr hp hh]

theorem horizon_updType {f : CartridgeType → CartridgeType} (hf : ∀ ty, (f ty).lead = ty.lead ∧ (f ty).margin = ty.margin) (k : Nat) (s : State) :
    (updType k f s).horizon = s.horizon := by
  funext x
  rw [State.horizon, updType, Table.get?_modify, State.horizon]
  split
  · rw [Option.map_map]
    refine congrArg (fun g => Option.map g _) (funext fun ty => ?_)
    obtain ⟨hl, hm⟩ := hf ty
    simp [hl, hm]
  · rfl

/-- A reorder check changes of a type its pending flag alone. -/
theorem get?_types_reorderCheck (k : Nat) {x : Nat} (h : s.stock.types.get? x = some ty) :
    ∃ b, (reorderCheck k s).stock.types.get? x = some { ty with pending := b } := by
  cases hk : s.stock.types.get? k with
  | none => exact ⟨ty.pending, by rw [reorderCheck, reorder_of_undefined hk, h]⟩
  | some tk =>
    obtain ⟨b, hb, -⟩ := reorderCheck_types hk
    rw [hb, Table.get?_modify, h]
    split
    · exact ⟨b, rfl⟩
    · exact ⟨ty.pending, rfl⟩

theorem get?_types_reorderCheck_none (k : Nat) {x : Nat} (h : s.stock.types.get? x = none) :
    (reorderCheck k s).stock.types.get? x = none := by
  cases hk : s.stock.types.get? k with
  | none => rw [reorderCheck, reorder_of_undefined hk, h]
  | some tk =>
    obtain ⟨b, hb, -⟩ := reorderCheck_types hk
    rw [hb, Table.get?_modify, h]
    split <;> rfl

theorem get?_types_reorderChecks (ts : List Nat) {x : Nat} (h : s.stock.types.get? x = some ty) :
    ∃ b, (reorderChecks ts s).stock.types.get? x = some { ty with pending := b } := by
  refine reorderChecks_induct (P := fun u => ∃ b, u.stock.types.get? x = some { ty with pending := b }) ts (fun k u ⟨b, hb⟩ => ?_)
    ⟨ty.pending, h⟩
  obtain ⟨b', hb'⟩ := get?_types_reorderCheck k hb
  exact ⟨b', hb'⟩

theorem horizon_reorderCheck (k : Nat) (s : State) : (reorderCheck k s).horizon = s.horizon := by
  funext x
  cases hx : s.stock.types.get? x with
  | none => rw [State.horizon, get?_types_reorderCheck_none k hx, State.horizon, hx]
  | some ty =>
    obtain ⟨b, hb⟩ := get?_types_reorderCheck k hx
    rw [State.horizon, hb, State.horizon, hx]
    rfl

/-! ### A swap as the stock takes it (R71) -/

/-- The stock before the reorder check of a swap. -/
theorem swapTaken_of_stocked {x : Nat} (h : s.stocked x = true) :
    s.swapTaken x = reorderCheck x (updType x (fun ty => { ty with shelf := ty.shelf - 1 }) s) := by
  have hex : ∃ ty ∈ s.stock.types.get? x, 1 ≤ ty.shelf := by simpa [State.stocked, Option.any_eq_true] using h
  rw [State.swapTaken, if_pos hex]

theorem swapTaken_of_unstocked {x : Nat} (h : s.stocked x = false) : s.swapTaken x = reorderCheck x (setCause .stockMismatch s) := by
  have hex : ¬ ∃ ty ∈ s.stock.types.get? x, 1 ≤ ty.shelf := fun ⟨ty, hty, hs⟩ => by
    have hst : s.stocked x = true := Option.any_eq_true _ _ |>.2 ⟨ty, hty, decide_eq_true hs⟩
    rw [h] at hst
    cases hst
  rw [State.swapTaken, if_neg hex]

theorem swapTaken_frame (x : Nat) (s : State) : s.swapTaken x = { s with stock := (s.swapTaken x).stock, port := (s.swapTaken x).port } := by
  unfold State.swapTaken
  split <;> apply State.eq_of_fields <;> simp

theorem horizon_swapTaken (x : Nat) (s : State) : (s.swapTaken x).horizon = s.horizon := by
  unfold State.swapTaken
  rw [horizon_reorderCheck]
  split
  · exact horizon_updType (f := fun ty => { ty with shelf := ty.shelf - 1 }) (fun _ => ⟨rfl, rfl⟩) x s
  · rfl

/-- The types after a swap: one less on the shelf of its own. -/
theorem get?_types_swapTaken (x : Nat) {y : Nat} (h : s.stock.types.get? y = some ty) :
    ∃ b, (s.swapTaken x).stock.types.get? y = some { ty with shelf := if y = x then ty.shelf - 1 else ty.shelf, pending := b } := by
  cases hs : s.stocked x with
  | true =>
    rw [swapTaken_of_stocked hs]
    have hget : (updType x (fun ty => { ty with shelf := ty.shelf - 1 }) s).stock.types.get? y
        = some { ty with shelf := if y = x then ty.shelf - 1 else ty.shelf } := by
      rw [updType, Table.get?_modify, h]
      split <;> rfl
    obtain ⟨b, hb⟩ := get?_types_reorderCheck x hget
    exact ⟨b, hb⟩
  | false =>
    rw [swapTaken_of_unstocked hs]
    have hshelf : y = x → ty.shelf = 0 := fun hy => by
      simpa [State.stocked, ← hy, h] using hs
    have hsame : (if y = x then ty.shelf - 1 else ty.shelf) = ty.shelf := by
      split
      · next hy => rw [hshelf hy]
      · rfl
    obtain ⟨b, hb⟩ := get?_types_reorderCheck (s := setCause .stockMismatch s) x h
    exact ⟨b, by rw [hb, hsame]⟩

theorem hasCause_swapTaken (x : Nat) (s : State) : (s.swapTaken x).hasCause .stockMismatch
    = (s.hasCause .stockMismatch || !s.stocked x) := by
  cases hs : s.stocked x with
  | true =>
    rw [swapTaken_of_stocked hs, hasCause_reorderCheck_other (by decide) (by decide), Bool.not_true, Bool.or_false]
    rfl
  | false =>
    rw [swapTaken_of_unstocked hs, hasCause_reorderCheck_other (by decide) (by decide), hasCause_setCause, Bool.not_false]
    simp

theorem State.StockAlike.swapTaken (h : s.StockAlike t) (x : Nat) : (s.swapTaken x).StockAlike (t.swapTaken x) := by
  unfold State.swapTaken
  rw [h.stock]
  split
  · exact (h.updType _ _).reorderCheck x
  · exact (h.setCause _).reorderCheck x

/-! ### The changes of a slot as they act on the state (R47, R48, R50) -/

/-- A cartridge put in, before its forecast and its test (R48). -/
def Cartridge.swappedAt (n : Nat) (c : Cartridge) : Cartridge :=
  { c with level := n, dayStart := n, stale := false, void := true, wanted := false }

/-- A known level stored that is no swap, before the forecast and the test (R47). -/
def Cartridge.acceptedAt (n : Nat) (c : Cartridge) : Cartridge := { c with level := n, stale := false, void := c.void || c.level < n }

theorem retestSlot_eq {w : Ripple} (h : w.state.slotAt q i = some c) : retestSlot q i w
    = { w with state := updSlot q i (fun _ => w.state.retested c) w.state, marked := newMark c (w.state.retested c) ++ w.marked } := by
  simp only [retestSlot, h]
  rfl

theorem slotAt_swapTaken (x : Nat) (s : State) (q i : Nat) : (s.swapTaken x).slotAt q i = s.slotAt q i := by
  rw [swapTaken_frame x s]
  rfl

/-- The state of a swap when its test is applied. -/
def swapState (q i n x : Nat) (s : State) : State := (updSlot q i (Cartridge.swappedAt n) s).swapTaken x

theorem retested_swapState (n x : Nat) (d : Cartridge) : (swapState q i n x s).retested d = s.retested d := by
  refine retested_congr ?_ ?_ d
  · rw [swapState, swapTaken_frame]
    rfl
  · rw [swapState, horizon_swapTaken]
    rfl

theorem swapSlot_eq {w : Ripple} (h : w.state.slotAt q i = some c) (n : Nat) : swapSlot q i n w
    = { state := updSlot q i (fun _ => w.state.retested (c.swappedAt n)) (swapState q i n c.type w.state),
        marked := newMark (c.swappedAt n) (w.state.retested (c.swappedAt n)) ++ w.marked,
        announced := if w.state.stocked c.type then c.type :: w.announced else w.announced } := by
  have hslot : (swapState q i n c.type w.state).slotAt q i = some (c.swappedAt n) := by
    rw [swapState, slotAt_swapTaken]
    exact slotAt_updSlot_self h _
  have hswap : swapSlot q i n w = retestSlot q i { w with
      state := swapState q i n c.type w.state, announced := if w.state.stocked c.type then c.type :: w.announced else w.announced } := by
    simp only [swapSlot, h, takeSwap_eq]
    rfl
  rw [hswap, retestSlot_eq hslot]
  simp only [retested_swapState]

theorem acceptLevel_eq {w : Ripple} (h : w.state.slotAt q i = some c) (n : Nat) : acceptLevel q i n w
    = { w with state := updSlot q i (fun _ => w.state.retested (c.acceptedAt n)) w.state,
               marked := newMark (c.acceptedAt n) (w.state.retested (c.acceptedAt n)) ++ w.marked } := by
  have hslot : (updSlot q i (Cartridge.acceptedAt n) w.state).slotAt q i = some (c.acceptedAt n) := slotAt_updSlot_self h _
  have haccept : acceptLevel q i n w = retestSlot q i { w with state := updSlot q i (Cartridge.acceptedAt n) w.state } := rfl
  have hretest : (updSlot q i (Cartridge.acceptedAt n) w.state).retested (c.acceptedAt n) = w.state.retested (c.acceptedAt n) :=
    retested_congr rfl rfl _
  rw [haccept, retestSlot_eq hslot]
  simp only [hretest, updSlot_updSlot]

theorem retested_eq (s : State) (c : Cartridge) : s.retested c
    = { c with forecast := forecastDays c.level c.coverage c.pageRate,
               wanted := c.wanted || s.wantedCondition { c with forecast := forecastDays c.level c.coverage c.pageRate } } :=
  s.testWanted_eq c.refreshed

theorem retested_wanted_iff (s : State) (c : Cartridge) : (s.retested c).wanted = true
    ↔ c.wanted = true ∨ c.level ≤ s.params.floorLevel ∨ ∃ ty ∈ s.stock.types.get? c.type, (s.retested c).forecast ≤ ty.lead + ty.margin := by
  rw [retested_eq, Bool.or_eq_true, State.wantedCondition_iff]

end Sys2Proof.Machine
end

section
/-!
PROOFS. CARTRIDGE_SWAPPED and CARTRIDGE_SEED (R4, R5, R25, R27, R41, R48 to R50, R58, R60, R71, R149).
-/

namespace Sys2Proof.Machine

variable {s t u : State} {q i : Nat} {pr : Printer} {c : Cartridge} {ty : CartridgeType} {p : Payload}

/-! ### What the obligations say of the end of an event -/

section

variable {r : Printer} {st : ServiceState} {ann : List Nat} (h : Concluded q r st ann u t)
include h

/-- The record of the printer after the event. -/
theorem Concluded.record : ∃ x, t.printers.get? q = some x ∧ x = { r with state := st, filters := x.filters, deferred := x.deferred }
    ∧ ∀ k : FaultKind, x.filters.at k = if (u.params.kinds.at k).cls = 0 then
        (if x.present u.params.emptyLevel k then .confirmed else .clear) else r.filters.at k := by
  obtain ⟨b, hb⟩ := h.self
  refine ⟨_, hb, rfl, fun k => (judgeClass0_at u _ k).trans ?_⟩
  cases k <;> rfl

theorem Concluded.returned (hj : JobOrdersSound s) (hw : u.jobWork = s.jobWork) (hc : u.hasCause .jobRecalled = s.hasCause .jobRecalled)
    (hdown : st = .down) (hne : r.state ≠ .down) : s.ReturnedUncharged t (s.releasingThere q) := by
  obtain ⟨hwork, hcause⟩ := h.recalled hdown hne
  exact (jobOrdersSound_iff.1 hj).recall hw hc hwork hcause

theorem Concluded.unrecalled (hw : u.jobWork = s.jobWork) (hk : st ≠ .down ∨ r.state = .down) :
    t.store = s.store ∧ t.release = s.release ∧ t.bank = s.bank := by
  simpa only [State.jobWork, Prod.mk.injEq] using (h.kept hk).trans hw

theorem Concluded.stock : t.stock = u.stock := by rw [h.frame]

/-- The stock of the event, and the causes of the Stock Unit. -/
theorem Concluded.alike : u.StockAlike t where
  stock := h.stock
  marks := h.marks
  day := by rw [h.frame]
  causes c hc := h.causes c (by rintro rfl; simp at hc) (by rintro rfl; simp at hc) (by rintro rfl; simp at hc)

end

/-! ### CARTRIDGE_SWAPPED (R49) -/

theorem exec_cartridgeSwapped_of_2 (hs : s.Receptive) (hp : p.length = 2) :
    exec (.cartridgeSwapped p) s = .next (answer 0x21 (cartridgeSwapped p s) s) := by
  rw [exec_cartridgeSwapped hs, within_of_le (by omega)]

theorem cartridgeSwapped_of_vacant (hp : p.length = 2) (h : s.printers.get? (byteAt p 0) = none) : cartridgeSwapped p s = refuse .notFound := by
  simp only [cartridgeSwapped, hp, h, ne_eq, not_true_eq_false, if_false]

theorem cartridgeSwapped_of_noSlot (hp : p.length = 2) (h : s.printers.get? (byteAt p 0) = some pr) (hc : pr.slots[byteAt p 1]? = none) :
    cartridgeSwapped p s = badField 1 := by
  simp only [cartridgeSwapped, hp, h, hc, ne_eq, not_true_eq_false, if_false]

theorem cartridgeSwapped_of_slot (hp : p.length = 2) (h : s.printers.get? (byteAt p 0) = some pr) (hc : pr.slots[byteAt p 1]? = some c)
    {c' : Cartridge} (hc' : (applySwapped (byteAt p 0) (byteAt p 1) s).slotAt (byteAt p 0) (byteAt p 1) = some c') :
    cartridgeSwapped p s = okay (applySwapped (byteAt p 0) (byteAt p 1) s) (le 2 c'.level ++ le 2 c'.forecast ++ flag c.wanted) := by
  simp only [cartridgeSwapped, hp, h, hc, hc', ne_eq, not_true_eq_false, if_false, Option.getD_some]

/-- The state of a swap before its printer's service state is derived. -/
def swapDone (q i : Nat) (c : Cartridge) (s : State) : State :=
  reorderChecks (newMark (c.swappedAt 1000) (s.retested (c.swappedAt 1000)))
    (updSlot q i (fun _ => s.retested (c.swappedAt 1000)) (swapState q i 1000 c.type s))

theorem applySwapped_eq (h : s.slotAt q i = some c) :
    applySwapped q i s = calloutUpdate [q] (if s.stocked c.type then [c.type] else []) (rederiveState q (swapDone q i c s)) := by
  have hswap := swapSlot_eq (w := ⟨s, [], []⟩) h 1000
  rw [applySwapped, hswap]
  simp only [Ripple.checked, List.append_nil]
  rfl

theorem swapDone_printers : (swapDone q i c s).printers = (updSlot q i (fun _ => s.retested (c.swappedAt 1000)) s).printers := by
  have hstate : (swapState q i 1000 c.type s).printers = (updSlot q i (Cartridge.swappedAt 1000) s).printers := by
    rw [swapState, swapTaken_frame]
  have hsame := congrArg State.printers (updSlot_updSlot q i (Cartridge.swappedAt 1000) (fun _ => s.retested (c.swappedAt 1000)) s)
  rw [swapDone, reorderChecks_printers, ← hsame, updSlot, updPrinter_printers, hstate]
  rfl

theorem swapDone_frame : swapDone q i c s
    = { s with printers := (swapDone q i c s).printers, stock := (swapDone q i c s).stock, port := (swapDone q i c s).port } := by
  have hstate := swapTaken_frame c.type (updSlot q i (Cartridge.swappedAt 1000) s)
  unfold swapDone swapState
  rw [hstate]
  apply State.eq_of_fields <;> simp

theorem hasCause_reorderChecks_other {x : Cause} (ho : x ≠ .reqOpened) (hf : x ≠ .reqTableFull) (ts : List Nat) (s : State) :
    (reorderChecks ts s).hasCause x = s.hasCause x :=
  reorderChecks_induct (P := fun u => u.hasCause x = s.hasCause x) ts (fun k u h => (hasCause_reorderCheck_other ho hf k u).trans h) rfl

theorem hasCause_swapTaken_other {x : Cause} (ho : x ≠ .reqOpened) (hf : x ≠ .reqTableFull) (hm : x ≠ .stockMismatch) (k : Nat) (s : State) :
    (s.swapTaken k).hasCause x = s.hasCause x := by
  unfold State.swapTaken
  rw [hasCause_reorderCheck_other ho hf]
  split
  · rfl
  · rw [hasCause_setCause, decide_eq_false hm, Bool.or_false]

theorem stocked_eq_false_iff {x : Nat} : s.stocked x = false ↔ ∀ ty ∈ s.stock.types.get? x, ty.shelf = 0 := by
  rw [State.stocked, Option.any_eq_false]
  simp

/-- States that differ in the printers alone, where their marks agree. -/
theorem State.StockAlike.withPrinters (h : s.StockAlike t) {x : Table Printer}
    (hx : Table.view Printer.marks x = Table.view Printer.marks s.printers) : s.StockAlike { t with printers := x } :=
  ⟨h.stock, hx, h.day, h.causes⟩

theorem newMark_eq (b c : Cartridge) : newMark b c = if !b.wanted && c.wanted then [c.type] else [] := rfl

/-- The stock of a swap, as it is with no more than the mark withdrawn. -/
theorem alike_swapDone (q i : Nat) (c : Cartridge) (s : State) {x : Table Printer}
    (hx : Table.view Printer.marks x = Table.view Printer.marks (swapDone q i c s).printers) :
    (swapDone q i c s).StockAlike (reorderChecks (if (s.retested (c.swappedAt 1000)).wanted then [c.type] else [])
      { (updSlot q i (fun d => { d with wanted := false }) s).swapTaken c.type with printers := x }) := by
  have hmarks : newMark (c.swappedAt 1000) (s.retested (c.swappedAt 1000))
      = if (s.retested (c.swappedAt 1000)).wanted then [c.type] else [] := by
    rw [newMark_eq, retested_eq]
    rfl
  have hstart : (updSlot q i (Cartridge.swappedAt 1000) s).StockAlike (updSlot q i (fun d => { d with wanted := false }) s) :=
    .of_port rfl (marks_updSlot_congr (m := fun x => (false, x.2)) (fun _ => rfl) (fun _ => rfl) q i rfl) rfl rfl
  have htaken : (updSlot q i (fun _ => s.retested (c.swappedAt 1000)) (swapState q i 1000 c.type s)).StockAlike
      { (updSlot q i (fun d => { d with wanted := false }) s).swapTaken c.type with printers := x } := by
    obtain ⟨hs, -, hd, hc⟩ := hstart.swapTaken c.type
    exact ⟨hs, hx.trans (by rw [swapDone, reorderChecks_printers]), hd, hc⟩
  rw [swapDone, hmarks]
  exact htaken.reorderChecks _

theorem slotAt_of_get? (h : s.printers.get? q = some pr) (hc : pr.slots[i]? = some c) : s.slotAt q i = some c := by
  rw [slotAt_eq h, hc]

/-- The slots of the printer after a change of one of them. -/
theorem slots_modify_const (hc : pr.slots[i]? = some c) (d : Cartridge) : (pr.slots.modify i fun _ => d)[i]? = some d := by
  simp [hc]

/-- What the end of a swap comes to. -/
theorem concluded_applySwapped (h : s.printers.get? q = some pr) (hc : pr.slots[i]? = some c) :
    Concluded q { pr with slots := pr.slots.modify i fun _ => s.retested (c.swappedAt 1000) }
      (Printer.rederived s.params.emptyLevel { pr with slots := pr.slots.modify i fun _ => s.retested (c.swappedAt 1000) })
      (if s.stocked c.type then [c.type] else []) (swapDone q i c s) (applySwapped q i s) := by
  have hget : (swapDone q i c s).printers.get? q
      = some { pr with slots := pr.slots.modify i fun _ => s.retested (c.swappedAt 1000) } := by
    rw [swapDone_printers, get?_updSlot_self h]
  have hparams : (swapDone q i c s).params = s.params := by rw [swapDone_frame]
  rw [applySwapped_eq (slotAt_of_get? h hc), ← hparams]
  exact (serviced_rederiveState hget).concluded _

/-! ### CARTRIDGE_SEED (R60) -/

theorem exec_cartridgeSeed_of_6 (hs : s.Receptive) (hp : p.length = 6) :
    exec (.cartridgeSeed p) s = .next (answer 0x22 (cartridgeSeed p s) s) := by
  rw [exec_cartridgeSeed hs, within_of_le (by omega)]

theorem cartridgeSeed_of_vacant (hp : p.length = 6) (h : s.printers.get? (byteAt p 0) = none) : cartridgeSeed p s = refuse .notFound := by
  simp only [cartridgeSeed, hp, h, ne_eq, not_true_eq_false, if_false]

theorem cartridgeSeed_of_noSlot (hp : p.length = 6) (h : s.printers.get? (byteAt p 0) = some pr) (hc : pr.slots[byteAt p 1]? = none) :
    cartridgeSeed p s = badField 1 := by
  simp only [cartridgeSeed, hp, h, hc, ne_eq, not_true_eq_false, if_false]

theorem cartridgeSeed_of_slot (hp : p.length = 6) (h : s.printers.get? (byteAt p 0) = some pr) (hc : pr.slots[byteAt p 1]? = some c)
    {c' : Cartridge} (hc' : (applySeed (byteAt p 0) (byteAt p 1) (u16 p 2) (u16 p 4) s).slotAt (byteAt p 0) (byteAt p 1) = some c') :
    cartridgeSeed p s = okay (applySeed (byteAt p 0) (byteAt p 1) (u16 p 2) (u16 p 4) s) (le 2 c'.forecast ++ flag c'.wanted) := by
  simp only [cartridgeSeed, hp, h, hc, hc', ne_eq, not_true_eq_false, if_false, Option.getD_some]

/-- A cartridge with both estimates stored, before its forecast and its test (R60). -/
def Cartridge.seededAt (e r : Nat) (c : Cartridge) : Cartridge := { c with coverage := e, eSeeded := true, pageRate := r, qSeeded := true }

theorem applySeed_eq (h : s.slotAt q i = some c) (e r : Nat) : applySeed q i e r s
    = reorderChecks (if (s.retested (c.seededAt e r)).wanted && !c.wanted then [c.type] else [])
        (updSlot q i (fun _ => s.retested (c.seededAt e r)) s) := by
  have hslot : (updSlot q i (Cartridge.seededAt e r) s).slotAt q i = some (c.seededAt e r) := slotAt_updSlot_self h _
  have hretest := retestSlot_eq (w := ⟨updSlot q i (Cartridge.seededAt e r) s, [], []⟩) hslot
  have hsame : (updSlot q i (Cartridge.seededAt e r) s).retested (c.seededAt e r) = s.retested (c.seededAt e r) :=
    retested_congr rfl rfl _
  have hseed : applySeed q i e r s = (retestSlot q i ⟨updSlot q i (Cartridge.seededAt e r) s, [], []⟩).checked := rfl
  have hmarks : newMark (c.seededAt e r) (s.retested (c.seededAt e r))
      = if (s.retested (c.seededAt e r)).wanted && !c.wanted then [c.type] else [] := by
    rw [newMark_eq, Bool.and_comm, retested_eq]
    rfl
  rw [hseed, hretest, Ripple.checked]
  simp only [hsame, updSlot_updSlot, List.append_nil, hmarks]

/-- Settles O31: the slot by the rules of a swap and of a seed, the rest of a swap by what the end of the event comes to. -/
theorem swapAndSeedChangeOneCartridge : Obligations.SwapAndSeedChangeOneCartridge := by
  refine ⟨fun s p pr hs hp hpr => ⟨fun hc => ?noSlot, fun c hc => ?swapped⟩, fun s p pr hs hp hpr => ?seed, fun s p hs hn => ⟨fun hp => ?_, fun hp => ?_⟩⟩
  case noSlot => rw [exec_cartridgeSwapped_of_2 hs hp, cartridgeSwapped_of_noSlot hp hpr hc, answer_badField]; rfl
  case swapped =>
    have hend := concluded_applySwapped hpr (Option.mem_def.1 hc)
    obtain ⟨x, hx, hrecord, hfilters⟩ := hend.record
    have hframe := swapDone_frame (s := s) (q := byteAt p 0) (i := byteAt p 1) (c := c)
    have hwork : (swapDone (byteAt p 0) (byteAt p 1) c s).jobWork = s.jobWork := by rw [hframe]; rfl
    have hslots : x.slots = pr.slots.modify (byteAt p 1) fun _ => s.retested (c.swappedAt 1000) := by rw [hrecord]
    have hslot : (applySwapped (byteAt p 0) (byteAt p 1) s).slotAt (byteAt p 0) (byteAt p 1) = some (s.retested (c.swappedAt 1000)) := by
      rw [slotAt_eq hx, hslots, slots_modify_const (Option.mem_def.1 hc)]
    have hrecalled : (swapDone (byteAt p 0) (byteAt p 1) c s).hasCause .jobRecalled = s.hasCause .jobRecalled := by
      rw [swapDone, hasCause_reorderChecks_other (by decide) (by decide)]
      exact hasCause_swapTaken_other (by decide) (by decide) (by decide) c.type _
    have hsound (ht : TablesOrdered s) (hk : TicketsSound s) : (swapDone (byteAt p 0) (byteAt p 1) c s).CalloutSound 0 :=
      ((calloutSound_iff ht).1 hk).of_deferred (by rw [hframe]) (by
        rw [swapDone_printers]
        exact view_updSlot s (fun _ _ _ => rfl) _ _ _)
    have hother (y : Nat) (hy : y ≠ byteAt p 0) :
        (swapDone (byteAt p 0) (byteAt p 1) c s).printers.get? y = s.printers.get? y := by
      rw [swapDone_printers, get?_updSlot_ne hy]
    have hstate : x.state = Printer.rederived s.params.emptyLevel
        { pr with slots := pr.slots.modify (byteAt p 1) fun _ => s.retested (c.swappedAt 1000) } := by rw [hrecord]
    refine ⟨applySwapped (byteAt p 0) (byteAt p 1) s, s.retested (c.swappedAt 1000), hslot, ?exec, applySwapped_frame s _ _, ?record, ?forecast,
      ?wanted, fun y ty hty => ?types, ?mismatch, ?stock, fun j hj => ?slots, fun y hy z hz => ?others,
      ⟨x, hx, ?shape, fun hk => ?keeps, fun h1 h2 => ?derived, fun hj hdown hne => ?returned, fun hk => ?unrecalled, fun k => ?filter⟩,
      fun ht hk => ⟨hend.inLine (hsound ht hk), fun ty hty hpos e he hconf hconc => ?announced⟩⟩
    case exec =>
      rw [exec_cartridgeSwapped_of_2 hs hp, cartridgeSwapped_of_slot hp hpr (Option.mem_def.1 hc) hslot, answer_okay, retested_eq]
      rfl
    case record => rw [retested_eq]; rfl
    case forecast => rw [retested_eq]; rfl
    case wanted =>
      rw [retested_wanted_iff]
      simp [Cartridge.swappedAt]
    case types =>
      obtain ⟨b, hb⟩ := get?_types_swapTaken (s := updSlot (byteAt p 0) (byteAt p 1) (Cartridge.swappedAt 1000) s) c.type
        (Option.mem_def.1 hty)
      obtain ⟨b', hb'⟩ := get?_types_reorderChecks (newMark (c.swappedAt 1000) (s.retested (c.swappedAt 1000)))
        (s := updSlot (byteAt p 0) (byteAt p 1) (fun _ => s.retested (c.swappedAt 1000)) (swapState (byteAt p 0) (byteAt p 1) 1000 c.type s)) hb
      exact ⟨_, by rw [hend.stock]; exact hb', rfl⟩
    case mismatch =>
      have hcause : (swapDone (byteAt p 0) (byteAt p 1) c s).hasCause .stockMismatch
          = (s.hasCause .stockMismatch || !s.stocked c.type) := by
        rw [swapDone, hasCause_reorderChecks_other (by decide) (by decide)]
        exact hasCause_swapTaken c.type _
      rw [hend.causes _ (by decide) (by decide) (by decide), hcause, Bool.or_eq_true, Bool.not_eq_true', stocked_eq_false_iff]
    case stock =>
      intro withdrawn
      have halike := alike_swapDone (byteAt p 0) (byteAt p 1) c s (x := (applySwapped (byteAt p 0) (byteAt p 1) s).printers) hend.marks
      exact (halike.symm.trans hend.alike).stockAsIn
    case slots =>
      rw [slotAt_eq hx, hslots, slotAt_eq hpr, List.getElem?_modify]
      simp [Ne.symm hj]
    case others =>
      obtain ⟨b, hb⟩ := hend.others y hy z ((hother y hy).trans hz)
      exact ⟨_, hb, rfl⟩
    case shape => rw [hrecord]
    case keeps =>
      rw [hstate]
      exact if_pos hk
    case derived =>
      rw [hstate, Printer.rederived, if_neg (by exact not_or.2 ⟨h1, h2⟩), hrecord]
      rfl
    case returned => exact hend.returned hj hwork hrecalled (hstate.symm.trans hdown) hne
    case unrecalled => exact hend.unrecalled hwork (hk.imp_left fun h => hstate ▸ h)
    case filter =>
      have hparams : (swapDone (byteAt p 0) (byteAt p 1) c s).params = s.params := by rw [hframe]
      rw [hfilters, hparams]
    case announced =>
      by_cases hy : e.1 = byteAt p 0
      · rw [hy]
        exact hend.inLine (hsound ht hk)
      · have hstocked : s.stocked c.type = true := (Option.any_eq_true _ _).2 ⟨ty, hty, decide_eq_true hpos⟩
        rw [hstocked, if_pos rfl] at hend
        refine hend.announced (hsound ht hk) e.1 e.2 hy ((hother e.1 hy).trans (Table.get?_of_mem ht.1 he)) hconf ?_
        simpa using hconc
  case seed =>
    rw [exec_cartridgeSeed_of_6 hs hp]
    refine ⟨fun hc => ?_, fun c hc => ?_⟩
    · rw [cartridgeSeed_of_noSlot hp hpr hc, answer_badField]
      rfl
    intro used
    have heq := applySeed_eq (slotAt_of_get? hpr (Option.mem_def.1 hc)) (u16 p 2) (u16 p 4)
    have hprinters : (applySeed (byteAt p 0) (byteAt p 1) (u16 p 2) (u16 p 4) s).printers
        = (updSlot (byteAt p 0) (byteAt p 1) (fun _ => s.retested (c.seededAt (u16 p 2) (u16 p 4))) s).printers := by
      rw [heq, reorderChecks_printers]
    have hget := hprinters ▸ get?_updSlot_self hpr (byteAt p 1) fun _ => s.retested (c.seededAt (u16 p 2) (u16 p 4))
    have hslot : (applySeed (byteAt p 0) (byteAt p 1) (u16 p 2) (u16 p 4) s).slotAt (byteAt p 0) (byteAt p 1)
        = some (s.retested (c.seededAt (u16 p 2) (u16 p 4))) := by
      rw [slotAt_eq hget, slots_modify_const (Option.mem_def.1 hc)]
    refine ⟨_, _, hslot, by rw [cartridgeSeed_of_slot hp hpr (Option.mem_def.1 hc) hslot, answer_okay], applySeed_frame s _ _ _ _,
      by rw [retested_eq]; rfl, by rw [retested_eq]; rfl, ?_, ?_, fun x hx => ?_, ?_⟩
    · rw [retested_wanted_iff]
      exact Iff.rfl
    · rw [hget, List.set_eq_modify]
    · rw [hprinters, get?_updSlot_ne hx]
    · rw [hprinters, heq]
      rfl
  · rw [exec_cartridgeSwapped_of_2 hs hp, cartridgeSwapped_of_vacant hp hn, answer_refuse]
  · rw [exec_cartridgeSeed_of_6 hs hp, cartridgeSeed_of_vacant hp hn, answer_refuse]

end Sys2Proof.Machine
end

section
/-!
PROOFS. One pass over the slots of a printer, and PRINTER_SET (R4, R5, R8, R20, R27, R42, R44, R68, R149).
-/

namespace Sys2Proof.Machine

variable {s t u : State} {q i j : Nat} {pr : Printer} {c : Cartridge} {p : Payload} {w : Ripple} {f : Nat → Cartridge → Cartridge}

/-! ### A pass over slots -/

/-- The slots once a pass that makes `f k` of slot `k` has reached slot `j`. -/
def slotsTo (f : Nat → Cartridge → Cartridge) (l : List Cartridge) (j : Nat) : List Cartridge :=
  l.mapIdx fun k c => if k < j then f k c else c

theorem slotsTo_zero (f : Nat → Cartridge → Cartridge) (l : List Cartridge) : slotsTo f l 0 = l := by
  refine List.ext_getElem? fun k => ?_
  simp [slotsTo]

theorem slotsTo_length (f : Nat → Cartridge → Cartridge) (l : List Cartridge) : slotsTo f l l.length = l.mapIdx f := by
  refine List.ext_getElem? fun k => ?_
  by_cases hk : k < l.length <;> simp [slotsTo, hk]

theorem getElem?_slotsTo (f : Nat → Cartridge → Cartridge) (l : List Cartridge) (j : Nat) : (slotsTo f l j)[j]? = l[j]? := by
  simp [slotsTo]

theorem slotsTo_succ {l : List Cartridge} (hc : l[j]? = some c) : ((slotsTo f l j).modify j fun _ => f j c) = slotsTo f l (j + 1) := by
  refine List.ext_getElem? fun k => ?_
  rw [List.getElem?_modify]
  simp only [slotsTo, List.getElem?_mapIdx]
  by_cases hk : j = k
  · subst hk
    simp [hc]
  · have hlt : k < j + 1 ↔ k < j := by omega
    simp [hk, hlt]

/-- A change of a slot is the storing of what it makes of the record there. -/
theorem modify_eq_const {l : List Cartridge} (hc : l[j]? = some c) (g : Cartridge → Cartridge) : l.modify j g = l.modify j fun _ => g c := by
  refine List.ext_getElem? fun k => ?_
  rw [List.getElem?_modify, List.getElem?_modify]
  by_cases hk : j = k
  · subst hk
    simp [hc]
  · simp [hk]

/-- A pass over the slots of a printer has reached slot `j`. -/
structure SlotPass (q : Nat) (pr : Printer) (f : Nat → Cartridge → Cartridge) (s : State) (j : Nat) (u : State) : Prop where
  self : u.printers.get? q = some { pr with slots := slotsTo f pr.slots j }
  others : ∀ x, x ≠ q → u.printers.get? x = s.printers.get? x
  deferred : Table.view Printer.deferred u.printers = Table.view Printer.deferred s.printers
  frame : u = { s with printers := u.printers, stock := u.stock, port := u.port }
  horizon : u.horizon = s.horizon

namespace SlotPass

theorem start (h : s.printers.get? q = some pr) : SlotPass q pr f s 0 s :=
  ⟨by rw [slotsTo_zero, h], fun _ _ => rfl, rfl, rfl, rfl⟩

theorem params (h : SlotPass q pr f s j u) : u.params = s.params := by rw [h.frame]

theorem retested (h : SlotPass q pr f s j u) (c : Cartridge) : u.retested c = s.retested c := retested_congr h.params h.horizon c

theorem slotAt (h : SlotPass q pr f s j u) (hc : pr.slots[j]? = some c) : u.slotAt q j = some c := by
  rw [slotAt_eq h.self, getElem?_slotsTo, hc]

/-- A slot that the pass leaves as it is. -/
theorem skip (h : SlotPass q pr f s j u) (hc : pr.slots[j]? = some c) (hf : f j c = c) : SlotPass q pr f s (j + 1) u := by
  have hslots : slotsTo f pr.slots (j + 1) = slotsTo f pr.slots j := by
    rw [← slotsTo_succ hc]
    refine List.ext_getElem? fun k => ?_
    rw [List.getElem?_modify]
    by_cases hk : j = k
    · subst hk
      simp [getElem?_slotsTo, hc, hf]
    · simp [hk]
  exact { h with self := by rw [hslots, h.self] }

/-- A step of the pass: the stock and the port change, and then the slot. -/
theorem next (h : SlotPass q pr f s j u) (hc : pr.slots[j]? = some c) {v : State} {g : Cartridge → Cartridge} (hg : g c = f j c)
    (hp : v.printers = u.printers) (hv : v = { u with printers := v.printers, stock := v.stock, port := v.port })
    (hh : v.horizon = u.horizon) : SlotPass q pr f s (j + 1) (updSlot q j g v) where
  self := by
    rw [get?_updSlot_self (hp ▸ h.self), ← slotsTo_succ hc, modify_eq_const ((getElem?_slotsTo f pr.slots j).trans hc), hg]
  others x hx := by rw [get?_updSlot_ne hx, hp, h.others x hx]
  deferred := (view_updSlot (f := Printer.deferred) v (fun _ _ _ => rfl) q j _).trans (by rw [hp, h.deferred])
  frame := by
    have hu := h.frame
    rw [hv, hu]
    rfl
  horizon := hh.trans h.horizon

end SlotPass

/-- An event's list of changes, slot by slot from slot 0 on. -/
theorem slotwise_induct {α : Type} {F : Nat → α → Ripple → Ripple} {G : Nat → List α → Ripple → Ripple} (hnil : ∀ k w, G k [] w = w)
    (hcons : ∀ k x l w, G k (x :: l) w = G (k + 1) l (F k x w)) {P : Nat → Ripple → Prop} {ts : List α}
    (hstep : ∀ k x w, ts[k]? = some x → P k w → P (k + 1) (F k x w)) (h0 : P 0 w) : P ts.length (G 0 ts w) := by
  have hall (l : List α) (k : Nat) (w : Ripple) (hl : ∀ m, l[m]? = ts[k + m]?) (hw : P k w) : P (k + l.length) (G k l w) := by
    induction l generalizing k w with
    | nil =>
      rw [hnil]
      exact hw
    | cons x l ih =>
      have hx : ts[k]? = some x := (hl 0).symm
      have hrest := ih (k + 1) (F k x w) (fun m => by rw [Nat.add_assoc, Nat.add_comm 1 m, ← hl (m + 1)]; rfl) (hstep k x w hx hw)
      rwa [Nat.add_assoc, Nat.add_comm 1, ← hcons] at hrest
  simpa using hall ts 0 w (fun m => by rw [Nat.zero_add]) h0

theorem changeTypes_induct {P : Nat → Ripple → Prop} {ts : List Nat} (hstep : ∀ k x w, ts[k]? = some x → P k w → P (k + 1) (changeType q k x w))
    (h0 : P 0 w) : P ts.length (changeTypes q 0 ts w) := slotwise_induct (fun _ _ => rfl) (fun _ _ _ _ => rfl) hstep h0

theorem applyLevels_induct {P : Nat → Ripple → Prop} {ts : List (Option Nat)}
    (hstep : ∀ k x w, ts[k]? = some x → P k w → P (k + 1) (applyLevel q k x w)) (h0 : P 0 w) : P ts.length (applyLevels q 0 ts w) :=
  slotwise_induct (fun _ _ => rfl) (fun _ _ _ _ => rfl) hstep h0

/-! ### The changes of type (R44) -/

/-- A cartridge once its slot's type is set. -/
def State.retyped (s : State) (x : Nat) (c : Cartridge) : Cartridge := if c.type = x then c else s.testWanted { c with type := x }

/-- The types whose wanted count a change of type changes. -/
def retypeMarks (c c' : Cartridge) : List Nat :=
  if c.type = c'.type then [] else if c.wanted then [c.type, c'.type] else if c'.wanted then [c'.type] else []

theorem State.retyped_eq (s : State) (x : Nat) (c : Cartridge) : s.retyped x c
    = { c with type := x, wanted := c.wanted || (decide (c.type ≠ x) && s.wantedCondition { c with type := x }) } := by
  unfold State.retyped
  split
  · next h =>
    subst h
    simp
  · next h =>
    rw [State.testWanted_eq]
    simp [h]

theorem changeType_cases {x : Nat} (h : w.state.slotAt q i = some c) :
    (c.type = x ∧ changeType q i x w = w)
    ∨ (c.type ≠ x ∧ ∃ g : Cartridge → Cartridge, g c = w.state.retyped x c ∧ changeType q i x w
        = { w with state := updSlot q i g w.state, marked := retypeMarks c (w.state.retyped x c) ++ w.marked }) := by
  by_cases hx : c.type = x
  · exact .inl ⟨hx, by simp only [changeType, h, hx, if_true]⟩
  refine .inr ⟨hx, ?_⟩
  cases hw : c.wanted with
  | true =>
    have hre : w.state.retyped x c = { c with type := x } := by simp [State.retyped_eq, hw]
    refine ⟨fun c => { c with type := x }, hre.symm, ?_⟩
    simp only [changeType, h, hx, hw, if_true, if_false, hre, retypeMarks]
    rfl
  | false =>
    have hre : w.state.testWanted { c with type := x } = w.state.retyped x c := (if_neg hx).symm
    have hmarks : newMark c (w.state.retyped x c) = retypeMarks c (w.state.retyped x c) := by
      have htype : (w.state.retyped x c).type = x := by rw [State.retyped_eq]
      simp [newMark, retypeMarks, hw, htype, hx]
    refine ⟨fun _ => w.state.retyped x c, rfl, ?_⟩
    rw [hw] at hre
    simp only [changeType, h, hx, hw, Bool.false_eq_true, if_false, hre, hmarks]

theorem retyped_congr (hp : t.params = s.params) (hh : t.horizon = s.horizon) (x : Nat) (c : Cartridge) : t.retyped x c = s.retyped x c := by
  rw [State.retyped_eq, State.retyped_eq, wantedCondition_congr hp hh]

/-- What each slot becomes of a list of types. -/
def State.retypes (s : State) (ts : List Nat) (k : Nat) (c : Cartridge) : Cartridge := s.retyped (ts.getD k 0) c

/-- The changes of type have reached a slot: the slots, the stock as it was, and the types marked. -/
structure TypePass (q : Nat) (pr : Printer) (ts : List Nat) (s : State) (j : Nat) (w : Ripple) : Prop where
  pass : SlotPass q pr (s.retypes ts) s j w.state
  stock : w.state.stock = s.stock
  port : w.state.port = s.port
  marked : ∀ x, x ∈ w.marked ↔ ∃ k c, k < j ∧ pr.slots[k]? = some c ∧ x ∈ retypeMarks c (s.retypes ts k c)

theorem TypePass.next {ts : List Nat} {x : Nat} (h : TypePass q pr ts s j w) (hx : ts[j]? = some x) (hc : pr.slots[j]? = some c) :
    TypePass q pr ts s (j + 1) (changeType q j x w) := by
  have hre : s.retypes ts j c = s.retyped x c := by
    rw [State.retypes, List.getD_eq_getElem?_getD, hx, Option.getD_some]
  have hsame : w.state.retyped x c = s.retyped x c := retyped_congr h.pass.params h.pass.horizon x c
  have hsplit (l : List Nat) (hl : ∀ y, y ∈ l ↔ y ∈ retypeMarks c (s.retypes ts j c) ∨ y ∈ w.marked) (y : Nat) :
      y ∈ l ↔ ∃ k c, k < j + 1 ∧ pr.slots[k]? = some c ∧ y ∈ retypeMarks c (s.retypes ts k c) := by
    rw [hl, h.marked]
    constructor
    · rintro (hy | ⟨k, d, hk, hd, hy⟩)
      · exact ⟨j, c, Nat.lt_succ_self j, hc, hy⟩
      · exact ⟨k, d, Nat.lt_succ_of_lt hk, hd, hy⟩
    · rintro ⟨k, d, hk, hd, hy⟩
      obtain hk | rfl := Nat.lt_succ_iff_lt_or_eq.1 hk
      · exact .inr ⟨k, d, hk, hd, hy⟩
      · obtain rfl : c = d := Option.some.inj (hc.symm.trans hd)
        exact .inl hy
  obtain ⟨hsame', he⟩ | ⟨hne, g, hg, he⟩ := changeType_cases (x := x) (h.pass.slotAt hc) <;> rw [he]
  · have hkeep : s.retypes ts j c = c := by rw [hre, State.retyped, if_pos hsame']
    refine ⟨h.pass.skip hc hkeep, h.stock, h.port, hsplit _ fun y => ?_⟩
    rw [hkeep, retypeMarks, if_pos rfl]
    simp
  · refine ⟨h.pass.next hc (by rw [hg, hsame, hre]) rfl rfl rfl, h.stock, h.port, hsplit _ fun y => ?_⟩
    rw [hsame, hre]
    exact List.mem_append

theorem typePass_changeTypes {ts : List Nat} (h : s.printers.get? q = some pr) (hlen : ts.length = pr.slots.length) :
    TypePass q pr ts s ts.length (changeTypes q 0 ts ⟨s, [], []⟩) := by
  refine changeTypes_induct (P := TypePass q pr ts s) (fun k x w hx hw => ?_) ⟨.start h, rfl, rfl, fun x => by simp⟩
  have hk : k < pr.slots.length := hlen ▸ (List.getElem?_eq_some_iff.1 hx).1
  exact hw.next hx (List.getElem?_eq_getElem hk)

/-! ### PRINTER_SET (R8) -/

/-- The checks of the fields of a PRINTER_SET before its types, in their order. -/
def setChecksOf (p : Payload) (slots : Nat) : List (Nat × Bool) :=
  [(1, 63 < byteAt p 1), (2, 7 < byteAt p 2), (3, bitAt p 3 0 = true ∧ slots = 1)]

/-- PRINTER_SET, its fields before the types in range. -/
def printerSetInRange (p : Payload) (s : State) : Reply :=
  match firstBad (· ≤ 63) (typesOf p) with
  | some j => badEntry 5 j
  | none => okay (applyPrinterSet (byteAt p 0) (byteAt p 1) (byteAt p 2) (capsAt p 3) (typesOf p) (flagAt p 4) s) []

theorem exec_printerSet_of_length (hs : s.Receptive) (h : p.length < 5 ∨ 60 < p.length) :
    exec (.printerSet p) s = .next (answeredNo 0x11 .badLength [] s) := by
  rw [exec_printerSet hs]
  obtain h | h := h
  · rw [within_of_le (by omega), printerSet, if_pos h, answer_refuse]
  · rw [within_of_gt h, answer_refuse]

theorem exec_printerSet_of_le (hs : s.Receptive) (h60 : p.length ≤ 60) :
    exec (.printerSet p) s = .next (answer 0x11 (printerSet p s) s) := by
  rw [exec_printerSet hs, within_of_le h60]

theorem printerSet_of_vacant (h5 : 5 ≤ p.length) (h : s.printers.get? (byteAt p 0) = none) : printerSet p s = refuse .notFound := by
  rw [printerSet, if_neg (Nat.not_lt.2 h5), h]

theorem printerSet_of_unfit (h5 : 5 ≤ p.length) (h : s.printers.get? (byteAt p 0) = some pr) (hf : p.length ≠ 5 + pr.slots.length) :
    printerSet p s = refuse .badLength := by
  rw [printerSet, if_neg (Nat.not_lt.2 h5), h]
  exact if_pos hf

theorem printerSet_of_fits (h : s.printers.get? (byteAt p 0) = some pr) (hf : p.length = 5 + pr.slots.length) :
    printerSet p s = checked (setChecksOf p pr.slots.length) (printerSetInRange p s) := by
  have htypes : listAt p 5 (5 + pr.slots.length - 5) = typesOf p := listAt_eq_drop (by omega)
  rw [printerSet, if_neg (by omega), h]
  simp only [hf, htypes, ne_eq, not_true_eq_false, if_false, setChecksOf, checked_cons, checked_nil, decide_eq_true_eq]
  rfl

/-- The record of a printer once a PRINTER_SET has stored its first fields. -/
def Printer.placed (p : Payload) (pr : Printer) : Printer := { pr with floor := byteAt p 1, costClass := byteAt p 2, caps := capsAt p 3 }

/-- The record once the counters are cleared that a PRINTER_SET asks to clear. -/
def Printer.cleared (p : Payload) (pr : Printer) : Printer :=
  if flagAt p 4 = true then { pr with jobsCompleted := 0, sidesCompleted := 0, jobsAbandoned := 0 } else pr

/-- The changes of type of a PRINTER_SET. -/
def setRipple (p : Payload) (s : State) : Ripple :=
  changeTypes (byteAt p 0) 0 (typesOf p) ⟨updPrinter (byteAt p 0) (Printer.placed p) s, [], []⟩

/-- The state of a PRINTER_SET once its fields and its types are stored and its checks have run. -/
def printerSetDone (p : Payload) (s : State) : State :=
  updPrinter (byteAt p 0) (Printer.cleared p) (setRipple p s).checked

theorem applyPrinterSet_eq (p : Payload) (s : State) :
    applyPrinterSet (byteAt p 0) (byteAt p 1) (byteAt p 2) (capsAt p 3) (typesOf p) (flagAt p 4) s
      = calloutUpdate [byteAt p 0] [] (rederiveState (byteAt p 0) (printerSetDone p s)) := rfl

/-- The record that a PRINTER_SET leaves, its service state, its filters and its flag apart. -/
def State.setRecord (s : State) (p : Payload) (pr : Printer) : Printer :=
  ({ pr.placed p with slots := pr.slots.mapIdx (s.retypes (typesOf p)) } : Printer).cleared p

theorem length_typesOf (h : p.length = 5 + pr.slots.length) : (typesOf p).length = pr.slots.length := by
  rw [typesOf, List.length_map, List.length_drop]
  omega

/-- The state of a PRINTER_SET before the service state is derived: the record, the other printers, and the stock as the checks leave it. -/
structure SetDone (p : Payload) (pr : Printer) (s u : State) : Prop where
  self : u.printers.get? (byteAt p 0) = some (s.setRecord p pr)
  others : ∀ x, x ≠ byteAt p 0 → u.printers.get? x = s.printers.get? x
  deferred : Table.view Printer.deferred u.printers = Table.view Printer.deferred s.printers
  frame : u = { s with printers := u.printers, stock := u.stock, port := u.port }
  cause : u.hasCause .jobRecalled = s.hasCause .jobRecalled
  alike : ∀ ts x : _, (∀ k, k ∈ ts ↔ ∃ i c, pr.slots[i]? = some c ∧ k ∈ retypeMarks c (s.retypes (typesOf p) i c)) →
    Table.view Printer.marks x = Table.view Printer.marks u.printers → u.StockAlike (reorderChecks ts { s with printers := x })

theorem setDone_printerSetDone (h : s.printers.get? (byteAt p 0) = some pr) (hf : p.length = 5 + pr.slots.length) :
    SetDone p pr s (printerSetDone p s) := by
  have hlen := length_typesOf hf
  have hplaced : (updPrinter (byteAt p 0) (Printer.placed p) s).printers.get? (byteAt p 0) = some (pr.placed p) := by
    rw [updPrinter_printers, Table.get?_modify_self, h, Option.map_some]
  have hall : TypePass (byteAt p 0) (pr.placed p) (typesOf p) (updPrinter (byteAt p 0) (Printer.placed p) s) (typesOf p).length
      (setRipple p s) := typePass_changeTypes hplaced hlen
  obtain ⟨hpass, hstock, hport, hmarked⟩ := hall
  have hslots : slotsTo ((updPrinter (byteAt p 0) (Printer.placed p) s).retypes (typesOf p)) (pr.placed p).slots (typesOf p).length
      = pr.slots.mapIdx (s.retypes (typesOf p)) := by
    rw [hlen]
    exact slotsTo_length _ _
  have hview {β : Type} (f : Printer → β) (v : State) (hf : ∀ pr : Printer, f (pr.cleared p) = f pr) :
      Table.view f (updPrinter (byteAt p 0) (Printer.cleared p) v).printers = Table.view f v.printers := view_updPrinter v _ hf
  have hcleared {β : Type} (f : Printer → β) (hf : ∀ (pr : Printer) (x y z : Word), f { pr with
      jobsCompleted := x, sidesCompleted := y, jobsAbandoned := z } = f pr) (pr : Printer) : f (pr.cleared p) = f pr := by
    unfold Printer.cleared
    split
    · exact hf pr 0 0 0
    · rfl
  refine ⟨?self, fun x hx => ?others, ?deferred, ?frame, ?cause, fun ts x hts hx => ?alike⟩
  case self =>
    rw [printerSetDone, updPrinter_printers, Table.get?_modify_self, Ripple.checked, reorderChecks_printers, hpass.self, Option.map_some, hslots]
    rfl
  case others =>
    rw [printerSetDone, updPrinter_printers, Table.get?_modify_ne _ _ hx, Ripple.checked, reorderChecks_printers, hpass.others x hx,
      updPrinter_printers, Table.get?_modify_ne _ _ hx]
  case deferred =>
    rw [printerSetDone, hview Printer.deferred _ (hcleared _ fun _ _ _ _ => rfl), Ripple.checked, reorderChecks_printers, hpass.deferred]
    exact view_updPrinter s _ fun _ => rfl
  case frame =>
    have hframe := hpass.frame
    rw [printerSetDone, Ripple.checked, hframe]
    apply State.eq_of_fields <;> simp
  case cause =>
    have hchecks := hasCause_reorderChecks_other (x := .jobRecalled) (by decide) (by decide) (setRipple p s).marked (setRipple p s).state
    exact hchecks.trans (hasCause_of_port hport _)
  case alike =>
    have hmarks : Table.view Printer.marks (printerSetDone p s).printers = Table.view Printer.marks (setRipple p s).state.printers := by
      rw [printerSetDone, hview Printer.marks _ (hcleared _ fun _ _ _ _ => rfl), Ripple.checked, reorderChecks_printers]
    have hdone : (setRipple p s).checked.StockAlike (printerSetDone p s) := .of_port rfl (hview Printer.marks _ (hcleared _ fun _ _ _ _ => rfl)) rfl rfl
    have hstart : (setRipple p s).state.StockAlike { s with printers := x } := .of_port hstock.symm (hx.trans hmarks) (by rw [hpass.frame]; rfl) hport.symm
    have hsame : ∀ k, k ∈ ts ↔ k ∈ (setRipple p s).marked := by
      intro k
      rw [hts, hmarked, hlen]
      constructor
      · rintro ⟨i, c, hc, hk⟩
        exact ⟨i, c, (List.getElem?_eq_some_iff.1 hc).1, hc, hk⟩
      · rintro ⟨i, c, -, hc, hk⟩
        exact ⟨i, c, hc, hk⟩
    rw [reorderChecks_congr hsame]
    exact hdone.symm.trans (hstart.reorderChecks _)

/-- What each clause of R8 says of the record follows from the fields of `setRecord`. -/
theorem setRecord_eq (s : State) (p : Payload) (pr : Printer) : s.setRecord p pr
    = { pr.placed p with
        slots := pr.slots.mapIdx (s.retypes (typesOf p))
        jobsCompleted := if flagAt p 4 = true then 0 else pr.jobsCompleted
        sidesCompleted := if flagAt p 4 = true then 0 else pr.sidesCompleted
        jobsAbandoned := if flagAt p 4 = true then 0 else pr.jobsAbandoned } := by
  rw [State.setRecord, Printer.cleared]
  split <;> rfl

theorem typesOf_getD (p : Payload) (i : Nat) : (typesOf p).getD i 0 = byteAt p (5 + i) := by
  rw [typesOf, byteAt, List.getD_eq_getElem?_getD, List.getD_eq_getElem?_getD, List.getElem?_map, List.getElem?_drop]
  cases p[5 + i]? <;> rfl

/-- What an event with one printer's end leaves of the state. -/
theorem Concluded.frame_of {r : Printer} {st : ServiceState} {ann : List Nat} (h : Concluded q r st ann u t)
    (hu : u = { s with printers := u.printers, stock := u.stock, port := u.port }) :
    t = { s with printers := t.printers, callout := t.callout, stock := t.stock, bank := t.bank, store := t.store,
                 release := t.release, port := t.port } := by
  have hstep := congrArg (fun v : State => { v with
    printers := t.printers, callout := t.callout, store := t.store, release := t.release, bank := t.bank, port := t.port }) hu
  refine h.frame.trans (hstep.trans ?_)
  rw [h.stock]

/-- The pairs of a list and what a pass makes of it. -/
theorem mem_zip_mapIdx {l : List Cartridge} {e : Cartridge × Cartridge} : e ∈ l.zip (l.mapIdx f) ↔ ∃ k c, l[k]? = some c ∧ e = (c, f k c) := by
  rw [List.mem_iff_getElem?]
  constructor
  · rintro ⟨k, hk⟩
    rw [List.getElem?_zip_eq_some, List.getElem?_mapIdx] at hk
    obtain ⟨h1, h2⟩ := hk
    rw [h1, Option.map_some, Option.some.injEq] at h2
    exact ⟨k, e.1, h1, by rw [h2]⟩
  · rintro ⟨k, c, hc, rfl⟩
    exact ⟨k, by rw [List.getElem?_zip_eq_some, List.getElem?_mapIdx, hc]; exact ⟨rfl, rfl⟩⟩

/-- Settles O25: the record and the checks by one pass over the slots, the rest by what the end of the event comes to. -/
theorem printerSetChangesTheRecord : Obligations.PrinterSetChangesTheRecord := by
  intro s p hs n types
  refine ⟨exec_printerSet_of_length hs, fun h5 h60 hn => ?vacant, fun pr hpr => ?known⟩
  case vacant => rw [exec_printerSet_of_le hs h60, printerSet_of_vacant h5 hn, answer_refuse]
  case known =>
    intro fits bad
    refine ⟨fun hf => ?unfit, fun ⟨h60, hf⟩ i hi => ?bad, fun ⟨h60, hf⟩ hb i hi hbad hgood => ?entry, fun ⟨h60, hf⟩ hb hgood => ?good⟩
    case unfit =>
      by_cases hl : p.length < 5 ∨ 60 < p.length
      · exact exec_printerSet_of_length hs hl
      · obtain ⟨h5, h60⟩ := not_or.1 hl
        have h60 := Nat.not_lt.1 h60
        rw [exec_printerSet_of_le hs h60, printerSet_of_unfit (Nat.not_lt.1 h5) hpr fun h => hf ⟨h60, h⟩, answer_refuse]
    all_goals rw [exec_printerSet_of_le hs h60, printerSet_of_fits hpr hf]
    case bad => rw [checked_of_mem (checks := setChecksOf p pr.slots.length) hi, answer_badField]
    all_goals rw [checked_of_none (checks := setChecksOf p pr.slots.length) hb, printerSetInRange]
    case entry =>
      have hfirst : firstBad (· ≤ 63) (typesOf p) = some i := firstBad_eq_some (List.mem_range.1 hi)
        (decide_eq_false (Nat.not_le.2 hbad)) fun t ht => decide_eq_true (hgood t ht)
      rw [hfirst]
      rfl
    case good =>
      have hfirst : firstBad (· ≤ 63) (typesOf p) = none := firstBad_eq_none fun t ht => decide_eq_true (hgood t ht)
      rw [hfirst, applyPrinterSet_eq]
      obtain ⟨hself, hothers, hdeferred, hframe, hcause, halike⟩ := setDone_printerSetDone (Option.mem_def.1 hpr) hf
      have hend := (serviced_rederiveState hself).concluded []
      have hparams : (printerSetDone p s).params = s.params := by rw [hframe]
      have hwork : (printerSetDone p s).jobWork = s.jobWork := by rw [hframe]; rfl
      rw [hparams] at hend
      generalize calloutUpdate [byteAt p 0] [] (rederiveState (byteAt p 0) (printerSetDone p s)) = t at hend
      obtain ⟨x, hx, hrecord, hfilters⟩ := hend.record
      have hset := setRecord_eq s p pr
      rw [hset] at hrecord hend hfilters
      have hstate : x.state = Printer.rederived s.params.emptyLevel _ := congrArg Printer.state hrecord
      have hsound (ht : TablesOrdered s) (hk : TicketsSound s) : (printerSetDone p s).CalloutSound 0 :=
        ((calloutSound_iff ht).1 hk).of_deferred (by rw [hframe]) hdeferred
      have hslots : x.slots = pr.slots.mapIdx (s.retypes (typesOf p)) := congrArg Printer.slots hrecord
      obtain ⟨hfloor, hclass, hcaps, hreported, hmono, hcolour, hpMono, hpColour, hlast, hrebase⟩ : x.floor = byteAt p 1
          ∧ x.costClass = byteAt p 2 ∧ x.caps = capsAt p 3 ∧ x.reported = pr.reported ∧ x.monoBase = pr.monoBase
          ∧ x.colourBase = pr.colourBase ∧ x.pMono = pr.pMono ∧ x.pColour = pr.pColour ∧ x.lastReport = pr.lastReport
          ∧ x.rebase = pr.rebase := by
        rw [hrecord]
        exact ⟨rfl, rfl, rfl, rfl, rfl, rfl, rfl, rfl, rfl, rfl⟩
      refine ⟨t, rfl, ?frame, fun q hq y hy => ?others, fun ht hk => hend.inLine (hsound ht hk), x, hx,
        hfloor, hclass, hcaps, hreported, hmono, hcolour, hpMono, hpColour, hlast, hrebase, fun hc => ?clear, fun hc => ?keep, fun hk => ?keeps,
        fun h1 h2 => ?derived, fun hj hdown hne => ?returned, fun hk => ?unrecalled, fun k => ?filter, ?length, ?stock,
        fun i hi c hc => ?slot⟩
      case frame => exact hend.frame_of hframe
      case others =>
        obtain ⟨b, hb⟩ := hend.others q hq y ((hothers q hq).trans hy)
        exact ⟨_, hb, rfl⟩
      case clear =>
        rw [hrecord]
        simp only [hc, if_true, and_self]
      case keep =>
        rw [hrecord]
        simp only [hc, Bool.false_eq_true, if_false, and_self]
      case keeps =>
        rw [hstate]
        exact if_pos hk
      case derived =>
        rw [hstate, Printer.rederived, if_neg (by exact not_or.2 ⟨h1, h2⟩), hrecord]
        rfl
      case returned => exact hend.returned hj hwork hcause (hstate.symm.trans hdown) hne
      case unrecalled => exact hend.unrecalled hwork (hk.imp_left fun h => hstate ▸ h)
      case filter =>
        rw [hfilters, hparams]
        rfl
      case length => rw [hslots, List.length_mapIdx]
      case stock =>
        intro moved
        have hmoved (k : Nat) : k ∈ moved ↔ ∃ i c, pr.slots[i]? = some c ∧ k ∈ retypeMarks c (s.retypes (typesOf p) i c) := by
          simp only [moved, hslots, List.mem_flatten, List.mem_map]
          constructor
          · rintro ⟨l, ⟨e, he, rfl⟩, hk⟩
            obtain ⟨i, c, hc, rfl⟩ := mem_zip_mapIdx.1 he
            exact ⟨i, c, hc, hk⟩
          · rintro ⟨i, c, hc, hk⟩
            exact ⟨_, ⟨_, mem_zip_mapIdx.2 ⟨i, c, hc, rfl⟩, rfl⟩, hk⟩
        exact ((halike moved t.printers hmoved hend.marks).symm.trans hend.alike).stockAsIn
      case slot =>
        have hre : s.retypes (typesOf p) i c = s.retyped (byteAt p (5 + i)) c := by rw [State.retypes, typesOf_getD]
        refine ⟨s.retypes (typesOf p) i c, by rw [hslots, List.getElem?_mapIdx, Option.mem_def.1 hc]; rfl, ?_, ?_⟩
        · rw [hre, State.retyped_eq]
        · rw [hre, State.retyped_eq, Bool.or_eq_true, Bool.and_eq_true, decide_eq_true_eq]
          exact Iff.rfl

end Sys2Proof.Machine
end

section
/-!
PROOFS. The levels of a report, slot by slot (R13, R45 to R48, R50, R58, R68, R71).
-/

namespace Sys2Proof.Machine

variable {s t u v : State} {q i j n : Nat} {pr : Printer} {c : Cartridge} {w : Ripple} {L : List (Option Nat)}

/-! ### What a slot becomes of its level -/

/-- The level of a slot of a report is a swap. -/
def State.swapsAt (s : State) (L : List (Option Nat)) (k : Nat) (c : Cartridge) : Bool :=
  (L.getD k none).any fun n => decide (c.level + s.params.swapJump ≤ n)

/-- A cartridge once the level of its slot is applied. -/
def State.levelled (s : State) (L : List (Option Nat)) (k : Nat) (c : Cartridge) : Cartridge :=
  match L.getD k none with
  | none => { c with stale := true }
  | some n => s.retested (if c.level + s.params.swapJump ≤ n then c.swappedAt n else c.acceptedAt n)

theorem levelled_of_none (h : L.getD i none = none) : s.levelled L i c = { c with stale := true } := by
  rw [State.levelled, h]

theorem levelled_of_some (h : L.getD i none = some n) :
    s.levelled L i c = s.retested (if c.level + s.params.swapJump ≤ n then c.swappedAt n else c.acceptedAt n) := by
  rw [State.levelled, h]

theorem levelled_type (s : State) (L : List (Option Nat)) (k : Nat) (c : Cartridge) : (s.levelled L k c).type = c.type := by
  cases h : L.getD k none with
  | none => rw [levelled_of_none h]
  | some n =>
    rw [levelled_of_some h, retested_eq]
    split <;> rfl

theorem levelled_congr (hp : t.params = s.params) (hh : t.horizon = s.horizon) (L : List (Option Nat)) : t.levelled L = s.levelled L := by
  funext k c
  cases h : L.getD k none with
  | none => rw [levelled_of_none h, levelled_of_none h]
  | some n => rw [levelled_of_some h, levelled_of_some h, retested_congr hp hh, hp]

/-- The test of a slot's level marks its type newly. -/
def State.gains (s : State) (L : List (Option Nat)) (k : Nat) (c : Cartridge) : Bool :=
  (s.levelled L k c).wanted && (!c.wanted || s.swapsAt L k c)

theorem swapsAt_of_some (h : L.getD i none = some n) : s.swapsAt L i c = decide (c.level + s.params.swapJump ≤ n) := by
  rw [State.swapsAt, h, Option.any_some]

theorem swapsAt_of_none (h : L.getD i none = none) : s.swapsAt L i c = false := by rw [State.swapsAt, h, Option.any_none]

/-- The state with the stock and the port as a swap of slot `k` with level `n` leaves them, its printers as they were. -/
def takenState (q k n : Nat) (c : Cartridge) (s : State) : State :=
  { s with stock := (swapState q k n c.type s).stock, port := (swapState q k n c.type s).port }

/-- The record stored after a swap. -/
theorem updSlot_swapState (q k n : Nat) (c d : Cartridge) (s : State) :
    updSlot q k (fun _ => d) (swapState q k n c.type s) = updSlot q k (fun _ => d) (takenState q k n c s) := by
  have hframe := swapTaken_frame c.type (updSlot q k (Cartridge.swappedAt n) s)
  have hprinters := congrArg State.printers (updSlot_updSlot q k (Cartridge.swappedAt n) (fun _ => d) s)
  rw [takenState, swapState, hframe]
  exact congrArg (fun x : Table Printer => { s with
    printers := x
    stock := ((updSlot q k (Cartridge.swappedAt n) s).swapTaken c.type).stock
    port := ((updSlot q k (Cartridge.swappedAt n) s).swapTaken c.type).port }) hprinters

/-- The level of a slot applied: unknown, a swap, or another known level. -/
theorem applyLevel_cases (h : w.state.slotAt q i = some c) :
    (L.getD i none = none ∧ applyLevel q i (L.getD i none) w = { w with state := updSlot q i (fun c => { c with stale := true }) w.state })
    ∨ (∃ n, L.getD i none = some n ∧ w.state.swapsAt L i c = true ∧ applyLevel q i (L.getD i none) w
        = { state := updSlot q i (fun _ => w.state.levelled L i c) (takenState q i n c w.state),
            marked := (if w.state.gains L i c then [c.type] else []) ++ w.marked,
            announced := if w.state.stocked c.type then c.type :: w.announced else w.announced })
    ∨ ((L.getD i none).isSome = true ∧ w.state.swapsAt L i c = false ∧ applyLevel q i (L.getD i none) w
        = { w with state := updSlot q i (fun _ => w.state.levelled L i c) w.state,
                   marked := (if w.state.gains L i c then [c.type] else []) ++ w.marked }) := by
  cases hL : L.getD i none with
  | none => exact .inl ⟨rfl, by simp only [applyLevel, h]⟩
  | some n =>
    have hswaps := swapsAt_of_some (s := w.state) (c := c) hL
    by_cases hs : c.level + w.state.params.swapJump ≤ n
    · have hd : w.state.levelled L i c = w.state.retested (c.swappedAt n) := by rw [levelled_of_some hL, if_pos hs]
      have hmark : newMark (c.swappedAt n) (w.state.retested (c.swappedAt n)) = if w.state.gains L i c then [c.type] else [] := by
        rw [State.gains, hd, hswaps, decide_eq_true hs, newMark_eq, retested_eq]
        simp [Cartridge.swappedAt]
      refine .inr (.inl ⟨n, rfl, by rw [hswaps, decide_eq_true hs], ?_⟩)
      simp only [applyLevel, h, hs, if_true]
      rw [swapSlot_eq h, hmark, hd, updSlot_swapState]
    · have hd : w.state.levelled L i c = w.state.retested (c.acceptedAt n) := by rw [levelled_of_some hL, if_neg hs]
      have hmark : newMark (c.acceptedAt n) (w.state.retested (c.acceptedAt n)) = if w.state.gains L i c then [c.type] else [] := by
        rw [State.gains, hd, hswaps, decide_eq_false hs, newMark_eq, retested_eq]
        simp [Cartridge.acceptedAt, Bool.and_comm]
      refine .inr (.inr ⟨rfl, by rw [hswaps, decide_eq_false hs], ?_⟩)
      simp only [applyLevel, h, hs, if_false]
      rw [acceptLevel_eq h, hmark, hd]

/-! ### The pass over the levels -/

/-- The slots of a printer, each with its number, its record before the pass and the one after it. -/
def slotEntries (f : Nat → Cartridge → Cartridge) (l : List Cartridge) : List (Nat × Cartridge × Cartridge) :=
  (List.range l.length).zip (l.zip (l.mapIdx f))

theorem getElem?_slotEntries {f : Nat → Cartridge → Cartridge} {l : List Cartridge} (hc : l[j]? = some c) :
    (slotEntries f l)[j]? = some (j, c, f j c) := by
  have hj : j < l.length := (List.getElem?_eq_some_iff.1 hc).1
  rw [slotEntries, List.getElem?_zip_eq_some, List.getElem?_zip_eq_some, List.getElem?_mapIdx, hc]
  exact ⟨by simp [hj], rfl, rfl⟩

theorem take_succ_slotEntries {f : Nat → Cartridge → Cartridge} {l : List Cartridge} (hc : l[j]? = some c) :
    (slotEntries f l).take (j + 1) = (slotEntries f l).take j ++ [(j, c, f j c)] := by
  rw [List.take_add_one, getElem?_slotEntries hc]
  rfl

theorem length_slotEntries (f : Nat → Cartridge → Cartridge) (l : List Cartridge) : (slotEntries f l).length = l.length := by
  simp [slotEntries]

/-- The swaps of a type among entries. -/
def State.swapCount (s : State) (L : List (Option Nat)) (E : List (Nat × Cartridge × Cartridge)) (x : Nat) : Nat :=
  E.countP fun e => e.2.1.type == x && s.swapsAt L e.1 e.2.1

/-- A swap of a type of which the shelf holds fewer than the swaps among the entries. -/
def State.Mismatch (s : State) (L : List (Option Nat)) (E : List (Nat × Cartridge × Cartridge)) : Prop :=
  ∃ e ∈ E, s.swapsAt L e.1 e.2.1 = true ∧ ∀ ty ∈ s.stock.types.get? e.2.1.type, ty.shelf < s.swapCount L E e.2.1.type

/-- What the levels of a report have come to at a slot. -/
structure LevelPass (q : Nat) (pr : Printer) (L : List (Option Nat)) (s : State) (j : Nat) (w : Ripple) : Prop where
  pass : SlotPass q pr (s.levelled L) s j w.state
  types : ∀ x ty, s.stock.types.get? x = some ty → ∃ b, w.state.stock.types.get? x
    = some { ty with shelf := ty.shelf - s.swapCount L ((slotEntries (s.levelled L) pr.slots).take j) x, pending := b }
  mismatch : w.state.hasCause .stockMismatch = true
    ↔ s.hasCause .stockMismatch = true ∨ s.Mismatch L ((slotEntries (s.levelled L) pr.slots).take j)
  causes : ∀ x, x ≠ .reqOpened → x ≠ .reqTableFull → x ≠ .stockMismatch → w.state.hasCause x = s.hasCause x
  marked : ∀ x, x ∈ w.marked ↔ ∃ e ∈ (slotEntries (s.levelled L) pr.slots).take j, s.gains L e.1 e.2.1 = true ∧ x = e.2.1.type
  announced : ∀ e ∈ (slotEntries (s.levelled L) pr.slots).take j, s.swapsAt L e.1 e.2.1 = true →
    ∀ ty, s.stock.types.get? e.2.1.type = some ty → 1 ≤ ty.shelf → e.2.1.type ∈ w.announced

section

variable {E : List (Nat × Cartridge × Cartridge)} {e : Nat × Cartridge × Cartridge}

theorem swapCount_append (s : State) (L : List (Option Nat)) (E : List (Nat × Cartridge × Cartridge)) (e : Nat × Cartridge × Cartridge) (x : Nat) :
    s.swapCount L (E ++ [e]) x = s.swapCount L E x + if e.2.1.type = x ∧ s.swapsAt L e.1 e.2.1 = true then 1 else 0 := by
  rw [State.swapCount, State.swapCount, List.countP_append, List.countP_singleton]
  simp only [Bool.and_eq_true, beq_iff_eq]

theorem swapCount_append_of_not (h : s.swapsAt L e.1 e.2.1 = false) (x : Nat) : s.swapCount L (E ++ [e]) x = s.swapCount L E x := by
  rw [swapCount_append, if_neg (by simp [h]), Nat.add_zero]

theorem mismatch_append_of_not (h : s.swapsAt L e.1 e.2.1 = false) : s.Mismatch L (E ++ [e]) ↔ s.Mismatch L E := by
  unfold State.Mismatch
  constructor
  · rintro ⟨d, hd, hs, hty⟩
    obtain hd | hd := List.mem_append.1 hd
    · exact ⟨d, hd, hs, fun ty ht => by simpa only [swapCount_append_of_not h] using hty ty ht⟩
    · rw [List.mem_singleton.1 hd, h] at hs
      cases hs
  · rintro ⟨d, hd, hs, hty⟩
    exact ⟨d, List.mem_append_left _ hd, hs, fun ty ht => by simpa only [swapCount_append_of_not h] using hty ty ht⟩

theorem mismatch_append_of_swap (h : s.swapsAt L e.1 e.2.1 = true) : s.Mismatch L (E ++ [e])
    ↔ s.Mismatch L E ∨ ∀ ty ∈ s.stock.types.get? e.2.1.type, ty.shelf ≤ s.swapCount L E e.2.1.type := by
  have hcount : s.swapCount L (E ++ [e]) e.2.1.type = s.swapCount L E e.2.1.type + 1 := by
    rw [swapCount_append, if_pos ⟨rfl, h⟩]
  unfold State.Mismatch
  constructor
  · rintro ⟨d, hd, hs, hty⟩
    by_cases hx : e.2.1.type = d.2.1.type
    · rw [← hx, hcount] at hty
      exact .inr fun ty ht => Nat.le_of_lt_succ (hty ty ht)
    · obtain hd | hd := List.mem_append.1 hd
      · refine .inl ⟨d, hd, hs, fun ty ht => ?_⟩
        have := hty ty ht
        rwa [swapCount_append, if_neg fun h => hx h.1, Nat.add_zero] at this
      · exact absurd (by rw [List.mem_singleton.1 hd]) hx
  · rintro (⟨d, hd, hs, hty⟩ | hty)
    · refine ⟨d, List.mem_append_left _ hd, hs, fun ty ht => Nat.lt_of_lt_of_le (hty ty ht) ?_⟩
      rw [swapCount_append]
      exact Nat.le_add_right _ _
    · exact ⟨e, List.mem_append_right _ (List.mem_singleton_self e), h, fun ty ht => by rw [hcount]; exact Nat.lt_succ_of_le (hty ty ht)⟩

end

namespace LevelPass

variable (h : LevelPass q pr L s j w)
include h

theorem levelled : w.state.levelled L = s.levelled L := levelled_congr h.pass.params h.pass.horizon L

theorem swapsAt : w.state.swapsAt L = s.swapsAt L := by
  funext k c
  rw [State.swapsAt, h.pass.params, State.swapsAt]

theorem gains : w.state.gains L = s.gains L := by
  funext k c
  rw [State.gains, h.levelled, h.swapsAt, State.gains]

/-- What is left of a shelf decides whether the next swap finds it stocked. -/
theorem stocked_eq_false (x : Nat) : w.state.stocked x = false
    ↔ ∀ ty ∈ s.stock.types.get? x, ty.shelf ≤ s.swapCount L ((slotEntries (s.levelled L) pr.slots).take j) x := by
  rw [stocked_eq_false_iff]
  cases hx : s.stock.types.get? x with
  | none =>
    have hnone : w.state.stock.types.get? x = none := by
      have hh := congrFun h.pass.horizon x
      simpa [State.horizon, hx] using hh
    simp [hnone]
  | some ty =>
    obtain ⟨b, hb⟩ := h.types x ty hx
    rw [hb]
    simp [Nat.sub_eq_zero_iff_le]

/-- The marks after one slot more. -/
theorem marked_next (hc : pr.slots[j]? = some c) (x : Nat) :
    (x ∈ (if w.state.gains L j c then [c.type] else []) ++ w.marked)
    ↔ ∃ e ∈ (slotEntries (s.levelled L) pr.slots).take (j + 1), s.gains L e.1 e.2.1 = true ∧ x = e.2.1.type := by
  rw [take_succ_slotEntries hc, List.mem_append, h.marked, h.gains]
  simp only [List.mem_append, List.mem_singleton]
  constructor
  · rintro (hx | ⟨e, he, hx⟩)
    · split at hx
      · next hg => exact ⟨_, .inr rfl, hg, List.mem_singleton.1 hx⟩
      · cases hx
    · exact ⟨e, .inl he, hx⟩
  · rintro ⟨e, he | rfl, hg, hx⟩
    · exact .inr ⟨e, he, hg, hx⟩
    · left
      rw [if_pos hg, hx]
      exact List.mem_singleton_self _

/-- A slot whose level is no swap. -/
theorem next_of_not {g : Cartridge → Cartridge} {m : List Nat} (hc : pr.slots[j]? = some c) (hs : s.swapsAt L j c = false)
    (hg : g c = s.levelled L j c)
    (hm : ∀ x, x ∈ m ↔ ∃ e ∈ (slotEntries (s.levelled L) pr.slots).take (j + 1), s.gains L e.1 e.2.1 = true ∧ x = e.2.1.type) :
    LevelPass q pr L s (j + 1) { w with state := updSlot q j g w.state, marked := m } where
  pass := h.pass.next hc hg rfl rfl rfl
  types x ty hx := by
    rw [take_succ_slotEntries hc, swapCount_append_of_not hs]
    exact h.types x ty hx
  mismatch := by
    rw [take_succ_slotEntries hc, mismatch_append_of_not hs]
    exact h.mismatch
  causes := h.causes
  marked := hm
  announced e he hse ty hty hpos := by
    rw [take_succ_slotEntries hc] at he
    obtain he | he := List.mem_append.1 he
    · exact h.announced e he hse ty hty hpos
    · rw [List.mem_singleton.1 he, hs] at hse
      cases hse

/-- A slot whose level is a swap. -/
theorem next_of_swap {g : Cartridge → Cartridge} {m : List Nat} {n : Nat} (hc : pr.slots[j]? = some c) (hs : s.swapsAt L j c = true)
    (hg : g c = s.levelled L j c)
    (hm : ∀ x, x ∈ m ↔ ∃ e ∈ (slotEntries (s.levelled L) pr.slots).take (j + 1), s.gains L e.1 e.2.1 = true ∧ x = e.2.1.type) :
    LevelPass q pr L s (j + 1)
      ⟨updSlot q j g (takenState q j n c w.state), m, if w.state.stocked c.type then c.type :: w.announced else w.announced⟩ where
  pass := by
    refine h.pass.next hc hg rfl rfl ?_
    have hh := horizon_swapTaken c.type (updSlot q j (Cartridge.swappedAt n) w.state)
    exact hh
  types x ty hx := by
    obtain ⟨b, hb⟩ := h.types x ty hx
    obtain ⟨b', hb'⟩ := get?_types_swapTaken (s := updSlot q j (Cartridge.swappedAt n) w.state) c.type hb
    refine ⟨b', Eq.trans hb' ?_⟩
    rw [take_succ_slotEntries hc, swapCount_append]
    by_cases hx : x = c.type
    · rw [if_pos hx, if_pos ⟨hx.symm, hs⟩, Nat.sub_add_eq]
    · rw [if_neg hx, if_neg fun h => hx h.1.symm, Nat.add_zero]
  mismatch := by
    have hcause : (updSlot q j g (takenState q j n c w.state)).hasCause .stockMismatch
        = (w.state.hasCause .stockMismatch || !w.state.stocked c.type) :=
      hasCause_swapTaken c.type (updSlot q j (Cartridge.swappedAt n) w.state)
    rw [hcause, Bool.or_eq_true, h.mismatch, Bool.not_eq_true', h.stocked_eq_false, take_succ_slotEntries hc, mismatch_append_of_swap hs,
      or_assoc]
  causes x ho hf hm := by
    have hcause : (updSlot q j g (takenState q j n c w.state)).hasCause x = w.state.hasCause x :=
      hasCause_swapTaken_other ho hf hm c.type (updSlot q j (Cartridge.swappedAt n) w.state)
    rw [hcause, h.causes x ho hf hm]
  marked := hm
  announced e he hse ty hty hpos := by
    have hkeep {y : Nat} (hy : y ∈ w.announced) : y ∈ (if w.state.stocked c.type then c.type :: w.announced else w.announced) := by
      split
      · exact List.mem_cons_of_mem _ hy
      · exact hy
    rw [take_succ_slotEntries hc] at he
    obtain he | he := List.mem_append.1 he
    · exact hkeep (h.announced e he hse ty hty hpos)
    · obtain rfl := List.mem_singleton.1 he
      cases hst : w.state.stocked c.type with
      | true => simp
      | false =>
        have hle := (h.stocked_eq_false c.type).1 hst ty hty
        have hcount : 0 < s.swapCount L ((slotEntries (s.levelled L) pr.slots).take j) c.type := Nat.lt_of_lt_of_le hpos hle
        obtain ⟨d, hd, hds⟩ := List.countP_pos_iff.1 hcount
        obtain ⟨hdt, hds⟩ : d.2.1.type = c.type ∧ s.swapsAt L d.1 d.2.1 = true := by simpa using hds
        have hann := h.announced d hd hds ty (hdt ▸ hty) hpos
        rw [hdt] at hann
        simpa using hann

/-- One slot more. -/
theorem next (hc : pr.slots[j]? = some c) : LevelPass q pr L s (j + 1) (applyLevel q j (L.getD j none) w) := by
  have hm := h.marked_next hc
  obtain ⟨hL, he⟩ | ⟨n, hL, hs, he⟩ | ⟨hL, hs, he⟩ := applyLevel_cases (L := L) (h.pass.slotAt hc) <;> rw [he]
  · have hgains : w.state.gains L j c = false := by
      rw [State.gains, levelled_of_none hL, swapsAt_of_none hL]
      cases c.wanted <;> simp
    rw [hgains] at hm
    exact h.next_of_not hc (swapsAt_of_none hL) (levelled_of_none hL).symm hm
  · exact h.next_of_swap hc (by rw [← h.swapsAt]; exact hs) (congrFun (congrFun h.levelled j) c) hm
  · exact h.next_of_not hc (by rw [← h.swapsAt]; exact hs) (congrFun (congrFun h.levelled j) c) hm

end LevelPass

theorem levelPass_start (L : List (Option Nat)) (h : s.printers.get? q = some pr) : LevelPass q pr L s 0 ⟨s, [], []⟩ where
  pass := .start h
  types x ty hx := ⟨ty.pending, hx⟩
  mismatch := by simp [State.Mismatch]
  causes _ _ _ _ := rfl
  marked x := by simp
  announced e he := by simp at he

theorem levelPass_applyLevels (h : s.printers.get? q = some pr) (hlen : L.length = pr.slots.length) :
    LevelPass q pr L s L.length (applyLevels q 0 L ⟨s, [], []⟩) := by
  refine applyLevels_induct (P := LevelPass q pr L s) (fun k x w hx hw => ?_) (levelPass_start L h)
  have hk : k < pr.slots.length := hlen ▸ (List.getElem?_eq_some_iff.1 hx).1
  have hnext := hw.next (List.getElem?_eq_getElem hk)
  rwa [List.getD_eq_getElem?_getD, hx, Option.getD_some] at hnext

/-! ### The stock after the levels, as it is with no more than the marks changed (R68, R71) -/

theorem State.StockAlike.updSlot (h : s.StockAlike t) {f g : Cartridge → Cartridge} {m : Bool × Nat → Bool × Nat}
    (hf : ∀ c, (f c).mark = m c.mark) (hg : ∀ c, (g c).mark = m c.mark) (q i : Nat) :
    (Machine.updSlot q i f s).StockAlike (Machine.updSlot q i g t) :=
  ⟨h.stock, marks_updSlot_congr hg hf q i h.marks, h.day, h.causes⟩

/-- In an ordered table a change of a slot is the storing of what it makes of the record there. -/
theorem updSlot_eq_const (hs : Table.Sorted s.printers) (h : s.slotAt q i = some c) (g : Cartridge → Cartridge) :
    updSlot q i g s = updSlot q i (fun _ => g c) s := by
  obtain ⟨pr, hpr, hc⟩ := Option.bind_eq_some_iff.1 h
  rw [updSlot, updSlot, updPrinter, updPrinter, Table.modify_eq_put hs hpr, Table.modify_eq_put hs hpr, modify_eq_const hc]

/-- One slot of a report as the Stock Unit sees it: the mark withdrawn, the swap taken, and the record stored. -/
def levelStep (q : Nat) (L : List (Option Nat)) (s u : State) (e : Nat × Cartridge × Cartridge) : State :=
  updSlot q e.1 (fun _ => e.2.2) (if s.swapsAt L e.1 e.2.1 = true
    then (updSlot q e.1 (fun c => { c with wanted := false }) u).swapTaken e.2.1.type else u)

theorem alike_levelStep (h : LevelPass q pr L s j w) (hs : Table.Sorted s.printers) (hc : pr.slots[j]? = some c) (hu : u.StockAlike w.state) :
    (levelStep q L s u (j, c, s.levelled L j c)).StockAlike (applyLevel q j (L.getD j none) w).state := by
  have hslot := h.pass.slotAt hc
  have hd := congrFun (congrFun h.levelled j) c
  have hconst (v v' : State) (hv : v.StockAlike v') : (updSlot q j (fun _ => s.levelled L j c) v).StockAlike
      (updSlot q j (fun _ => s.levelled L j c) v') := hv.updSlot (m := fun _ => (s.levelled L j c).mark) (fun _ => rfl) (fun _ => rfl) q j
  have hsame := congrFun (congrFun h.swapsAt j) c
  obtain ⟨hL, he⟩ | ⟨n, hL, hswap, he⟩ | ⟨hL, hswap, he⟩ := applyLevel_cases (L := L) hslot <;> rw [he]
  · have hsorted : Table.Sorted w.state.printers := by
      rw [Table.Sorted, Table.keys_eq_of_view_eq h.pass.deferred]
      exact hs
    have hdl : s.levelled L j c = { c with stale := true } := levelled_of_none hL
    rw [levelStep, if_neg (by rw [swapsAt_of_none hL]; simp), updSlot_eq_const hsorted hslot, ← hdl]
    exact hconst _ _ hu
  · rw [levelStep, if_pos (by rw [← hsame, hswap]), hd, ← updSlot_swapState]
    refine hconst _ _ (State.StockAlike.swapTaken ?_ c.type)
    exact hu.updSlot (m := fun x => (false, x.2)) (fun _ => rfl) (fun _ => rfl) q j
  · rw [levelStep, if_neg (by rw [← hsame, hswap]; simp), hd]
    exact hconst _ _ hu

/-- The stock after the levels is that of the steps one after another. -/
theorem alike_applyLevels (h : s.printers.get? q = some pr) (hlen : L.length = pr.slots.length) (hs : Table.Sorted s.printers)
    (hu : u.StockAlike s) :
    ((slotEntries (s.levelled L) pr.slots).foldl (levelStep q L s) u).StockAlike (applyLevels q 0 L ⟨s, [], []⟩).state := by
  have hall := applyLevels_induct (q := q) (ts := L) (w := ⟨s, [], []⟩) (P := fun k w => LevelPass q pr L s k w
      ∧ (((slotEntries (s.levelled L) pr.slots).take k).foldl (levelStep q L s) u).StockAlike w.state)
    (fun k x w hx ⟨hw, hk⟩ => ?_) ⟨levelPass_start L h, by simpa using hu⟩
  · have hend := hall.2
    rwa [List.take_of_length_le (by rw [length_slotEntries, hlen])] at hend
  · have hlt : k < pr.slots.length := hlen ▸ (List.getElem?_eq_some_iff.1 hx).1
    have hc := List.getElem?_eq_getElem hlt
    have hlevel : L.getD k none = x := by rw [List.getD_eq_getElem?_getD, hx, Option.getD_some]
    rw [← hlevel]
    refine ⟨hw.next hc, ?_⟩
    rw [take_succ_slotEntries hc, List.foldl_append]
    exact alike_levelStep hw hs hc hk

end Sys2Proof.Machine
end

section
/-!
PROOFS. STATUS_REPORT: the record, the levels and their stock (R3, R5, R12 to R17, R25, R27, R41, R45 to R50, R58, R68, R71, R149).
-/

namespace Sys2Proof.Machine

variable {s t u : State} {q i j : Nat} {pr : Printer} {c : Cartridge} {p : Payload} {L : List (Option Nat)}

/-! ### The fields of a report -/

/-- The levels that a report names, slot by slot (R13). -/
def reportLevels (p : Payload) : List (Option Nat) :=
  ((List.range (byteAt p 2)).map fun i => u16 p (3 + byteAt p 1 + 2 * i)).map reportLevel

theorem length_reportLevels (p : Payload) : (reportLevels p).length = byteAt p 2 := by simp [reportLevels]

theorem reportLevels_getD (h : i < byteAt p 2) : (reportLevels p).getD i none = reportLevel (u16 p (3 + byteAt p 1 + 2 * i)) := by
  simp [reportLevels, h]

theorem swapsAt_reportLevels (h : i < byteAt p 2) (c : Cartridge) : s.swapsAt (reportLevels p) i c
    = decide (u16 p (3 + byteAt p 1 + 2 * i) ≠ 65535 ∧ c.level + s.params.swapJump ≤ min 1000 (u16 p (3 + byteAt p 1 + 2 * i))) := by
  rw [State.swapsAt, reportLevels_getD h, reportLevel]
  split
  · next hu => simp [hu]
  · next hu => simp [hu]

theorem mem_reportSet (kinds : List Nat) (k : FaultKind) : k ∈ reportSet kinds ↔ k.number ≤ 8 ∧ k.number ∈ kinds := by
  simp [reportSet, FaultKind.mem_all, Nat.lt_succ_iff]

/-- The delta of the black counter (R15). -/
def State.monoDelta (s : State) (p : Payload) (pr : Printer) : CounterDelta :=
  counterDelta s.params.deltaLimit pr.monoBase (word p (3 + byteAt p 1 + 2 * byteAt p 2))

/-- The delta of the colour counter (R15). -/
def State.colourDelta (s : State) (p : Payload) (pr : Printer) : CounterDelta :=
  counterDelta s.params.deltaLimit pr.colourBase (word p (7 + byteAt p 1 + 2 * byteAt p 2))

/-- A counter of the report was discarded or clamped. -/
def State.rebases (s : State) (p : Payload) (pr : Printer) : Bool := (s.monoDelta p pr).rebased || (s.colourDelta p pr).rebased

theorem counterDelta_delta (limit : Nat) (b : Option Word) (v : Word) : (counterDelta limit b v).delta
    = match b with
      | none => 0
      | some b => if v.toNat < b.toNat then 0 else min limit (v.toNat - b.toNat) := by
  cases b with
  | none => rfl
  | some b =>
    simp only [counterDelta, BitVec.lt_def]
    split
    · rfl
    · split
      · next h => exact (Nat.min_eq_right h).symm
      · next h => exact (Nat.min_eq_left (Nat.le_of_not_le h)).symm

theorem counterDelta_discarded (limit : Nat) (b : Option Word) (v : Word) :
    (counterDelta limit b v).discarded = b.any fun b => decide (v.toNat < b.toNat) := by
  cases b with
  | none => rfl
  | some b =>
    simp only [counterDelta, BitVec.lt_def, Option.any_some]
    split
    · next h => exact (decide_eq_true h).symm
    · next h =>
      rw [decide_eq_false h]
      split <;> rfl

theorem counterDelta_clamped (limit : Nat) (b : Option Word) (v : Word) :
    (counterDelta limit b v).clamped = b.any fun b => decide (b.toNat + limit < v.toNat) := by
  cases b with
  | none => rfl
  | some b =>
    simp only [counterDelta, BitVec.lt_def, Option.any_some]
    split
    · next h => exact (decide_eq_false (by omega)).symm
    · split
      · next h => exact (decide_eq_false (by omega)).symm
      · next h => exact (decide_eq_true (by omega)).symm

/-! ### The service state (R3) -/

theorem blocking_iff (k : FaultKind) : k.blocking = true ↔ k ≠ .trayEmpty ∧ k ≠ .maintenanceDue ∧ k ≠ .tonerEmptyColour := by
  cases k <;> decide

theorem Printer.derived_eq_down_iff (e : Nat) (pr : Printer) : pr.derived e = .down
    ↔ (∃ k ∈ pr.reported, k ≠ .trayEmpty ∧ k ≠ .maintenanceDue ∧ k ≠ .tonerEmptyColour) ∨ pr.blackEmpty e = true := by
  simp only [← blocking_iff, ← List.any_eq_true, ← Bool.or_eq_true]
  unfold Printer.derived
  split
  · next h => exact iff_of_true rfl h
  · next h => exact iff_of_false (by split <;> decide) h

theorem Printer.derived_eq_ready_iff (e : Nat) (pr : Printer) : pr.derived e = .ready
    ↔ pr.reported = [] ∧ pr.blackEmpty e = false ∧ pr.colourUnavailable e = false := by
  unfold Printer.derived
  split
  · next h =>
    refine iff_of_false (by decide) fun ⟨hr, hb, _⟩ => ?_
    simp [hr, hb] at h
  · next h =>
    have hblack : pr.blackEmpty e = false := (Bool.or_eq_false_iff.1 (Bool.eq_false_iff.2 h)).2
    split
    · next h' =>
      refine iff_of_false (by decide) fun ⟨hr, _, hc⟩ => ?_
      simp [hr, hc] at h'
    · next h' =>
      refine iff_of_true rfl ?_
      simpa [hblack] using h'

theorem Printer.derived_cases (e : Nat) (pr : Printer) : pr.derived e = .down ∨ pr.derived e = .ready ∨ pr.derived e = .impaired := by
  unfold Printer.derived
  split
  · exact .inl rfl
  · split
    · exact .inr (.inr rfl)
    · exact .inr (.inl rfl)

/-! ### The refusals (R12) -/

/-- The checks of the fields of a STATUS_REPORT before its length, in their order. -/
def reportChecksOf (p : Payload) : List (Nat × Bool) := [(1, 16 < byteAt p 1), (2, 4 < byteAt p 2)]

/-- STATUS_REPORT, its counts in range. -/
def statusReportInRange (p : Payload) (s : State) : Reply :=
  if p.length ≠ 11 + byteAt p 1 + 2 * byteAt p 2 then refuse .badLength
  else
    match s.printers.get? (byteAt p 0) with
    | none => refuse .notFound
    | some pr =>
      if byteAt p 2 ≠ pr.slots.length then refuse .badLength
      else
        match firstBad (· ≤ 8) (listAt p 3 (byteAt p 1)) with
        | some j => badEntry 3 j
        | none =>
          let mono := word p (3 + byteAt p 1 + 2 * byteAt p 2)
          let colour := word p (7 + byteAt p 1 + 2 * byteAt p 2)
          let after := applyReport (byteAt p 0) pr (listAt p 3 (byteAt p 1))
            ((List.range (byteAt p 2)).map fun i => u16 p (3 + byteAt p 1 + 2 * i)) mono colour s
          okay after
            [pr.state.code, ((after.printers.get? (byteAt p 0)).map fun q => q.state.code).getD 0,
             indications (s.monoDelta p pr) (s.colourDelta p pr)]

theorem exec_statusReport_of_length (hs : s.Receptive) (h : p.length < 3 ∨ 60 < p.length) :
    exec (.statusReport p) s = .next (answeredNo 0x14 .badLength [] s) := by
  rw [exec_statusReport hs]
  obtain h | h := h
  · rw [within_of_le (by omega), statusReport, if_pos h, answer_refuse]
  · rw [within_of_gt h, answer_refuse]

theorem exec_statusReport_of_checked (hs : s.Receptive) (h3 : 3 ≤ p.length) (h60 : p.length ≤ 60) :
    exec (.statusReport p) s = .next (answer 0x14 (checked (reportChecksOf p) (statusReportInRange p s)) s) := by
  rw [exec_statusReport hs, within_of_le h60, statusReport, if_neg (Nat.not_lt.2 h3)]
  simp only [reportChecksOf, checked_cons, checked_nil, decide_eq_true_eq]
  rfl

/-- A report whose counts are in range and which has its length is one that a frame carries. -/
theorem exec_statusReport_of_fits (hs : s.Receptive) (hb : firstBadField (reportChecksOf p) = none)
    (hf : p.length = 11 + byteAt p 1 + 2 * byteAt p 2) :
    exec (.statusReport p) s = .next (answer 0x14 (statusReportInRange p s) s) := by
  obtain ⟨h1, h2⟩ : byteAt p 1 ≤ 16 ∧ byteAt p 2 ≤ 4 := by
    simpa [reportChecksOf, firstBadField] using hb
  rw [exec_statusReport_of_checked hs (by omega) (by omega), checked_of_none hb]

theorem statusReportInRange_of_vacant (hf : p.length = 11 + byteAt p 1 + 2 * byteAt p 2) (h : s.printers.get? (byteAt p 0) = none) :
    statusReportInRange p s = refuse .notFound := by
  rw [statusReportInRange, if_neg (not_not.2 hf), h]

theorem statusReportInRange_of_slots (hf : p.length = 11 + byteAt p 1 + 2 * byteAt p 2) (h : s.printers.get? (byteAt p 0) = some pr)
    (hl : byteAt p 2 ≠ pr.slots.length) : statusReportInRange p s = refuse .badLength := by
  rw [statusReportInRange, if_neg (not_not.2 hf), h]
  exact if_pos hl

theorem statusReportInRange_of_entry (hf : p.length = 11 + byteAt p 1 + 2 * byteAt p 2) (h : s.printers.get? (byteAt p 0) = some pr)
    (hl : byteAt p 2 = pr.slots.length) (hb : firstBad (· ≤ 8) (listAt p 3 (byteAt p 1)) = some j) :
    statusReportInRange p s = badEntry 3 j := by
  rw [statusReportInRange, if_neg (not_not.2 hf), h]
  simp only [hl, hb, ne_eq, not_true_eq_false, if_false]

/-! ### The state of an accepted report -/

/-- The state once the counters of a report are stored. -/
def countedState (p : Payload) (pr : Printer) (s : State) : State :=
  applyCounters (byteAt p 0) (word p (3 + byteAt p 1 + 2 * byteAt p 2)) (word p (7 + byteAt p 1 + 2 * byteAt p 2))
    (s.monoDelta p pr) (s.colourDelta p pr) s

/-- The levels of a report applied. -/
def reportRipple (p : Payload) (pr : Printer) (s : State) : Ripple :=
  applyLevels (byteAt p 0) 0 (reportLevels p) ⟨countedState p pr s, [], []⟩

/-- The state of a report before the service state is derived. -/
def reportDone (p : Payload) (pr : Printer) (s : State) : State :=
  updPrinter (byteAt p 0) (fun r => { r with reported := reportSet (listAt p 3 (byteAt p 1)), lastReport := s.now })
    (reportRipple p pr s).checked

theorem countedState_frame (p : Payload) (pr : Printer) (s : State) :
    countedState p pr s = { s with printers := (countedState p pr s).printers, port := (countedState p pr s).port } := by
  unfold countedState
  apply State.eq_of_fields <;> simp

/-- The state that an accepted report leaves. -/
def reportEnd (p : Payload) (pr : Printer) (s : State) : State :=
  calloutUpdate [byteAt p 0] (reportRipple p pr s).announced (deriveState (byteAt p 0) (reportDone p pr s))

theorem applyReport_eq (p : Payload) (pr : Printer) (s : State) :
    applyReport (byteAt p 0) pr (listAt p 3 (byteAt p 1)) ((List.range (byteAt p 2)).map fun i => u16 p (3 + byteAt p 1 + 2 * i))
      (word p (3 + byteAt p 1 + 2 * byteAt p 2)) (word p (7 + byteAt p 1 + 2 * byteAt p 2)) s = reportEnd p pr s := by
  have hnow : (countedState p pr s).now = s.now := by rw [countedState_frame]; rfl
  unfold reportEnd reportDone
  rw [← hnow]
  rfl

/-- The record of a printer once the counters of a report are stored (R15, R16). -/
def State.countedRecord (s : State) (p : Payload) (pr : Printer) : Printer :=
  { pr with
    monoBase := some (word p (3 + byteAt p 1 + 2 * byteAt p 2))
    colourBase := some (word p (7 + byteAt p 1 + 2 * byteAt p 2))
    pMono := min 65535 (pr.pMono + (s.monoDelta p pr).delta)
    pColour := min 65535 (pr.pColour + (s.colourDelta p pr).delta)
    rebase := pr.rebase || s.rebases p pr }

/-- The record that a report leaves, its service state, its filters and its flag apart. -/
def State.reportRecord (s : State) (p : Payload) (pr : Printer) : Printer :=
  { s.countedRecord p pr with
    slots := pr.slots.mapIdx (s.levelled (reportLevels p))
    reported := reportSet (listAt p 3 (byteAt p 1))
    lastReport := s.now }

/-- The slots of a report's printer, each with its record before and after. -/
def reportEntries (p : Payload) (pr : Printer) (s : State) : List (Nat × Cartridge × Cartridge) :=
  slotEntries (s.levelled (reportLevels p)) pr.slots

theorem mem_slotEntries {f : Nat → Cartridge → Cartridge} {l : List Cartridge} {e : Nat × Cartridge × Cartridge} :
    e ∈ slotEntries f l ↔ ∃ k c, l[k]? = some c ∧ e = (k, c, f k c) := by
  rw [List.mem_iff_getElem?]
  constructor
  · rintro ⟨k, hk⟩
    have hlt : k < l.length := length_slotEntries f l ▸ (List.getElem?_eq_some_iff.1 hk).1
    have hc := List.getElem?_eq_getElem hlt
    rw [getElem?_slotEntries hc] at hk
    exact ⟨k, _, hc, (Option.some.inj hk).symm⟩
  · rintro ⟨k, c, hc, rfl⟩
    exact ⟨k, getElem?_slotEntries hc⟩

/-- The state of a report before the service state is derived: the record, the other printers, the stock and the causes. -/
structure ReportDone (p : Payload) (pr : Printer) (s u : State) (announced : List Nat) : Prop where
  self : u.printers.get? (byteAt p 0) = some (s.reportRecord p pr)
  others : ∀ x, x ≠ byteAt p 0 → u.printers.get? x = s.printers.get? x
  deferred : Table.view Printer.deferred u.printers = Table.view Printer.deferred s.printers
  frame : u = { s with printers := u.printers, stock := u.stock, port := u.port }
  types : ∀ x ty, s.stock.types.get? x = some ty → ∃ b, u.stock.types.get? x
    = some { ty with shelf := ty.shelf - s.swapCount (reportLevels p) (reportEntries p pr s) x, pending := b }
  mismatch : u.hasCause .stockMismatch = true ↔ s.hasCause .stockMismatch = true ∨ s.Mismatch (reportLevels p) (reportEntries p pr s)
  recalled : u.hasCause .jobRecalled = s.hasCause .jobRecalled
  rebased : u.hasCause .counterRebase = (s.hasCause .counterRebase || s.rebases p pr)
  announced : ∀ e ∈ reportEntries p pr s, s.swapsAt (reportLevels p) e.1 e.2.1 = true →
    ∀ ty, s.stock.types.get? e.2.1.type = some ty → 1 ≤ ty.shelf → e.2.1.type ∈ announced
  alike : Table.Sorted s.printers → ∀ ts : List Nat,
    (∀ x, x ∈ ts ↔ ∃ e ∈ reportEntries p pr s, s.gains (reportLevels p) e.1 e.2.1 = true ∧ x = e.2.1.type) →
    (reorderChecks ts ((reportEntries p pr s).foldl (levelStep (byteAt p 0) (reportLevels p) s) s)).StockAlike u

theorem countedState_printers (p : Payload) (pr : Printer) (s : State) : (countedState p pr s).printers
    = s.printers.modify (byteAt p 0) (fun r => { r with
        monoBase := some (word p (3 + byteAt p 1 + 2 * byteAt p 2))
        colourBase := some (word p (7 + byteAt p 1 + 2 * byteAt p 2))
        pMono := min 65535 (r.pMono + (s.monoDelta p pr).delta)
        pColour := min 65535 (r.pColour + (s.colourDelta p pr).delta)
        rebase := r.rebase || s.rebases p pr }) := by
  rw [countedState, applyCounters, setCauseIf_printers, updPrinter_printers]
  rfl

theorem hasCause_countedState (p : Payload) (pr : Printer) (s : State) (x : Cause) :
    (countedState p pr s).hasCause x = (s.hasCause x || (s.rebases p pr && decide (x = .counterRebase))) := by
  rw [countedState, applyCounters]
  exact hasCause_setCauseIf _ _ x _

/-- The counters of a report are nothing to the Stock Unit. -/
theorem alike_countedState (p : Payload) (pr : Printer) (s : State) : s.StockAlike (countedState p pr s) where
  stock := by rw [countedState_frame]
  marks := by
    rw [countedState_printers]
    refine Table.view_modify (fun r => ?_) _ _
    rfl
  day := by rw [countedState_frame]
  causes c hc := by
    rw [hasCause_countedState, decide_eq_false (by rintro rfl; simp at hc), Bool.and_false, Bool.or_false]

theorem reportDone_spec (h : s.printers.get? (byteAt p 0) = some pr) (hl : byteAt p 2 = pr.slots.length) :
    ReportDone p pr s (reportDone p pr s) (reportRipple p pr s).announced := by
  have hlen : (reportLevels p).length = pr.slots.length := (length_reportLevels p).trans hl
  have hcounted : (countedState p pr s).printers.get? (byteAt p 0) = some (s.countedRecord p pr) := by
    rw [countedState_printers, Table.get?_modify_self, h, Option.map_some]
    rfl
  have hview {β : Type} (f : Printer → β) (v : State) (hf : ∀ (r : Printer) (x : List FaultKind) (y : Word),
      f { r with reported := x, lastReport := y } = f r) : Table.view f (updPrinter (byteAt p 0)
      (fun r => { r with reported := reportSet (listAt p 3 (byteAt p 1)), lastReport := s.now }) v).printers = Table.view f v.printers :=
    view_updPrinter v _ fun r => hf r _ _
  have hpass := levelPass_applyLevels (L := reportLevels p) hcounted hlen
  have halike (hs : Table.Sorted s.printers) := alike_applyLevels (L := reportLevels p) (u := s) hcounted hlen (by
    rw [Table.Sorted, countedState_printers, Table.keys_modify]
    exact hs) (alike_countedState p pr s)
  have hcause := hasCause_countedState p pr s
  have hchecked {x : Cause} (ho : x ≠ .reqOpened) (hf : x ≠ .reqTableFull) :
      (reportDone p pr s).hasCause x = (reportRipple p pr s).state.hasCause x := hasCause_reorderChecks_other ho hf _ _
  have hothers (x : Nat) (hx : x ≠ byteAt p 0) : (countedState p pr s).printers.get? x = s.printers.get? x := by
    rw [countedState_printers, Table.get?_modify_ne _ _ hx]
  have hdeferred : Table.view Printer.deferred (countedState p pr s).printers = Table.view Printer.deferred s.printers := by
    rw [countedState_printers]
    refine Table.view_modify (fun r => ?_) _ _
    rfl
  have hdone : (reportRipple p pr s).checked.StockAlike (reportDone p pr s) :=
    .of_port rfl (hview Printer.marks _ fun _ _ _ => rfl) rfl rfl
  rw [show applyLevels (byteAt p 0) 0 (reportLevels p) ⟨countedState p pr s, [], []⟩ = reportRipple p pr s from rfl] at hpass halike
  have hframe := countedState_frame p pr s
  generalize countedState p pr s = v at *
  rw [hframe] at hpass halike hcause hothers hdeferred
  obtain ⟨hslots, htypes, hmismatch, hcauses, hmarked, hannounced⟩ := hpass
  have hall : (slotEntries (s.levelled (reportLevels p)) pr.slots).take (reportLevels p).length = reportEntries p pr s :=
    List.take_of_length_le (by rw [length_slotEntries, hlen])
  refine ⟨?self, fun x hx => ?others, ?deferred, ?frame, fun x ty hx => ?types, ?mismatch, ?recalled, ?rebased,
    fun e he => ?announced, fun hs ts hts => ?alike⟩
  case self =>
    rw [reportDone, updPrinter_printers, Table.get?_modify_self, Ripple.checked, reorderChecks_printers, hslots.self, Option.map_some,
      hlen, show (s.countedRecord p pr).slots = pr.slots from rfl, slotsTo_length]
    rfl
  case others =>
    rw [reportDone, updPrinter_printers, Table.get?_modify_ne _ _ hx, Ripple.checked, reorderChecks_printers, hslots.others x hx]
    exact hothers x hx
  case deferred =>
    rw [reportDone, hview Printer.deferred _ fun _ _ _ => rfl, Ripple.checked, reorderChecks_printers, hslots.deferred]
    exact hdeferred
  case frame =>
    rw [reportDone, Ripple.checked, hslots.frame]
    apply State.eq_of_fields <;> simp
  case types =>
    obtain ⟨b, hb⟩ := htypes x ty hx
    obtain ⟨b', hb'⟩ := get?_types_reorderChecks (reportRipple p pr s).marked hb
    exact ⟨b', hall ▸ hb'⟩
  case mismatch =>
    have hstart := hcause .stockMismatch
    rw [decide_eq_false (by decide), Bool.and_false, Bool.or_false] at hstart
    rw [hchecked (by decide) (by decide), hmismatch, hstart]
    exact hall ▸ Iff.rfl
  case recalled =>
    rw [hchecked (by decide) (by decide), hcauses _ (by decide) (by decide) (by decide), hcause, decide_eq_false (by decide), Bool.and_false,
      Bool.or_false]
  case rebased =>
    rw [hchecked (by decide) (by decide), hcauses _ (by decide) (by decide) (by decide), hcause, decide_eq_true rfl, Bool.and_true]
  case announced => exact hannounced e (hall.symm ▸ he)
  case alike =>
    have hsame : ∀ x, x ∈ ts ↔ x ∈ (reportRipple p pr s).marked := fun x => by
      rw [hts, hmarked]
      exact hall ▸ Iff.rfl
    rw [reorderChecks_congr hsame]
    exact ((halike hs).reorderChecks _).trans hdone

end Sys2Proof.Machine
end

section
/-!
PROOFS. The two statements about STATUS_REPORT: its levels slot by slot, and its record with the end of its event.
-/

namespace Sys2Proof.Machine

variable {s t u : State} {q i j : Nat} {pr : Printer} {c : Cartridge} {p : Payload} {L : List (Option Nat)}

/-- What the end of a report's event comes to. -/
theorem concluded_reportEnd (h : s.printers.get? (byteAt p 0) = some pr) (hl : byteAt p 2 = pr.slots.length) :
    Concluded (byteAt p 0) (s.reportRecord p pr) ((s.reportRecord p pr).derived s.params.emptyLevel) (reportRipple p pr s).announced
      (reportDone p pr s) (reportEnd p pr s) := by
  have hdone := reportDone_spec h hl
  have hparams : (reportDone p pr s).params = s.params := by rw [hdone.frame]
  rw [← hparams]
  exact (serviced_deriveState hdone.self).concluded _

/-- The payload that answers an accepted report: the service states and the indications (R17). -/
def reportAnswer (p : Payload) (pr : Printer) (s : State) : Payload :=
  [pr.state.code, ((s.reportRecord p pr).derived s.params.emptyLevel).code, indications (s.monoDelta p pr) (s.colourDelta p pr)]

theorem exec_statusReport_of_accepted (hs : s.Receptive) (h : s.printers.get? (byteAt p 0) = some pr)
    (hb : firstBadField (reportChecksOf p) = none) (hf : p.length = 11 + byteAt p 1 + 2 * byteAt p 2) (hl : byteAt p 2 = pr.slots.length)
    (hk : ∀ k ∈ listAt p 3 (byteAt p 1), k ≤ 8) :
    exec (.statusReport p) s = .next (answeredOk 0x14 (reportAnswer p pr s) (reportEnd p pr s)) := by
  have hgood : firstBad (· ≤ 8) (listAt p 3 (byteAt p 1)) = none := firstBad_eq_none fun k hk' => decide_eq_true (hk k hk')
  obtain ⟨b, hself⟩ := (concluded_reportEnd h hl).self
  rw [exec_statusReport_of_fits hs hb hf, statusReportInRange, if_neg (not_not.2 hf), h]
  dsimp only
  rw [if_neg (not_not.2 hl), hgood]
  dsimp only
  rw [applyReport_eq, answer_okay, hself]
  rfl

/-- An answer is nothing to the Stock Unit. -/
theorem alike_answeredOk (code : Byte) (l : Payload) (s : State) : s.StockAlike (answeredOk code l s) := ⟨rfl, rfl, rfl, fun _ _ => rfl⟩

theorem printers_answeredOk (code : Byte) (l : Payload) (s : State) : (answeredOk code l s).printers = s.printers := rfl

/-! ### The levels (R13, R45 to R50, R58, R68, R71) -/

theorem levelled_of_unknown (hi : i < byteAt p 2) (h : u16 p (3 + byteAt p 1 + 2 * i) = 65535) :
    s.levelled (reportLevels p) i c = { c with stale := true } :=
  levelled_of_none (by rw [reportLevels_getD hi, reportLevel, if_pos h])

theorem levelled_of_known (hi : i < byteAt p 2) (h : u16 p (3 + byteAt p 1 + 2 * i) ≠ 65535) :
    s.levelled (reportLevels p) i c = s.retested (if s.swapsAt (reportLevels p) i c = true
      then c.swappedAt (min 1000 (u16 p (3 + byteAt p 1 + 2 * i))) else c.acceptedAt (min 1000 (u16 p (3 + byteAt p 1 + 2 * i)))) := by
  have hlevel : (reportLevels p).getD i none = some (min 1000 (u16 p (3 + byteAt p 1 + 2 * i))) := by
    rw [reportLevels_getD hi, reportLevel, if_neg h]
  rw [levelled_of_some hlevel, swapsAt_of_some hlevel]
  simp only [decide_eq_true_eq]

/-- Settles O28: each slot by the rule of its level, the stock by one step a slot and the checks of the marks gained. -/
theorem reportLevelsActSlotBySlot : Obligations.ReportLevelsActSlotBySlot := by
  intro s p pr hs h hk16 hl4 hf hl hk reported swapped
  have hb : firstBadField (reportChecksOf p) = none := by
    simpa [reportChecksOf, firstBadField] using And.intro hk16 hl4
  have hdone := reportDone_spec h hl
  have hend := concluded_reportEnd h hl
  obtain ⟨x, hx, hrecord, -⟩ := hend.record
  have hslots : x.slots = pr.slots.mapIdx (s.levelled (reportLevels p)) := by rw [hrecord]; rfl
  have hswap {k : Nat} {c : Cartridge} (hc : pr.slots[k]? = some c) : s.swapsAt (reportLevels p) k c = decide (swapped k c) :=
    swapsAt_reportLevels (hl ▸ (List.getElem?_eq_some_iff.1 hc).1) c
  have hexec := exec_statusReport_of_accepted hs h hb hf hl hk
  have hsame := alike_answeredOk 0x14 (reportAnswer p pr s) (reportEnd p pr s)
  have hprinters := printers_answeredOk 0x14 (reportAnswer p pr s) (reportEnd p pr s)
  generalize answeredOk 0x14 _ (reportEnd p pr s) = t at hexec hsame hprinters
  refine ⟨t, x, by rw [hprinters, hx]; rfl, hexec, by rw [hslots, List.length_mapIdx], fun i hi c hc => ?slot, ?stock⟩
  case slot =>
    have hi : i < byteAt p 2 := hl ▸ List.mem_range.1 hi
    have hsw := hswap (Option.mem_def.1 hc)
    refine ⟨s.levelled (reportLevels p) i c, by rw [hslots, List.getElem?_mapIdx, Option.mem_def.1 hc]; rfl, fun hu => levelled_of_unknown hi hu,
      fun hu => ?_⟩
    rw [levelled_of_known hi hu]
    by_cases hsc : swapped i c
    · rw [if_pos (hsw.trans (decide_eq_true hsc))]
      refine ⟨by rw [retested_eq]; rfl, fun _ => by rw [retested_eq]; exact ⟨rfl, rfl⟩, fun h => absurd hsc h, by rw [retested_eq]; rfl, ?_⟩
      rw [retested_wanted_iff]
      simp [hsc, Cartridge.swappedAt, reported]
    · rw [if_neg (by rw [hsw, decide_eq_false hsc]; simp)]
      refine ⟨by rw [retested_eq]; rfl, fun h => absurd h hsc, fun _ => by rw [retested_eq]; exact ⟨rfl, rfl⟩, by rw [retested_eq]; rfl, ?_⟩
      rw [retested_wanted_iff]
      simp [hsc, Cartridge.acceptedAt, reported]
  case stock =>
    intro slots swaps pass gained
    have hentries : slots = reportEntries p pr s := by
      simp only [slots, hslots]
      rfl
    have hswaps {e : Nat × Cartridge × Cartridge} (he : e ∈ slots) : s.swapsAt (reportLevels p) e.1 e.2.1 = decide (swapped e.1 e.2.1) := by
      rw [hentries] at he
      obtain ⟨k, c, hc, rfl⟩ := mem_slotEntries.1 he
      exact hswap hc
    have hcount (y : Nat) : s.swapCount (reportLevels p) (reportEntries p pr s) y = swaps y := by
      rw [← hentries]
      exact List.countP_congr fun e he => by rw [hswaps he]
    have hgains (y : Nat) : y ∈ gained ↔ ∃ e ∈ reportEntries p pr s, s.gains (reportLevels p) e.1 e.2.1 = true ∧ y = e.2.1.type := by
      simp only [gained, List.mem_map, List.mem_filter, hentries]
      refine exists_congr fun e => ?_
      constructor
      · rintro ⟨⟨he, hg⟩, rfl⟩
        obtain ⟨k, c, hc, rfl⟩ := mem_slotEntries.1 he
        exact ⟨he, by rw [State.gains, hswap hc]; exact hg, rfl⟩
      · rintro ⟨he, hg, rfl⟩
        obtain ⟨k, c, hc, rfl⟩ := mem_slotEntries.1 he
        refine ⟨⟨he, ?_⟩, rfl⟩
        rw [State.gains, hswap hc] at hg
        exact hg
    have hfold : slots.foldl pass s = (reportEntries p pr s).foldl (levelStep (byteAt p 0) (reportLevels p) s) s := by
      rw [← hentries]
      refine List.foldl_ext _ _ _ fun u e he => ?_
      rw [levelStep, hswaps he]
      simp only [pass, decide_eq_true_eq]
    refine ⟨fun y ty hty => ?types, ?mismatch, fun ht => ?alike⟩
    case types =>
      obtain ⟨b, hb⟩ := hdone.types y ty hty
      rw [hcount] at hb
      exact ⟨_, by rw [hsame.stock, hend.stock]; exact hb, rfl⟩
    case mismatch =>
      rw [hsame.causes _ (by decide), hend.causes .stockMismatch (by decide) (by decide) (by decide), hdone.mismatch]
      refine or_congr_right ?_
      unfold State.Mismatch
      rw [← hentries]
      refine exists_congr fun e => and_congr_right fun he => ?_
      rw [hswaps he, decide_eq_true_eq, hentries, hcount]
    case alike =>
      rw [hfold]
      exact ((hdone.alike ht.1 gained hgains).trans (hend.alike.trans hsame)).stockAsIn

/-! ### The record and the end of the event (R3, R5, R12 to R17, R25, R27, R41, R149) -/

/-- Settles O27: the record by the fields of the report, the rest by what the end of the event comes to. -/
theorem statusReportUpdatesTheRecord : Obligations.StatusReportUpdatesTheRecord := by
  intro s p hs n fits bad kinds
  refine ⟨exec_statusReport_of_length hs, fun h3 h60 i hi => ?bad, fun h3 hb hf => ?unfit, fun hb hf hn => ?vacant, fun pr hpr hb hf =>
    ⟨fun hl => ?slots, fun hl i hi hbad hgood => ?entry, fun hl hk => ?good⟩⟩
  case bad => rw [exec_statusReport_of_checked hs h3 h60, checked_of_mem (checks := reportChecksOf p) hi, answer_badField]
  case unfit =>
    by_cases h60 : p.length ≤ 60
    · rw [exec_statusReport_of_checked hs h3 h60, checked_of_none (checks := reportChecksOf p) hb, statusReportInRange, if_pos hf, answer_refuse]
    · exact exec_statusReport_of_length hs (.inr (Nat.lt_of_not_le h60))
  case vacant => rw [exec_statusReport_of_fits hs hb hf, statusReportInRange_of_vacant hf hn, answer_refuse]
  case slots => rw [exec_statusReport_of_fits hs hb hf, statusReportInRange_of_slots hf hpr hl, answer_refuse]
  case entry =>
    have hfirst : firstBad (· ≤ 8) kinds = some i := firstBad_eq_some (List.mem_range.1 hi)
      (decide_eq_false (Nat.not_le.2 hbad)) fun k hk => decide_eq_true (hgood k hk)
    rw [exec_statusReport_of_fits hs hb hf, statusReportInRange_of_entry hf hpr hl hfirst, answer_badEntry]
    rfl
  case good =>
    intro at_ mono colour limit delta back ahead odd bit swapped
    have h : s.printers.get? (byteAt p 0) = some pr := hpr
    have hdone := reportDone_spec h hl
    have hend := concluded_reportEnd h hl
    obtain ⟨x, hx, hrecord, hfilters⟩ := hend.record
    have hcolour : word p (7 + byteAt p 1 + 2 * byteAt p 2) = colour := by
      exact congrArg (word p) (by omega)
    have hparams : (reportDone p pr s).params = s.params := by rw [hdone.frame]
    have hwork : (reportDone p pr s).jobWork = s.jobWork := by rw [hdone.frame]; rfl
    have hsound (ht : TablesOrdered s) (hk : TicketsSound s) : (reportDone p pr s).CalloutSound 0 :=
      ((calloutSound_iff ht).1 hk).of_deferred (by rw [hdone.frame]) hdone.deferred
    have hmono : (s.monoDelta p pr).delta = delta pr.monoBase mono := counterDelta_delta _ _ _
    have hcolourDelta : (s.colourDelta p pr).delta = delta pr.colourBase colour := by
      rw [State.colourDelta, hcolour]
      exact counterDelta_delta _ _ _
    have hback : (s.monoDelta p pr).discarded = back pr.monoBase mono := counterDelta_discarded _ _ _
    have hahead : (s.monoDelta p pr).clamped = ahead pr.monoBase mono := counterDelta_clamped _ _ _
    have hback' : (s.colourDelta p pr).discarded = back pr.colourBase colour := by
      rw [State.colourDelta, hcolour]
      exact counterDelta_discarded _ _ _
    have hahead' : (s.colourDelta p pr).clamped = ahead pr.colourBase colour := by
      rw [State.colourDelta, hcolour]
      exact counterDelta_clamped _ _ _
    have hodd : s.rebases p pr = odd := by
      simp only [State.rebases, CounterDelta.rebased, hback, hahead, hback', hahead', odd, Bool.or_assoc]
    have hstate : x.state = x.derived s.params.emptyLevel := by
      rw [hrecord]
      rfl
    refine ⟨reportEnd p pr s, x, hx, ?exec, hend.frame_of hdone.frame, ?record, fun k => ?reported, ?down, ?ready, ?cases,
      fun hj hdown hne => ?returned, fun hk => ?unrecalled, fun k => ?filter, ?rebase, fun y hy z hz => ?others,
      fun ht hk => ⟨hend.inLine (hsound ht hk), fun i hi c hc ty hty hsw hpos e he hconf hconc => ?announced⟩⟩
    case exec =>
      rw [exec_statusReport_of_accepted hs h hb hf hl hk, reportAnswer, indications, hback, hahead, hback', hahead', hrecord]
    case record =>
      rw [hrecord]
      simp only [State.reportRecord, State.countedRecord, hmono, hcolourDelta, hcolour, hodd]
      rfl
    case reported =>
      rw [hrecord]
      exact mem_reportSet kinds k
    case down =>
      rw [hstate]
      exact Printer.derived_eq_down_iff _ _
    case ready =>
      rw [hstate]
      exact Printer.derived_eq_ready_iff _ _
    case cases =>
      rw [hstate]
      exact Printer.derived_cases _ _
    case returned =>
      refine hend.returned hj hwork hdone.recalled ?_ hne
      rw [← hdown, hrecord]
    case unrecalled =>
      refine hend.unrecalled hwork (hk.imp_left fun h => ?_)
      rwa [hrecord] at h
    case filter =>
      rw [hfilters, hparams]
      rfl
    case rebase =>
      rw [hend.causes _ (by decide) (by decide) (by decide), hdone.rebased, hodd, Bool.or_eq_true]
    case others =>
      obtain ⟨b, hb⟩ := hend.others y hy z ((hdone.others y hy).trans hz)
      exact ⟨_, hb, rfl⟩
    case announced =>
      by_cases hy : e.1 = byteAt p 0
      · rw [hy]
        exact hend.inLine (hsound ht hk)
      · have hi : i < byteAt p 2 := hl ▸ List.mem_range.1 hi
        have hann : c.type ∈ (reportRipple p pr s).announced := hdone.announced (i, c, s.levelled (reportLevels p) i c)
          (mem_slotEntries.2 ⟨i, c, hc, rfl⟩) (by rw [swapsAt_reportLevels hi]; exact decide_eq_true hsw) ty hty hpos
        obtain ⟨d, hd, hdt⟩ := hconc
        exact hend.announced (hsound ht hk) e.1 e.2 hy ((hdone.others e.1 hy).trans (Table.get?_of_mem ht.1 he)) hconf ⟨d, hd, hdt ▸ hann⟩

end Sys2Proof.Machine
end

section
/-!
PROOFS. RELEASE_REQUEST released (R93, R95, R138, R140 to R145): the walk over the candidates, one released job after another.
-/

namespace Sys2Proof.Machine

variable {s t u : State} {q owner n : Nat} {pr : Printer} {j : Job} {L : List Job} {p : Payload}

/-! ### Reservations read and change the bank alone -/

theorem portions_of_bank (h : t.bank = s.bank) : t.portions = s.portions := by
  have hgroup : t.groupAt = s.groupAt := funext fun g => by rw [State.groupAt, h, State.groupAt]
  funext a c
  have havail : t.accountAvailable a = s.accountAvailable a := by rw [State.accountAvailable, hgroup, State.accountAvailable]
  rw [State.portions_eq, havail, hgroup]
  rfl

theorem addReservation_bank_congr (h : t.bank = s.bank) (n x y : Nat) : (addReservation n x y t).bank = (addReservation n x y s).bank := by
  simp only [addReservation, h]
  cases s.bank.accounts.get? n with
  | none => exact h
  | some a => simp only [updGroup_bank, updAccount_bank, h]

theorem addReservation_prices (n x y : Nat) (s : State) : (addReservation n x y s).bank.prices = s.bank.prices := by
  unfold addReservation
  split <;> rfl

theorem get?_addReservation (n x y : Nat) (s : State) (m : Nat) : (addReservation n x y s).bank.accounts.get? m
    = if m = n then (s.bank.accounts.get? m).map fun a => { a with reserved := a.reserved + x } else s.bank.accounts.get? m := by
  cases h : s.bank.accounts.get? n with
  | none =>
    simp only [addReservation, h]
    split
    · next hm => rw [hm, h, Option.map_none]
    · rfl
  | some a => rw [addReservation_of_get? h, updGroup_bank, updAccount_bank, Table.get?_modify]

/-! ### The reservations of the jobs released before (R93) -/

/-- What a job would cost on a printer with what it is granted there (R90, R142). -/
def State.releaseCost (s : State) (pr : Printer) (j : Job) : Nat :=
  s.cost pr.costClass j.size (grantColour s.params.emptyLevel pr j) (grantDuplex pr j) j.sides

/-- How a job's cost on a printer divides in a state (R93). -/
def State.divided (s : State) (owner : Nat) (pr : Printer) (u : State) (j : Job) : Option (Nat × Nat) :=
  (u.bank.accounts.get? owner).bind fun a => u.portions a (s.releaseCost pr j)

/-- The reservation of one job more, when it is accepted. -/
def State.reserved (s : State) (owner : Nat) (pr : Printer) (u : State) (j : Job) : State :=
  ((s.divided owner pr u j).map fun xy => addReservation owner xy.1 xy.2 u).getD u

/-- The reservations of jobs one after another. -/
def State.reservedFor (s : State) (owner : Nat) (pr : Printer) (L : List Job) : State := L.foldl (s.reserved owner pr) s

theorem reservedFor_append (s : State) (owner : Nat) (pr : Printer) (L : List Job) (j : Job) :
    s.reservedFor owner pr (L ++ [j]) = s.reserved owner pr (s.reservedFor owner pr L) j := by
  rw [State.reservedFor, List.foldl_append]
  rfl

theorem reserved_of_some {xy : Nat × Nat} (h : s.divided owner pr u j = some xy) :
    s.reserved owner pr u j = addReservation owner xy.1 xy.2 u := by
  rw [State.reserved, h]
  rfl

/-- What every accepted reservation keeps, the reservations of several jobs keep. -/
theorem reservedFor_induct {P : State → Prop} (h0 : P s) (h : ∀ u x y, P u → P (addReservation owner x y u)) (L : List Job) :
    P (s.reservedFor owner pr L) := by
  refine List.foldlRecOn L _ h0 fun u hu j _ => ?_
  rw [State.reserved]
  cases s.divided owner pr u j with
  | none => exact hu
  | some xy => exact h u xy.1 xy.2 hu

theorem reservedFor_prices (s : State) (owner : Nat) (pr : Printer) (L : List Job) :
    (s.reservedFor owner pr L).bank.prices = s.bank.prices :=
  reservedFor_induct (P := fun u => u.bank.prices = s.bank.prices) rfl (fun u x y h => (addReservation_prices owner x y u).trans h) L

theorem get?_reservedFor_ne (s : State) (pr : Printer) (L : List Job) {m : Nat} (hm : m ≠ owner) :
    (s.reservedFor owner pr L).bank.accounts.get? m = s.bank.accounts.get? m :=
  reservedFor_induct (P := fun u => u.bank.accounts.get? m = s.bank.accounts.get? m) rfl
    (fun u x y h => by rw [get?_addReservation, if_neg hm, h]) L

theorem exhausted_reservedFor (s : State) (pr : Printer) (L : List Job) :
    ((s.reservedFor owner pr L).bank.accounts.get? owner).map Account.exhausted = (s.bank.accounts.get? owner).map Account.exhausted :=
  reservedFor_induct (P := fun u => (u.bank.accounts.get? owner).map Account.exhausted = (s.bank.accounts.get? owner).map Account.exhausted) rfl
    (fun u x y h => by rw [get?_addReservation, if_pos rfl, Option.map_map, ← h]; rfl) L

/-! ### The walk (R143) -/

/-- What a job released with two portions carries (R99). -/
def State.releaseInfo (s : State) (q : Nat) (pr : Printer) (j : Job) (xy : Nat × Nat) : ReleaseInfo :=
  ⟨q, grantColour s.params.emptyLevel pr j, grantDuplex pr j, s.releaseCost pr j, xy.1, xy.2, s.now⟩

/-- A job as it was HELD. -/
def Job.unphased (j : Job) : Job := { j with phase := .held }

/-- The state after a walk from `s` that has released the jobs of a list. -/
structure Walked (s : State) (q owner : Nat) (pr : Printer) (L : List Job) (u : State) : Prop where
  sound : u.JobsSound
  frame : u = { s with store := u.store, release := u.release, bank := (s.reservedFor owner pr L).bank }
  store : u.store = { s.store with
    records := u.store.records, expiry := s.store.expiry.filter fun m => m ∉ L.map Job.number }
  release : u.release = { s.release with
    dispatch := s.release.dispatch ++ L.map Job.number, releases := s.release.releases + BitVec.ofNat 32 L.length }
  unphased : u.store.records.map Job.unphased = s.store.records.map Job.unphased
  others : ∀ i ∈ s.store.records, i.number ∉ L.map Job.number → i ∈ u.store.records
  released : ∀ k i, L[k]? = some i → ∃ xy, s.divided owner pr (s.reservedFor owner pr (L.take k)) i = some xy
    ∧ u.jobAt i.number = some { i with phase := .releasing (s.releaseInfo q pr i xy) }
  inflight : u.inflightCount q = s.inflightCount q + L.length
  batch : L.length ≤ s.params.releaseBatch
  few : 1 ≤ L.length → s.inflightCount q + L.length ≤ s.params.printerInflight

theorem walked_start (h : s.JobsSound) (q owner : Nat) (pr : Printer) : Walked s q owner pr [] s where
  sound := h
  frame := rfl
  store := by simp
  release := by simp
  unphased := rfl
  others i hi _ := hi
  released k i h := by simp at h
  inflight := rfl
  batch := Nat.zero_le _
  few h := absurd h (by simp)

/-- An offer divides the job's cost, as the bank stands after the jobs released before. -/
theorem Walked.offer_eq (h : Walked s q owner pr L u) (j : Job) : u.offer q owner pr j
    = (s.divided owner pr (s.reservedFor owner pr L) j).map (s.releaseInfo q pr j) := by
  have hbank : u.bank = (s.reservedFor owner pr L).bank := by rw [h.frame]
  have hparams : u.params = s.params := by rw [h.frame]
  have hnow : u.now = s.now := by rw [h.frame]; rfl
  have hcost : u.releaseCost pr j = s.releaseCost pr j := by
    simp only [State.releaseCost, State.cost, State.pricesAt, hbank, reservedFor_prices, hparams]
  unfold State.offer State.divided
  rw [← hbank, ← hcost, ← portions_of_bank hbank]
  cases u.bank.accounts.get? owner with
  | none => rfl
  | some a =>
    simp only [Option.bind_some]
    refine congrFun (congrArg Option.map (funext fun xy => ?_)) _
    rw [State.releaseInfo, ← hcost, ← hnow, ← hparams]
    rfl

section

variable (hpr : s.printers.get? q = some pr) (hacc : pr.accepts = true)
include hpr hacc

/-- One job more is released. -/
theorem Walked.next (h : Walked s q owner pr L u) (hj : s.jobAt j.number = some j) (ho : j.owner = owner) (hc : j.candidate q pr = true)
    (hn : j.number ∉ L.map Job.number) {xy : Nat × Nat} (hxy : s.divided owner pr (s.reservedFor owner pr L) j = some xy)
    (hbatch : L.length < s.params.releaseBatch) (hfew : s.inflightCount q + L.length < s.params.printerInflight) :
    Walked s q owner pr (L ++ [j]) (releaseJob j.number owner (s.releaseInfo q pr j xy) u) := by
  subst ho
  have hmem := (State.mem_of_jobAt hj).1
  have hju : u.jobAt j.number = some j := h.sound.jobAt (h.others j hmem hn)
  obtain ⟨hph, hsuits, -⟩ := Job.candidate_iff.1 hc
  have hoffer : u.offer q j.owner pr j = some (s.releaseInfo q pr j xy) := by rw [h.offer_eq, hxy, Option.map_some]
  obtain ⟨-, hcost, hmax⟩ := offer_eq_some hoffer
  have hprinters : u.printers = s.printers := by rw [h.frame]
  have hparams : u.params = s.params := by rw [h.frame]
  have hmove : u.Moved (releaseJob j.number j.owner (s.releaseInfo q pr j xy) u) j (some (.releasing (s.releaseInfo q pr j xy))) :=
    .release hju hph hcost hmax (by rw [hprinters]; exact hpr) (fun _ => hacc) (fun x hx => Target.eq_of_suits (hx ▸ hsuits))
      (by rw [hparams]; exact h.inflight ▸ hfew)
  have hrecords : (releaseJob j.number j.owner (s.releaseInfo q pr j xy) u).store.records = u.store.records.map fun i =>
      if i.number == j.number then { i with phase := .releasing (s.releaseInfo q pr j xy) } else i := by simp [releaseJob, startRelease]
  have hat (m : Nat) : (releaseJob j.number j.owner (s.releaseInfo q pr j xy) u).jobAt m = (u.jobAt m).map fun i =>
      if i.number == j.number then { i with phase := .releasing (s.releaseInfo q pr j xy) } else i :=
    jobAt_map (fun i => by split <;> rfl) hrecords m
  have hbank : u.bank = (s.reservedFor j.owner pr L).bank := by rw [h.frame]
  refine ⟨h.sound.moved hmove, ?frame, ?store, ?release, ?unphased, fun i hi hin => ?others, fun k i hk => ?released, ?inflight,
    ?batch, fun _ => ?few⟩
  case frame =>
    have hadd : (addReservation j.owner xy.1 xy.2 u).bank = (s.reservedFor j.owner pr (L ++ [j])).bank := by
      rw [reservedFor_append, reserved_of_some hxy, addReservation_bank_congr hbank]
    have hu := h.frame
    rw [← hadd]
    apply State.eq_of_fields <;> simp [releaseJob, State.releaseInfo] <;> rw [hu]
  case store =>
    have hexpiry : u.store.expiry = s.store.expiry.filter fun m => m ∉ L.map Job.number := by rw [h.store]
    have herase : u.store.expiry.erase j.number = s.store.expiry.filter fun m => m ∉ (L ++ [j]).map Job.number := by
      rw [erase_eq_filter_ne h.sound.expiry_nodup, hexpiry, List.filter_filter]
      refine List.filter_congr fun m _ => ?_
      rw [List.map_append, ← Bool.decide_and]
      exact decide_eq_decide.2 (by simp [and_comm])
    obtain ⟨r, hr⟩ : ∃ r, u.store = { s.store with records := r, expiry := u.store.expiry }  :=
      ⟨u.store.records, h.store.trans (by rw [hexpiry])⟩
    have hstore : (releaseJob j.number j.owner (s.releaseInfo q pr j xy) u).store = { u.store with
        records := (releaseJob j.number j.owner (s.releaseInfo q pr j xy) u).store.records
        expiry := u.store.expiry.erase j.number } := by simp [releaseJob, startRelease]
    rw [herase, hr] at hstore
    exact hstore
  case release =>
    have hrelease : (releaseJob j.number j.owner (s.releaseInfo q pr j xy) u).release = { u.release with
        dispatch := u.release.dispatch ++ [j.number], releases := u.release.releases + 1 } := by simp [releaseJob, startRelease]
    rw [hrelease, h.release]
    simp only [List.map_append, List.map_cons, List.map_nil, List.append_assoc, List.length_append, List.length_singleton]
    rw [BitVec.ofNat_add, BitVec.add_assoc]
    rfl
  case unphased =>
    rw [hrecords, List.map_map, ← h.unphased]
    refine List.map_congr_left fun i _ => ?_
    simp only [Function.comp_apply, Job.unphased]
    split <;> rfl
  case others =>
    obtain ⟨hin, hne⟩ : i.number ∉ L.map Job.number ∧ i.number ≠ j.number := by simpa using hin
    rw [hrecords]
    exact List.mem_map.2 ⟨i, h.others i hi (by simpa using hin), if_neg (by simpa using hne)⟩
  case released =>
    rw [List.getElem?_append] at hk
    split at hk
    · next hlt =>
      obtain ⟨x, hx, hi⟩ := h.released k i hk
      refine ⟨x, by rw [List.take_append_of_le_length (Nat.le_of_lt hlt), hx], ?_⟩
      have hne : i.number ≠ j.number := fun he => hn (he ▸ List.mem_map_of_mem (List.mem_of_getElem? hk))
      rw [hat, hi, Option.map_some, if_neg (by simpa using hne)]
    · next hge =>
      obtain ⟨hk0, rfl⟩ : k - L.length = 0 ∧ j = i := by simpa [List.getElem?_singleton] using hk
      refine ⟨xy, by rw [show k = L.length by omega, List.take_append_of_le_length (Nat.le_refl _), List.take_length, hxy], ?_⟩
      rw [hat, hju, Option.map_some, if_pos (by simp)]
  case inflight =>
    have hsum := sum_filterMap_moved h.sound.nodup (State.mem_of_jobAt hju).1 (some (.releasing (s.releaseInfo q pr j xy))) (Job.onPrinter q)
    rw [← hmove.records, ← inflightCount_eq, ← inflightCount_eq, h.inflight] at hsum
    simp only [Job.onPrinter, hph, JobPhase.info?, State.releaseInfo, Option.any_none, Option.any_some, Option.map_some, Option.getD_some,
      beq_self_eq_true, Bool.false_eq_true, if_true, if_false] at hsum
    rw [List.length_append, List.length_singleton, ← Nat.add_assoc]
    exact hsum
  case batch => rw [List.length_append]; exact hbatch
  case few => rw [List.length_append, ← Nat.add_assoc]; exact hfew

end

end Sys2Proof.Machine
end

section
/-!
PROOFS. RELEASE_REQUEST released: how the walk ends, and the answer (R143 to R145).
-/

namespace Sys2Proof.Machine

variable {s t u v : State} {q owner n : Nat} {pr : Printer} {j : Job} {L : List Job} {p : Payload}

/-! ### How the walk ends (R143) -/

/-- A walk has come to its end after the jobs of `A`, with those of `B` left. -/
inductive WalkStops (s : State) (q owner : Nat) (pr : Printer) (A B : List Job) (v : State) : State × Nat × WalkEnd → Prop
  | complete (h : B = [] ∨ s.params.releaseBatch ≤ A.length) : WalkStops s q owner pr A B v (v, A.length, .complete)
  | busy (hb : B ≠ []) (hn : A.length < s.params.releaseBatch) (hf : s.params.printerInflight ≤ s.inflightCount q + A.length) :
      WalkStops s q owner pr A B v (v, A.length, .busyStop)
  | quota {j : Job} {C : List Job} (hb : B = j :: C) (hn : A.length < s.params.releaseBatch)
      (hf : s.inflightCount q + A.length < s.params.printerInflight)
      (hd : s.divided owner pr (s.reservedFor owner pr A) j = none) :
      WalkStops s q owner pr A B v (markExhausted owner v, A.length, .quotaStop)

section

variable (hpr : s.printers.get? q = some pr) (hacc : pr.accepts = true)
include hpr hacc

/-- The walk goes on from the jobs released before to its end. -/
theorem Walked.stops (h : Walked s q owner pr L u) (js : List Job) (hjs : ∀ j ∈ js, s.jobAt j.number = some j ∧ j.owner = owner ∧ j.candidate q pr = true)
    (hnd : ((L ++ js).map Job.number).Nodup) :
    ∃ A B v, L ++ js = A ++ B ∧ Walked s q owner pr A v ∧ WalkStops s q owner pr A B v (releaseWalk q owner pr js L.length u) := by
  induction js generalizing L u with
  | nil => exact ⟨L, [], u, rfl, h, .complete (.inl rfl)⟩
  | cons j js ih =>
    have hparams : u.params = s.params := by rw [h.frame]
    by_cases hb : s.params.releaseBatch ≤ L.length
    · refine ⟨L, j :: js, u, rfl, h, ?_⟩
      rw [releaseWalk, if_pos (by rwa [hparams])]
      exact .complete (.inr hb)
    by_cases hf : s.params.printerInflight ≤ s.inflightCount q + L.length
    · refine ⟨L, j :: js, u, rfl, h, ?_⟩
      rw [releaseWalk, if_neg (by rwa [hparams]), if_pos (by rwa [hparams, h.inflight])]
      exact .busy (List.cons_ne_nil _ _) (Nat.lt_of_not_le hb) hf
    cases hd : s.divided owner pr (s.reservedFor owner pr L) j with
    | none =>
      refine ⟨L, j :: js, u, rfl, h, ?_⟩
      have hoffer : u.offer q owner pr j = none := by rw [h.offer_eq, hd, Option.map_none]
      rw [releaseWalk, if_neg (by rwa [hparams]), if_neg (by rwa [hparams, h.inflight]), hoffer]
      exact .quota rfl (Nat.lt_of_not_le hb) (Nat.lt_of_not_le hf) hd
    | some xy =>
      have hoffer : u.offer q owner pr j = some (s.releaseInfo q pr j xy) := by rw [h.offer_eq, hd, Option.map_some]
      obtain ⟨hj, ho, hc⟩ := hjs j (List.mem_cons_self ..)
      have hn : j.number ∉ L.map Job.number := by
        rw [List.map_append, List.nodup_append] at hnd
        exact fun hm => hnd.2.2 _ hm _ (List.mem_cons_self ..) rfl
      have hnext := h.next hpr hacc hj ho hc hn hd (Nat.lt_of_not_le hb) (Nat.lt_of_not_le hf)
      have hrest := ih hnext (fun i hi => hjs i (List.mem_cons_of_mem _ hi)) (by simpa using hnd)
      rw [List.append_assoc, List.length_append, List.length_singleton] at hrest
      rw [releaseWalk, if_neg (by rwa [hparams]), if_neg (by rwa [hparams, h.inflight]), hoffer]
      exact hrest

end

/-! ### The answer (R144, R145) -/

/-- The candidates of a RELEASE_REQUEST (R141, R145). -/
def State.candidatesAt (s : State) (p : Payload) (pr : Printer) : List Job :=
  (s.jobsOf (u16 p 0)).filter fun j => j.candidate (byteAt p 2) pr && (onlyJob p).all fun n => n == j.number

theorem mem_candidatesAt (h : s.JobsSound) (hj : j ∈ s.candidatesAt p pr) :
    s.jobAt j.number = some j ∧ j.owner = u16 p 0 ∧ j.candidate (byteAt p 2) pr = true := by
  obtain ⟨hown, hc⟩ := List.mem_filter.1 hj
  obtain ⟨hrec, ho⟩ := List.mem_filter.1 hown
  exact ⟨h.jobAt hrec, by simpa using ho, (Bool.and_eq_true_iff.1 hc).1⟩

theorem nodup_candidatesAt (h : s.JobsSound) (p : Payload) (pr : Printer) : ((s.candidatesAt p pr).map Job.number).Nodup :=
  h.nodup.sublist ((List.filter_sublist.trans List.filter_sublist).map _)

section

variable {acc : Account} (hs : s.Receptive) (hp : p.length = 5) (ha : s.bank.accounts.get? (u16 p 0) = some acc) (hr : acc.role = .user)
  (hsus : acc.suspended = false) (hpr : s.printers.get? (byteAt p 2) = some pr) (hacc : pr.accepts = true) (hk : s.knowsJob p)
include hs hp ha hr hsus hpr hacc hk

/-- A RELEASE_REQUEST of an ACTIVE user at a printer that accepts releases. -/
theorem exec_releaseRequest_of_accepts : exec (.releaseRequest p) s
    = .next (answeredOk 0x50 (decisionPayload (releaseAt (byteAt p 2) (u16 p 0) pr (s.candidatesAt p pr) s).2)
        (releaseAt (byteAt p 2) (u16 p 0) pr (s.candidatesAt p pr) s).1) := by
  have htarget : s.releaseTarget (byteAt p 2) false = some (byteAt p 2) := by simp [State.releaseTarget, hpr, hacc]
  have hdecision : releaseDecision (u16 p 0) (byteAt p 2) false (onlyJob p) s
      = releaseAt (byteAt p 2) (u16 p 0) pr (s.candidatesAt p pr) s := by
    rw [releaseDecision, if_neg (by simp [ha, hsus]), htarget]
    simp only [hpr]
    rfl
  rw [exec_releaseRequest_of_length hs hp, releaseRequest_of_known hp ha hr (by rw [hpr]; rfl) hk, answer_okay, hdecision]

theorem exec_releaseRequest_of_none (hc : s.candidatesAt p pr = []) :
    exec (.releaseRequest p) s = .next (answeredOk 0x50 [0x02, 0, 0, BitVec.ofNat 8 (byteAt p 2), 0, 0] s) := by
  rw [exec_releaseRequest_of_accepts hs hp ha hr hsus hpr hacc hk, releaseAt, hc, if_pos List.isEmpty_nil]
  simp [decisionPayload, DisplayOutcome.code, le]

/-- With candidates the answer says how the walk over them ended. -/
theorem exec_releaseRequest_of_walk (hc : s.candidatesAt p pr ≠ []) {e : WalkEnd}
    (hw : releaseWalk (byteAt p 2) (u16 p 0) pr (s.candidatesAt p pr) 0 s = (t, n, e)) :
    exec (.releaseRequest p) s = .next (answeredOk 0x50 ([(walkOutcome n e).code] ++ le 1 n ++ le 1 ((s.candidatesAt p pr).length - n)
      ++ le 1 (byteAt p 2) ++ le 2 0) t) := by
  rw [exec_releaseRequest_of_accepts hs hp ha hr hsus hpr hacc hk, releaseAt, if_neg (by simpa using hc), hw]
  rfl

end

/-! ### The exhausted account (R95) -/

theorem get?_markExhausted (n m : Nat) (s : State) : (markExhausted n s).bank.accounts.get? m
    = if m = n then (s.bank.accounts.get? m).map fun a => { a with exhausted := true } else s.bank.accounts.get? m := by
  rw [markExhausted, setCauseIf_bank, updAccount_bank, Table.get?_modify]

theorem hasCause_markExhausted (n : Nat) (s : State) (c : Cause) : (markExhausted n s).hasCause c
    = (s.hasCause c || (((s.bank.accounts.get? n).any fun a => !a.exhausted) && decide (c = .quotaExhausted))) :=
  hasCause_setCauseIf _ _ c _

/-- The state in which a walk has left the part, with the account exhausted when a reservation was refused. -/
def marked (owner : Nat) (refused : Bool) (v : State) : State := if refused then markExhausted owner v else v

theorem get?_marked_ne (b : Bool) {m : Nat} (hm : m ≠ owner) : (marked owner b v).bank.accounts.get? m = v.bank.accounts.get? m := by
  cases b with
  | false => rfl
  | true => exact (get?_markExhausted owner m v).trans (if_neg hm)

theorem get?_marked_self (b : Bool) {a : Account} (ha : v.bank.accounts.get? owner = some a) :
    (marked owner b v).bank.accounts.get? owner = some { a with exhausted := a.exhausted || b } := by
  cases b with
  | false => rw [Bool.or_false]; exact ha
  | true => rw [Bool.or_true]; exact (get?_markExhausted owner owner v).trans (by rw [if_pos rfl, ha, Option.map_some])

theorem hasCause_marked (b : Bool) {a : Account} (ha : v.bank.accounts.get? owner = some a) :
    (marked owner b v).hasCause .quotaExhausted = (v.hasCause .quotaExhausted || (b && !a.exhausted)) := by
  cases b with
  | false => rw [Bool.false_and, Bool.or_false]; rfl
  | true =>
    refine (hasCause_markExhausted owner v _).trans ?_
    rw [ha, decide_eq_true rfl, Bool.and_true, Bool.true_and]
    rfl

theorem marked_frame (owner : Nat) (b : Bool) (v : State) :
    marked owner b v = { v with bank := { v.bank with accounts := (marked owner b v).bank.accounts }, port := (marked owner b v).port } := by
  cases b with
  | false => rfl
  | true =>
    rw [marked, if_pos rfl]
    apply State.eq_of_fields <;> simp [markExhausted]

/-- The end of a walk by its three reasons, in the terms of R144. -/
theorem WalkStops.outcome {A B : List Job} {r : State × Nat × WalkEnd} (h : WalkStops s q owner pr A B v r) (hne : A ++ B ≠ []) :
    ∃ (e : WalkEnd) (b : Bool), r = (marked owner b v, A.length, e)
      ∧ (b = true ↔ B ≠ [] ∧ A.length < s.params.releaseBatch ∧ ¬ s.params.printerInflight ≤ s.inflightCount q + A.length)
      ∧ (b = true → ∀ j ∈ B.head?, s.divided owner pr (s.reservedFor owner pr A) j = none)
      ∧ (walkOutcome A.length e).code = if A.length ≠ 0 ∨ s.params.releaseBatch = 0 then 0x01
          else if s.params.printerInflight ≤ s.inflightCount q + A.length then 0x04 else 0x03 := by
  cases h with
  | complete h =>
    refine ⟨.complete, false, rfl, ?_, fun h => (Bool.false_ne_true h).elim, ?_⟩
    · refine iff_of_false Bool.false_ne_true fun ⟨hb, hn, _⟩ => ?_
      exact h.elim hb fun hle => Nat.not_le.2 hn hle
    · rw [if_pos]
      · rfl
      · by_cases h0 : A.length = 0
        · refine .inr (h.elim (fun hb => ?_) fun hle => ?_)
          · rw [hb, List.length_eq_zero_iff.1 h0] at hne
            exact absurd rfl hne
          · rw [h0] at hle
            exact Nat.le_zero.1 hle
        · exact .inl h0
  | busy hb hn hf =>
    refine ⟨.busyStop, false, rfl, iff_of_false Bool.false_ne_true fun ⟨_, _, h⟩ => h hf, fun h => (Bool.false_ne_true h).elim, ?_⟩
    have hbatch : s.params.releaseBatch ≠ 0 := Nat.ne_of_gt (Nat.zero_lt_of_lt hn)
    rw [walkOutcome, if_pos hf]
    by_cases h0 : A.length = 0 <;> simp [h0, hbatch, DisplayOutcome.code]
  | quota hb hn hf hd =>
    refine ⟨.quotaStop, true, rfl, iff_of_true rfl ⟨hb ▸ List.cons_ne_nil _ _, hn, Nat.not_le.2 hf⟩, fun _ j hj => ?_, ?_⟩
    · rw [hb] at hj
      rw [← Option.some.inj hj]
      exact hd
    · have hbatch : s.params.releaseBatch ≠ 0 := Nat.ne_of_gt (Nat.zero_lt_of_lt hn)
      rw [walkOutcome, if_neg (Nat.not_le.2 hf)]
      by_cases h0 : A.length = 0 <;> simp [h0, hbatch, DisplayOutcome.code]

end Sys2Proof.Machine
end

section
/-!
PROOFS. RELEASE_REQUEST released, as the obligation says it (R93, R95, R138, R140 to R145).
-/

namespace Sys2Proof.Machine

variable {s u v : State} {q owner : Nat} {pr : Printer} {j : Job} {A : List Job} {p : Payload}

theorem candidate_iff_suits (q : Nat) (pr : Printer) (j : Job) : j.candidate q pr = true
    ↔ j.phase = .held ∧ (j.size = .a4 ∨ pr.caps.a3 = true) ∧ (j.target = .specific q ∨ j.target = .floor pr.floor ∨ j.target = .any) := by
  have hsuits : j.target.suits q pr = true ↔ j.target = .specific q ∨ j.target = .floor pr.floor ∨ j.target = .any := by
    cases j.target <;> simp [Target.suits]
  rw [Job.candidate_iff, hsuits]
  exact and_congr_right fun _ => and_comm

theorem onlyJob_all_iff (p : Payload) (j : Job) :
    ((onlyJob p).all fun n => n == j.number) = true ↔ u16 p 3 = 0 ∨ u16 p 3 = j.number := by
  unfold onlyJob
  split
  · next h => simp [h]
  · next h => simp [h]

theorem candidatesAt_eq (s : State) (p : Payload) (pr : Printer) : s.candidatesAt p pr
    = (s.jobsOf (u16 p 0)).filter fun j => decide (j.phase = .held ∧ (u16 p 3 = 0 ∨ u16 p 3 = j.number) ∧ (j.size = .a4 ∨ pr.caps.a3 = true)
      ∧ (j.target = .specific (byteAt p 2) ∨ j.target = .floor pr.floor ∨ j.target = .any)) := by
  refine List.filter_congr fun j _ => Bool.eq_iff_iff.2 ?_
  rw [decide_eq_true_eq, Bool.and_eq_true, candidate_iff_suits, onlyJob_all_iff]
  tauto

theorem grantColour_eq (e : Nat) (pr : Printer) (j : Job) : grantColour e pr j
    = if j.colour = .colour ∧ pr.caps.colour = true ∧ pr.colourUnavailable e = false then .colour else .mono := by
  simp only [grantColour, Bool.not_eq_true']

/-- The jobs released, index by index, when they are the first of the candidates. -/
theorem Walked.releasedAt {cands : List Job} {n i : Nat} (h : Walked s q owner pr (cands.take n) v) (hi : i < n) (hj : cands[i]? = some j) :
    ∃ xy, s.divided owner pr (s.reservedFor owner pr (cands.take i)) j = some xy
      ∧ v.jobAt j.number = some { j with phase := .releasing (s.releaseInfo q pr j xy) } := by
  have hrel := h.released i j (by rw [List.getElem?_take_of_lt hi, hj])
  rwa [List.take_take, Nat.min_eq_left (Nat.le_of_lt hi)] at hrel

/-- Settles O49: the walk by what it keeps after each job, its end by its three reasons. -/
theorem releaseReleasesTheOldestCandidates : Obligations.ReleaseReleasesTheOldestCandidates := by
  intro s p acc pr hs hj hp ha hr hsus hpr hstate hk q suits cands granted duplex cost divided after
  have hsound := jobOrdersSound_iff.1 hj
  have hacc : pr.accepts = true := by simpa [Printer.accepts] using hstate
  have hcands : cands = s.candidatesAt p pr := (candidatesAt_eq s p pr).symm
  have hgranted (j : Job) : granted j = grantColour s.params.emptyLevel pr j := (grantColour_eq _ pr j).symm
  have hcost (j : Job) : cost j = s.releaseCost pr j := by
    simp only [cost, hgranted]
    rfl
  have hdivided (u : State) (j : Job) : divided u j = s.divided (u16 p 0) pr u j := by
    simp only [divided, hcost]
    rfl
  have hafter (i : Nat) : after i = s.reservedFor (u16 p 0) pr (cands.take i) := by
    simp only [after, hdivided]
    rfl
  refine ⟨fun hc => exec_releaseRequest_of_none hs hp ha hr hsus hpr hacc hk (hcands ▸ hc), fun hc => ?_⟩
  obtain ⟨A, B, v, hAB, hwalked, hstops⟩ := (walked_start hsound q (u16 p 0) pr).stops hpr hacc (s.candidatesAt p pr)
    (fun j hj => mem_candidatesAt hsound hj) (nodup_candidatesAt hsound p pr)
  rw [List.nil_append, ← hcands] at hAB
  obtain ⟨e, b, hend, hb, hrefused, hcode⟩ := hstops.outcome (hAB ▸ hc)
  rw [← hcands] at hend
  have hA : A = cands.take A.length := by rw [hAB, List.take_left]
  have hlen : A.length + B.length = cands.length := by rw [hAB, List.length_append]
  have hleft : B ≠ [] ↔ A.length < cands.length := by
    rw [← List.length_pos_iff]
    omega
  have hexec := exec_releaseRequest_of_walk hs hp ha hr hsus hpr hacc hk (hcands ▸ hc) (hcands ▸ hend)
  rw [hcode, ← hcands] at hexec
  have hnumbers : (cands.take A.length).map Job.number = A.map Job.number := by rw [← hA]
  have hbank : v.bank = (after A.length).bank := by rw [hafter, ← hA, hwalked.frame]
  refine ⟨marked (u16 p 0) b v, A.length, List.mem_range.2 (by omega), ?_⟩
  intro full refused released outcome
  have hrefusal : refused ↔ b = true := by rw [hb, hleft]
  have hframe := marked_frame (u16 p 0) b v
  have hstore : (marked (u16 p 0) b v).store = v.store := by rw [hframe]
  have hrelease : (marked (u16 p 0) b v).release = v.release := by rw [hframe]
  have hat (m : Nat) : (marked (u16 p 0) b v).jobAt m = v.jobAt m := by rw [hframe]; rfl
  have hexhausted {a : Account} (h : v.bank.accounts.get? (u16 p 0) = some a) : a.exhausted = acc.exhausted := by
    have hkeep := exhausted_reservedFor (owner := u16 p 0) s pr A
    rw [hA, ← hafter, ← hbank, h, ha] at hkeep
    exact Option.some.inj hkeep
  refine ⟨hexec, ?frame, hwalked.batch, hwalked.few, fun hrf j hj => ?refused, fun i hi j hj => ?released, ?store, ?unphased,
    fun j hj hn => ?others, ?release, ?bank, fun m hm => ?accounts, fun a ha => ?owner, ?cause⟩
  case frame =>
    rw [hframe, hwalked.frame]
  case refused =>
    rw [hdivided, hafter, ← hA]
    refine hrefused (hrefusal.1 hrf) j ?_
    rw [hAB, List.getElem?_append_right (Nat.le_refl _), Nat.sub_self] at hj
    rwa [List.head?_eq_getElem?]
  case released =>
    obtain ⟨xy, hxy, hjob⟩ := (hA ▸ hwalked : Walked s q (u16 p 0) pr (cands.take A.length) v).releasedAt (List.mem_range.1 hi) hj
    refine ⟨xy, by rw [hdivided, hafter, hxy]; rfl, _, by rw [hat, hjob]; rfl, ?_⟩
    rw [hgranted, hcost]
    rfl
  case store =>
    simp only [released, hnumbers]
    rw [hstore, ← hwalked.store]
  case unphased =>
    rw [hstore]
    exact hwalked.unphased
  case others =>
    rw [hstore]
    exact hwalked.others j hj (hnumbers ▸ hn)
  case release =>
    simp only [released, hnumbers]
    rw [hrelease, hwalked.release]
  case bank => rw [hframe, hbank]
  case accounts =>
    rw [get?_marked_ne b hm, hbank, hafter, get?_reservedFor_ne s pr _ hm]
  case owner =>
    rw [get?_marked_self b (hbank ▸ ha), Bool.eq_iff_iff.2 (hrefusal.symm.trans decide_eq_true_iff.symm)]
  case cause =>
    obtain ⟨a, hown⟩ : ∃ a, v.bank.accounts.get? (u16 p 0) = some a := by
      have hkeep := exhausted_reservedFor (owner := u16 p 0) s pr A
      rw [hA, ← hafter, ← hbank, ha] at hkeep
      obtain ⟨a, h, -⟩ := Option.map_eq_some_iff.1 hkeep
      exact ⟨a, h⟩
    have hport : v.port = s.port := by rw [hwalked.frame]
    rw [hasCause_marked b hown, hexhausted hown, hasCause_of_port hport, hrefusal]
    simp

end Sys2Proof.Machine
end

section
/-!
PROOFS. The frames of the port (R169, R170): reading a frame and writing one, by the table of request codes of section 11.2.
-/

namespace Sys2Proof

open Machine

variable {i : Instr} {code : Byte} {p q : Payload} {f : List Byte} {n : Nat}

/-! ### The table of request codes, row by row (section 11.2) -/

/-- The row of a code is the request of that code. -/
theorem request?_of_requestOf (h : requestOf n p = some i) : i.request? = some (BitVec.ofNat 8 n, p) := by
  unfold requestOf at h
  split at h <;> cases h <;> rfl

/-- A request is in the row of its code, and no row has the code 0. -/
theorem requestOf_of_request? (h : i.request? = some (code, p)) : requestOf code.toNat p = some i ∧ code ≠ 0 := by
  cases i <;> cases h <;> exact ⟨rfl, by decide⟩

theorem requestOf_eq_some_iff : requestOf code.toNat p = some i ↔ i.request? = some (code, p) := by
  refine ⟨fun h => ?_, fun h => (requestOf_of_request? h).1⟩
  have hrow := request?_of_requestOf h
  rwa [BitVec.ofNat_toNat, BitVec.setWidth_eq] at hrow

theorem requestOf_isSome_of_some (h : requestOf n q = some i) (p : Payload) : (requestOf n p).isSome = true := by
  unfold requestOf at h
  split at h <;> cases h <;> rfl

/-- Whether a code has a row does not depend on the payload. -/
theorem isRequestCode_eq (code : Byte) (p : Payload) : isRequestCode code = (requestOf code.toNat p).isSome := by
  refine Bool.eq_iff_iff.2 ⟨fun h => ?_, fun h => ?_⟩ <;> obtain ⟨i, hi⟩ := Option.isSome_iff_exists.1 h
  · exact requestOf_isSome_of_some hi p
  · exact requestOf_isSome_of_some hi []

/-! ### Requests as well-formed commands -/

theorem wellFormed_of_request? (h : i.request? = some (code, p)) : i.wellFormed = decide (p.length ≤ Config.payloadMax) := by
  unfold Instr.wellFormed
  split <;> try cases h
  rw [h]

theorem encodeFrame_of_request? (h : i.request? = some (code, p)) : encodeFrame i = some (frameOf code p) := by
  unfold encodeFrame
  split <;> try cases h
  rw [h]
  rfl

/-- A command with a frame is one of the three rows that are no request, or a request. -/
theorem encodeFrame_cases (h : encodeFrame i = some f) :
    (∃ code p, i = .unknownRequest code p ∧ f = frameOf code p) ∨ i = .malformedRequestFrame f ∨ i = .earlyRequest f
    ∨ ∃ code p, i.request? = some (code, p) ∧ f = frameOf code p := by
  unfold encodeFrame at h
  split at h
  · next code p => exact .inl ⟨code, p, rfl, (Option.some.inj h).symm⟩
  · next frame => exact .inr (.inl (congrArg _ (Option.some.inj h)))
  · next frame => exact .inr (.inr (.inl (congrArg _ (Option.some.inj h))))
  · obtain ⟨⟨code, p⟩, hr, hf⟩ := Option.map_eq_some_iff.1 h
    exact .inr (.inr (.inr ⟨code, p, hr, hf.symm⟩))

/-! ### Well-formed frames (R169) -/

theorem isRequestFrame_frameOf (code : Byte) (p : Payload) : isRequestFrame (frameOf code p) = (code != 0) := rfl

theorem wellFormedFrame_frameOf (h : p.length ≤ Config.payloadMax) (code : Byte) : wellFormedFrame (frameOf code p) = true := by
  have hlt : p.length < 256 := Nat.lt_of_le_of_lt h (by decide)
  simp [wellFormedFrame, frameOf, Nat.mod_eq_of_lt hlt, h]

/-- A well-formed frame is the frame of its code and payload. -/
theorem wellFormedFrame_iff : wellFormedFrame f = true ↔ ∃ code p, f = frameOf code p ∧ p.length ≤ Config.payloadMax := by
  refine ⟨fun h => ?_, fun ⟨code, p, hf, hp⟩ => hf ▸ wellFormedFrame_frameOf hp code⟩
  match f, h with
  | code :: n :: p, h =>
    obtain ⟨hn, hp⟩ : n.toNat ≤ Config.payloadMax ∧ p.length = n.toNat := by simpa [wellFormedFrame] using h
    refine ⟨code, p, ?_, hp ▸ hn⟩
    rw [frameOf, hp, BitVec.ofNat_toNat, BitVec.setWidth_eq]

theorem decodeFrame_of_malformed (h : isRequestFrame f = true) (hw : wellFormedFrame f = false) :
    decodeFrame f = some (.malformedRequestFrame f) := by
  unfold decodeFrame
  rw [h, hw]
  rfl

theorem decodeFrame_frameOf (hc : code ≠ 0) (hp : p.length ≤ Config.payloadMax) :
    decodeFrame (frameOf code p) = some ((requestOf code.toNat p).getD (.unknownRequest code p)) := by
  unfold decodeFrame
  rw [isRequestFrame_frameOf, wellFormedFrame_frameOf hp, bne_iff_ne.2 hc]
  rfl

/-- Settles O11: a frame is no request frame, malformed, or the frame of a code and a payload, which has a row or has none. -/
theorem frameReadingInvertsFrameWriting : Obligations.FrameReadingInvertsFrameWriting := by
  intro f i
  constructor
  · intro h
    cases hr : isRequestFrame f with
    | false =>
      unfold decodeFrame at h
      rw [hr] at h
      cases h
    | true =>
      cases hw : wellFormedFrame f with
      | false =>
        rw [decodeFrame_of_malformed hr hw] at h
        obtain rfl := Option.some.inj h
        exact ⟨by simp [Instr.wellFormed, hr, hw], rfl, nofun⟩
      | true =>
        obtain ⟨code, p, rfl, hp⟩ := wellFormedFrame_iff.1 hw
        have hc : code ≠ 0 := bne_iff_ne.1 hr
        rw [decodeFrame_frameOf hc hp, Option.some.injEq] at h
        cases hrow : requestOf code.toNat p with
        | none =>
          rw [hrow, Option.getD_none] at h
          subst h
          exact ⟨by rw [Instr.wellFormed, bne_iff_ne.2 hc, isRequestCode_eq code p, hrow, decide_eq_true hp]; rfl, rfl, nofun⟩
        | some j =>
          rw [hrow, Option.getD_some] at h
          subst h
          have hreq := requestOf_eq_some_iff.1 hrow
          exact ⟨by rw [wellFormed_of_request? hreq, decide_eq_true hp], encodeFrame_of_request? hreq, fun e he => by rw [he] at hreq; cases hreq⟩
  · rintro ⟨hwf, henc, hearly⟩
    obtain ⟨code, p, rfl, rfl⟩ | rfl | rfl | ⟨code, p, hreq, rfl⟩ := encodeFrame_cases henc
    · obtain ⟨⟨hc, hrow⟩, hp⟩ : (code ≠ 0 ∧ isRequestCode code = false) ∧ p.length ≤ Config.payloadMax := by
        simpa [Instr.wellFormed] using hwf
      rw [isRequestCode_eq code p, Option.isSome_eq_false_iff, Option.isNone_iff_eq_none] at hrow
      rw [decodeFrame_frameOf hc hp, hrow, Option.getD_none]
    · obtain ⟨hr, hw⟩ : isRequestFrame f = true ∧ wellFormedFrame f = false := by simpa [Instr.wellFormed] using hwf
      exact decodeFrame_of_malformed hr hw
    · exact absurd rfl (hearly f)
    · obtain ⟨hrow, hc⟩ := requestOf_of_request? hreq
      rw [wellFormed_of_request? hreq, decide_eq_true_eq] at hwf
      rw [decodeFrame_frameOf hc hwf, hrow, Option.getD_some]

end Sys2Proof
end

section
/-!
PROOFS. The responses of the port (R169, R170, R173): every response a request forms has a payload that a frame carries.
-/

namespace Sys2Proof.Machine

variable {s t : State} {p l : Payload} {n : Nat}

/-! ### Replies whose payload a frame carries -/

/-- The payload of a reply has at most 60 bytes. -/
def Carried : Reply → Prop
  | .error r => r.payload.length ≤ 60
  | .ok x => x.2.length ≤ 60

@[simp] theorem carried_refuse (st : Status) : Carried (refuse st) := Nat.zero_le _
@[simp] theorem carried_badField (i : Nat) : Carried (badField i) := by simp [Carried, badField]
@[simp] theorem carried_badEntry (i j : Nat) : Carried (badEntry i j) := by simp [Carried, badEntry]
@[simp] theorem carried_notFound (i : Nat) : Carried (notFound i) := by simp [Carried, notFound]
@[simp] theorem carried_existsAt (i : Nat) : Carried (existsAt i) := by simp [Carried, existsAt]
@[simp] theorem carried_okay (s : State) (l : Payload) : Carried (okay s l) ↔ l.length ≤ 60 := Iff.rfl

/-- A check carries what its refusal and the rest behind it carry. -/
@[simp] theorem carried_ite {c : Prop} [Decidable c] {a b : Reply} : Carried (if c then a else b) ↔ (c → Carried a) ∧ (¬ c → Carried b) := by
  split <;> simp [*]

theorem carried_within {body : Payload → State → Reply} (h : Carried (body p s)) : Carried (within body p s) := by
  simp [within, h]

theorem carried_responseOf {rep : Reply} (h : Carried rep) (code : Byte) : (responseOf code rep).payload.length ≤ 60 := by
  cases rep <;> exact h

/-! ### The lengths of the records as the reads give them (section 11.6) -/

@[simp] theorem length_releaseFields (o : Option ReleaseInfo) : (releaseFields o).length = 19 := by
  cases o <;> simp [releaseFields]

@[simp] theorem length_messageField (o : Option Message) : (messageField o).length = 7 := by
  cases o <;> simp [messageField, Message.bytes]

theorem length_statusPayload (s : State) : (statusPayload s).length = 8 := by simp [statusPayload]

theorem length_countersPayload (s : State) : (countersPayload s).length = 36 := by
  simp [countersPayload, List.length_flatten, Function.comp_def]

theorem length_printerPayload (s : State) (n : Nat) (pr : Printer) : (printerPayload s n pr).length = 42 + pr.slots.length := by
  simp [printerPayload, List.length_flatten, Function.comp_def]
  omega

theorem length_cartridges (l : List Cartridge) : (l.mapIdx cartridgePayload).flatten.length = 13 * l.length := by
  have hsum : ((l.mapIdx cartridgePayload).map List.length) = List.replicate l.length 13 := by
    refine List.ext_getElem (by simp) fun i h₁ h₂ => ?_
    simp [cartridgePayload]
  rw [List.length_flatten, hsum, List.sum_replicate, smul_eq_mul, Nat.mul_comm]

theorem length_ticketPayload (n : Nat) (k : Ticket) : (ticketPayload n k).length = 17 + 2 * k.causes.length := by
  simp [ticketPayload, List.length_flatten, Function.comp_def]
  omega

theorem length_typePayload (s : State) (n : Nat) : (typePayload s n).length = 16 := by simp [typePayload]

theorem length_reqPayload (n : Nat) (r : Requisition) : (reqPayload n r).length = 11 := by simp [reqPayload]

theorem length_accountPayload (s : State) (n : Nat) (a : Account) : (accountPayload s n a).length = 33 := by simp [accountPayload]

theorem length_stationPayload (s : State) (n : Nat) : (stationPayload s n).length = 39 := by simp [stationPayload]

theorem length_linePayload (l : Line) : (linePayload l).length = 13 := by simp [linePayload]

theorem length_decisionPayload (m : Message) : (decisionPayload m).length = 6 := by simp [decisionPayload]

theorem length_takePayload (j : Job) (r : ReleaseInfo) : (takePayload j r).length = 11 := by simp [takePayload]

end Sys2Proof.Machine
end

section
/-!
PROOFS. Every reply of a block fits a frame (R169, R173), block by block.
-/

namespace Sys2Proof.Machine

variable {s t : State} {p l : Payload} {n : Nat}

theorem carried_port (p : Payload) (s : State) : Carried (statusRead p s) ∧ Carried (statusClear p s) ∧ Carried (maskSet p s)
    ∧ Carried (paramSet p s) ∧ Carried (paramRead p s) ∧ Carried (countersRead p s) ∧ Carried (countersClear p s) := by
  refine ⟨?_, ?_, ?_, ?param, ?read, ?_, ?_⟩
  case param =>
    unfold paramSet
    cases ParamId.ofNumber? (u16 p 0) <;> simp
  case read =>
    unfold paramRead
    cases ParamId.ofNumber? (u16 p 0) <;> simp
  all_goals simp [statusRead, statusClear, maskSet, countersRead, countersClear, length_statusPayload, length_countersPayload]

theorem carried_time (p : Payload) (s : State) : Carried (timeSet p s) ∧ Carried (timeRead p s) := by
  simp [timeSet, timeRead, lastSweptField, sweepStateField]

theorem carried_printers (p : Payload) (s : State) : Carried (printerAdd p s) ∧ Carried (printerSet p s) ∧ Carried (printerRetire p s)
    ∧ Carried (statusReport p s) := by
  refine ⟨?add, ?set, ?retire, ?report⟩
  case add =>
    simp only [printerAdd]
    cases firstBad (· ≤ 63) (listAt p 5 (byteAt p 4)) <;> simp
  case set =>
    simp only [printerSet]
    cases s.printers.get? (byteAt p 0) with
    | none => simp
    | some pr => cases firstBad (· ≤ 63) (listAt p 5 (p.length - 5)) <;> simp
  case retire =>
    simp only [printerRetire]
    cases s.printers.get? (byteAt p 0) <;> simp
  case report =>
    simp only [statusReport]
    cases s.printers.get? (byteAt p 0) with
    | none => simp
    | some pr => cases firstBad (· ≤ 8) (listAt p 3 (byteAt p 1)) <;> simp

/-- The reads of a printer and of its cartridges, with at most four slots (R7). -/
theorem carried_printerReads (h : ∀ e ∈ s.printers, e.2.slots.length ≤ 4) (p : Payload) :
    Carried (printerRead p s) ∧ Carried (cartridgeRead p s) := by
  unfold printerRead cartridgeRead
  cases hp : s.printers.get? (byteAt p 0) with
  | none => simp
  | some pr =>
    have hslots : pr.slots.length ≤ 4 := h _ (Table.mem_of_get? hp)
    have hread : 42 + pr.slots.length ≤ 60 := by omega
    have hcartridges : 13 * pr.slots.length ≤ 60 := by omega
    simp [length_printerPayload, length_cartridges, hread, hcartridges, -List.length_flatten]

theorem carried_cartridges (p : Payload) (s : State) : Carried (cartridgeSwapped p s) ∧ Carried (cartridgeSeed p s) := by
  unfold cartridgeSwapped cartridgeSeed
  cases s.printers.get? (byteAt p 0) with
  | none => simp
  | some pr =>
    dsimp only
    cases pr.slots[byteAt p 1]? <;> simp

theorem carried_ticketRequests (p : Payload) (s : State) : Carried (ticketAck p s) ∧ Carried (ticketClose p s) := by
  unfold ticketAck ticketClose
  cases s.callout.tickets.get? (u16 p 0) <;> simp

/-- The reads of a ticket, with at most twelve causes (R31). -/
theorem carried_ticketReads (h : ∀ e ∈ s.callout.tickets, e.2.causes.length ≤ 12) (p : Payload) :
    Carried (ticketRead p s) ∧ Carried (ticketNext p s) := by
  constructor
  · unfold ticketRead
    cases hk : s.callout.tickets.get? (u16 p 0) with
    | none => simp
    | some k =>
      have hcauses : k.causes.length ≤ 12 := h _ (Table.mem_of_get? hk)
      have hread : 17 + 2 * k.causes.length ≤ 60 := by omega
      simp [length_ticketPayload, hread]
  · unfold ticketNext
    cases hk : s.callout.tickets.above (u16 p 0) with
    | none => simp
    | some e =>
      have hcauses : e.2.causes.length ≤ 12 := h e (List.mem_of_find?_eq_some hk)
      have hread : 17 + 2 * e.2.causes.length ≤ 60 := by omega
      simp [length_ticketPayload, hread]

theorem carried_types (p : Payload) (s : State) : Carried (typeSet p s) ∧ Carried (typeRead p s) := by
  constructor
  · simp only [typeSet, undefineType]
    cases shelfAfter (byteAt p 6) (i16 p 7) (((s.stock.types.get? (byteAt p 0)).map fun o => o.shelf).getD 0) <;> simp
  · simp [typeRead, length_typePayload]

theorem carried_requisitions (p : Payload) (s : State) : Carried (reqConfirm p s) ∧ Carried (reqReceive p s) ∧ Carried (reqCancel p s)
    ∧ Carried (reqRead p s) ∧ Carried (reqNext p s) := by
  refine and_assoc.1 (and_assoc.1 (and_assoc.1 ⟨?number, ?next⟩))
  case number =>
    unfold reqConfirm reqReceive reqCancel reqRead
    cases s.stock.reqs.get? (u16 p 0) <;> simp [length_reqPayload]
  case next =>
    unfold reqNext
    cases s.stock.reqs.above (u16 p 0) <;> simp [length_reqPayload]

theorem carried_accounts (p : Payload) (s : State) : Carried (accountAdd p s) ∧ Carried (accountSet p s) ∧ Carried (accountRead p s)
    ∧ Carried (accountFindBadge p s) ∧ Carried (accountAdjust p s) ∧ Carried (accountRetire p s) := by
  refine ⟨?add, ?set, ?read, ?find, ?_⟩
  case add =>
    unfold accountAdd
    cases s.tokenHolder (u16 p 0) (tokenField (word p 2)) <;> simp
  case set =>
    unfold accountSet
    cases s.bank.accounts.get? (u16 p 0) with
    | none => simp
    | some a => cases s.tokenHolder (u16 p 0) (tokenField (word p 2)) <;> simp
  case read =>
    unfold accountRead
    cases s.bank.accounts.get? (u16 p 0) <;> simp [length_accountPayload]
  case find =>
    unfold accountFindBadge
    cases s.badge (word p 0) <;> simp [length_accountPayload]
  unfold accountAdjust accountRetire
  cases s.bank.accounts.get? (u16 p 0) <;> simp

theorem carried_groups (p : Payload) (s : State) : Carried (groupSet p s) ∧ Carried (groupRead p s) ∧ Carried (priceSet p s) := by
  refine ⟨?set, by simp [groupRead], by simp [priceSet]⟩
  simp only [groupSet]
  cases poolAfter (byteAt p 1) (i32 p 2) (s.groupAt (byteAt p 0)).pool <;> simp

theorem carried_okayJob (s : State) (j : Job) : Carried (okayJob s j) := by simp [okayJob, length_jobPayload]

theorem carried_jobs (p : Payload) (s : State) : Carried (jobSubmit p s) ∧ Carried (jobCancel p s) ∧ Carried (jobRead p s)
    ∧ Carried (jobNextOf p s) := by
  refine ⟨?submit, ?cancel, ?read, ?next⟩
  case submit =>
    unfold jobSubmit
    cases s.bank.accounts.get? (u16 p 0) <;> simp
  case cancel =>
    unfold jobCancel
    cases s.jobAt (u16 p 0) with
    | none => simp
    | some j =>
      dsimp only
      cases j.phase <;> simp
  case read =>
    unfold jobRead
    cases s.jobAt (u16 p 0) <;> simp [carried_okayJob]
  case next =>
    unfold jobNextOf
    cases walkFrom (u16 p 2) (s.jobsOf (u16 p 0)) with
    | none => simp
    | some js => cases js <;> simp [carried_okayJob]

theorem carried_loadPiece (total : Nat) (got : List Nat) (s : State) : Carried (loadPiece total got s) := by simp [loadPiece]

theorem carried_line (p : Payload) (s : State) : Carried (stationSet p s) ∧ Carried (stationRead p s) ∧ Carried (calendarSet p s)
    ∧ Carried (lineSet p s) := by
  refine ⟨?set, by simp [stationRead, length_stationPayload], ?calendar, ?line⟩
  case set =>
    unfold stationSet
    cases AcceptMode.ofCode? (byteAt p 3) <;> simp
  case calendar =>
    simp only [calendarSet]
    cases firstBad isStation (listAt p 3 (p.length - 3)) with
    | some j => simp
    | none => cases s.line.continued (byteAt p 0) (u16 p 1) <;> simp [carried_loadPiece]
  case line =>
    unfold lineSet
    cases LineRate.ofBaud? (u32 p 2) <;> simp [length_linePayload]

theorem carried_release (p : Payload) (s : State) : Carried (releaseRequest p s) ∧ Carried (dispatchTake p s) ∧ Carried (jobDone p s) := by
  refine ⟨?request, ?take, ?done⟩
  case request =>
    simp only [releaseRequest]
    cases s.bank.accounts.get? (u16 p 0) <;> simp [length_decisionPayload]
  case take =>
    unfold dispatchTake
    cases s.release.dispatch with
    | nil => simp
    | cons n rest =>
      dsimp only
      cases s.jobAt n with
      | none => simp
      | some j =>
        dsimp only
        cases j.phase <;> simp [length_takePayload]
  case done =>
    unfold jobDone
    cases s.jobAt (u16 p 0) with
    | none => simp
    | some j =>
      dsimp only
      cases j.phase <;> simp

end Sys2Proof.Machine
end

section
/-!
PROOFS. Refusals and payloads (R169 to R171, R173): what every request answers, by the block that owns it.
-/

namespace Sys2Proof.Machine

variable {s t : State} {c : Instr} {code : Byte} {p : Payload} {body : Payload → State → Reply} {n : Nat}

/-- The work of the block that owns a request (R170); none for PORT_RESET, which resets every block (R179), and for what is no
request. -/
def requestBody : Instr → Option (Payload → State → Reply)
  | .statusRead _ => some statusRead
  | .statusClear _ => some statusClear
  | .maskSet _ => some maskSet
  | .paramSet _ => some paramSet
  | .paramRead _ => some paramRead
  | .countersRead _ => some countersRead
  | .countersClear _ => some countersClear
  | .timeSet _ => some timeSet
  | .timeRead _ => some timeRead
  | .printerAdd _ => some printerAdd
  | .printerSet _ => some printerSet
  | .printerRead _ => some printerRead
  | .printerRetire _ => some printerRetire
  | .statusReport _ => some statusReport
  | .ticketAck _ => some ticketAck
  | .ticketClose _ => some ticketClose
  | .ticketRead _ => some ticketRead
  | .ticketNext _ => some ticketNext
  | .cartridgeRead _ => some cartridgeRead
  | .cartridgeSwapped _ => some cartridgeSwapped
  | .cartridgeSeed _ => some cartridgeSeed
  | .typeSet _ => some typeSet
  | .typeRead _ => some typeRead
  | .reqConfirm _ => some reqConfirm
  | .reqReceive _ => some reqReceive
  | .reqCancel _ => some reqCancel
  | .reqRead _ => some reqRead
  | .reqNext _ => some reqNext
  | .accountAdd _ => some accountAdd
  | .accountSet _ => some accountSet
  | .accountRead _ => some accountRead
  | .accountFindBadge _ => some accountFindBadge
  | .accountAdjust _ => some accountAdjust
  | .accountRetire _ => some accountRetire
  | .groupSet _ => some groupSet
  | .groupRead _ => some groupRead
  | .priceSet _ => some priceSet
  | .jobSubmit _ => some jobSubmit
  | .jobCancel _ => some jobCancel
  | .jobRead _ => some jobRead
  | .jobNextOf _ => some jobNextOf
  | .stationSet _ => some stationSet
  | .stationRead _ => some stationRead
  | .calendarSet _ => some calendarSet
  | .lineSet _ => some lineSet
  | .releaseRequest _ => some releaseRequest
  | .dispatchTake _ => some dispatchTake
  | .jobDone _ => some jobDone
  | _ => none

/-- A request is PORT_RESET or is taken by the block that owns it. -/
theorem exec_request (h : c.request? = some (code, p)) :
    c = .portReset p ∨ ∃ body, requestBody c = some body ∧ ∀ s, exec c s = .next (takeRequest code body p s) := by
  cases c <;> cases h
  case portReset => exact .inl rfl
  all_goals exact .inr ⟨_, rfl, fun _ => rfl⟩

/-- A body refuses a payload that has not the length of its layout (section 11.2). -/
theorem body_of_length (hb : requestBody c = some body) (hn : c.fixedLength = some n) (hp : p.length ≠ n) (s : State) :
    body p s = refuse .badLength := by
  cases c <;> cases hb <;> cases hn <;> exact if_pos hp

/-- Every reply of a block fits a frame. -/
theorem carried_body (hb : requestBody c = some body) (hslots : ∀ e ∈ s.printers, e.2.slots.length ≤ 4)
    (hcauses : ∀ e ∈ s.callout.tickets, e.2.causes.length ≤ 12) (p : Payload) : Carried (body p s) := by
  obtain ⟨hsr, hsc, hms, hps, hpr, hcr, hcc⟩ := carried_port p s
  obtain ⟨hts, htr⟩ := carried_time p s
  obtain ⟨hpa, hpset, hpret, hrep⟩ := carried_printers p s
  obtain ⟨hpread, hcread⟩ := carried_printerReads hslots p
  obtain ⟨hcs, hcseed⟩ := carried_cartridges p s
  obtain ⟨hta, htc⟩ := carried_ticketRequests p s
  obtain ⟨htread, htnext⟩ := carried_ticketReads hcauses p
  obtain ⟨htyset, htyread⟩ := carried_types p s
  obtain ⟨hrc, hrr, hrcancel, hrread, hrnext⟩ := carried_requisitions p s
  obtain ⟨haa, haset, haread, hafind, hadj, haret⟩ := carried_accounts p s
  obtain ⟨hgs, hgr, hprice⟩ := carried_groups p s
  obtain ⟨hjs, hjc, hjr, hjn⟩ := carried_jobs p s
  obtain ⟨hss, hstr, hcal, hls⟩ := carried_line p s
  obtain ⟨hrel, htake, hdone⟩ := carried_release p s
  cases c <;> cases hb <;> with_reducible assumption

/-- A request in a receptive state is answered by its block, PORT_RESET with an empty payload apart. -/
theorem exec_request_of_receptive (hs : s.Receptive) (h : c.request? = some (code, p)) (hne : c ≠ .portReset []) :
    (∃ body, requestBody c = some body ∧ exec c s = .next (answer code (within body p s) s))
    ∨ c = .portReset p ∧ exec c s = .next (answer code (refuse .badLength) s) := by
  obtain rfl | ⟨body, hb, he⟩ := exec_request h
  · cases h
    refine .inr ⟨rfl, ?_⟩
    have hp : p.length ≠ 0 := fun h0 => hne (by rw [List.length_eq_zero_iff.1 h0])
    simp only [exec, execPortReset, asEvent_of_settled hs.settled, atPort_of_receptive hs, if_neg hp]
  · exact .inl ⟨body, hb, by rw [he, takeRequest_of_receptive hs]⟩

/-- The answer to a reply forms its response, and a refusal does nothing else. -/
theorem answer_forms (code : Byte) (rep : Reply) (s : State) :
    (answer code rep s).port.phase = .working (responseOf code rep) ∧ (responseOf code rep).code = code
    ∧ ((responseOf code rep).status ≠ .ok →
        answer code rep s = { s with port := { s.port with phase := .working (responseOf code rep) } }) := by
  cases rep with
  | error r => exact ⟨rfl, rfl, fun _ => rfl⟩
  | ok x => exact ⟨rfl, rfl, fun h => absurd rfl h⟩

/-- Settles O10: the frames that are no request, the lengths by the layout, the answers by the block that owns the request. -/
theorem refusalsChangeNoStateAndFitTheFrame : Obligations.RefusalsChangeNoStateAndFitTheFrame := by
  refine ⟨fun s c hs => ⟨?unknown, ?malformed, ?length⟩, fun s c code p hs h hne => ?answered, fun s t c r hs hc hslots hcauses he hr => ?short⟩
  case unknown =>
    rintro code p rfl hwf
    obtain ⟨⟨hzero, hunknown⟩, hp⟩ : (code ≠ 0 ∧ isRequestCode code = false) ∧ p.length ≤ Config.payloadMax := by
      simpa [Instr.wellFormed] using hwf
    have hnot : ¬ (code = 0 ∨ isRequestCode code = true) := not_or.2 ⟨hzero, Bool.eq_false_iff.1 hunknown⟩
    simp only [exec, execUnknownRequest, if_neg hnot, takeRequest_of_receptive hs, within_of_le hp, answer_refuse]
  case malformed =>
    rintro frame rfl hwf
    have hframe : (isRequestFrame frame && !wellFormedFrame frame) = true := hwf
    simp only [exec, execMalformedRequestFrame, if_pos hframe, asEvent_of_settled hs.settled, atPort_of_receptive hs, answer_refuse]
  case length =>
    rintro ⟨code, p⟩ h n hn hp
    obtain hne | rfl := (em (c = .portReset [])).symm
    · obtain ⟨body, hb, he⟩ | ⟨-, he⟩ := exec_request_of_receptive hs h hne
      · rw [he]
        by_cases h60 : p.length ≤ 60
        · rw [within_of_le h60, body_of_length hb hn hp, answer_refuse]
        · rw [within_of_gt (Nat.lt_of_not_le h60), answer_refuse]
      · rw [he, answer_refuse]
    · cases h
      cases hn
      exact absurd rfl hp
  case answered =>
    obtain ⟨body, -, he⟩ | ⟨-, he⟩ := exec_request_of_receptive hs h hne
    · exact ⟨_, _, he, answer_forms code _ s⟩
    · exact ⟨_, _, he, answer_forms code _ s⟩
  case short =>
    obtain ⟨⟨code, p⟩, h⟩ := Option.isSome_iff_exists.1 hc
    have hfits {rep : Reply} (hrep : Carried rep) (hans : exec c s = .next (answer code rep s)) : r.payload.length ≤ 60 := by
      obtain rfl := Host.Outcome.next.inj (he.symm.trans hans)
      rw [(answer_forms code rep s).1, PortPhase.working.injEq] at hr
      exact hr ▸ carried_responseOf hrep code
    obtain hne | rfl := (em (c = .portReset [])).symm
    · obtain ⟨body, hb, hans⟩ | ⟨-, hans⟩ := exec_request_of_receptive hs h hne
      · exact hfits (carried_within (carried_body hb hslots hcauses p)) hans
      · exact hfits (carried_refuse _) hans
    · have hreset : exec (.portReset []) s = .next (beginPortReset s) := by
        simp only [exec, execPortReset, asEvent_of_settled hs.settled, atPort_of_receptive hs, List.length_nil, if_true]
      obtain rfl := Host.Outcome.next.inj (he.symm.trans hreset)
      cases hr

end Sys2Proof.Machine
end

section
/-!
PROOFS. Frames of the station line and the levels of its characters (R117, R118, R121).
-/

namespace Sys2Proof.Machine

variable {x y : Nat} {a b kind e f : Byte} {payload rest : List Byte} {s : State}

/-! ### The judgment of characters (R121) -/

/-- Characters up to the CRC of a payload of at most 8 bytes are judged in this order. -/
theorem judgeReply_of_payload (h : payload.length ≤ 8) :
    judgeReply x (a :: b :: kind :: BitVec.ofNat 8 payload.length :: (payload ++ e :: f :: rest))
      = if a ≠ 0xC3 then .badFrame
        else if [e, f] ≠ crcBytes (b :: kind :: BitVec.ofNat 8 payload.length :: payload) then .badFrame
        else if b.toNat ≠ x then .badFrame
        else kindVerdict kind payload := by
  have hlen : (BitVec.ofNat 8 payload.length).toNat = payload.length := Nat.mod_eq_of_lt (by omega)
  have htake : (payload ++ e :: f :: rest).take payload.length = payload := List.take_left
  have hdrop : ((payload ++ e :: f :: rest).drop payload.length).take 2 = [e, f] := by rw [List.drop_left]; rfl
  rw [judgeReply, hlen, htake, hdrop, if_neg (Nat.not_lt.2 h), if_neg (by simp)]

/-- Characters that end before the CRC of their frame. -/
theorem judgeReply_of_short (h : payload.length ≤ 8) (hr : rest.length < payload.length + 2) :
    judgeReply x (a :: b :: kind :: BitVec.ofNat 8 payload.length :: rest) = .badFrame := by
  have hlen : (BitVec.ofNat 8 payload.length).toNat = payload.length := Nat.mod_eq_of_lt (by omega)
  rw [judgeReply, hlen, if_neg (Nat.not_lt.2 h), if_pos hr]

theorem judgeReply_of_few {l : List Byte} (h : l.length < 4) : judgeReply x l = .badFrame := by
  match l, h with
  | [], _ | [_], _ | [_, _], _ | [_, _, _], _ => rfl

/-- What the CRC of a frame is taken over. -/
def frameBody (x : Nat) (kind : Byte) (payload : List Byte) : List Byte :=
  BitVec.ofNat 8 x :: kind :: BitVec.ofNat 8 payload.length :: payload

theorem lineFrame_eq (x : Nat) (kind : Byte) (payload : List Byte) : lineFrame x kind payload
    = 0xC3 :: BitVec.ofNat 8 x :: kind :: BitVec.ofNat 8 payload.length :: (payload ++ crcBytes (frameBody x kind payload)) := rfl

/-- A frame with any first character, whatever follows it. -/
theorem judgeReply_lineFrame (h : payload.length ≤ 8) (hy : y ≤ 255) (a : Byte) (rest : List Byte) :
    judgeReply x (a :: (lineFrame y kind payload).tail ++ rest)
      = if a ≠ 0xC3 then .badFrame else if y ≠ x then .badFrame else kindVerdict kind payload := by
  have hyn : (BitVec.ofNat 8 y).toNat = y := Nat.mod_eq_of_lt (by omega)
  have hsplit : a :: (lineFrame y kind payload).tail ++ rest = a :: BitVec.ofNat 8 y :: kind :: BitVec.ofNat 8 payload.length
      :: (payload ++ ((crc16 (frameBody y kind payload)) >>> 8).setWidth 8 :: (crc16 (frameBody y kind payload)).setWidth 8 :: rest) := by
    simp [lineFrame_eq, crcBytes]
  rw [hsplit, judgeReply_of_payload h, hyn]
  refine ite_congr rfl (fun _ => rfl) fun _ => ?_
  exact if_neg fun hne => hne rfl

/-- A whole frame is judged by its address, its kind and its shape, whatever follows it. -/
theorem judgeReply_frame (h : payload.length ≤ 8) (hy : y ≤ 255) (rest : List Byte) :
    judgeReply x (lineFrame y kind payload ++ rest) = if y ≠ x then .badFrame else kindVerdict kind payload :=
  (judgeReply_lineFrame h hy 0xC3 rest).trans (if_neg fun hne => hne rfl)

/-- A frame cut short is a bad frame. -/
theorem judgeReply_take (h : payload.length ≤ 8) {n : Nat} (hn : n < (lineFrame y kind payload).length) :
    judgeReply x ((lineFrame y kind payload).take n) = .badFrame := by
  have hlen : (lineFrame y kind payload).length = payload.length + 6 := by simp [lineFrame_eq, crcBytes]
  by_cases h4 : n < 4
  · exact judgeReply_of_few (by rw [List.length_take]; omega)
  · obtain ⟨m, rfl⟩ := Nat.exists_eq_add_of_le' (Nat.not_lt.1 h4)
    rw [lineFrame_eq]
    refine judgeReply_of_short h ?_
    rw [List.length_take]
    omega

theorem kindVerdict_of_other (hi : ¬ (kind = 0x01 ∧ payload = [])) (hp : ¬ (kind = 0x02 ∧ payload.length = 4)) :
    kindVerdict kind payload = .badFrame := by
  rw [kindVerdict, if_neg (by rwa [List.length_eq_zero_iff]), if_neg hp]

/-! ### The levels of characters (R117) -/

theorem lineBits_append (cs ds : List Byte) : lineBits (cs ++ ds) = lineBits cs ++ lineBits ds := by
  simp [lineBits]

/-- Each character stands in its 10 bit times. -/
theorem getElem?_lineBits {cs : List Byte} {i k : Nat} (hb : cs[i]? = some b) (hk : k < 10) :
    (lineBits cs)[10 * i + k]? = (charBits b)[k]? := by
  induction cs generalizing i with
  | nil => simp at hb
  | cons c cs ih =>
    rw [lineBits_cons]
    cases i with
    | zero =>
      obtain rfl : c = b := by simpa using hb
      rw [Nat.mul_zero, Nat.zero_add, List.getElem?_append_left (by simpa using hk)]
    | succ i =>
      rw [List.getElem?_append_right (by simp; omega), length_charBits, ← ih (by simpa using hb)]
      congr 1
      omega

theorem charBits_bit (b : Byte) {j : Nat} (hj : j < 8) : (charBits b)[1 + j]? = some (b.getLsbD j) := by
  rw [charBits, Nat.add_comm, List.cons_append, List.getElem?_cons_succ, List.getElem?_append_left (by simpa using hj), List.getElem?_map,
    List.getElem?_range hj, Option.map_some]

/-- A character is read back from its data bits. -/
theorem byteOfBits_getLsbD (b : Byte) : byteOfBits ((List.range 8).map b.getLsbD) = b := by
  revert b
  decide

theorem readChars_idle (n : Nat) (l : List Bool) : readChars (List.replicate n true ++ l) = readChars l := by
  induction n with
  | zero => rfl
  | succ n ih => rw [List.replicate_succ, List.cons_append, readChars, ih]

theorem readChars_charBits (b : Byte) (l : List Bool) : readChars (charBits b ++ l) = (readChars l).map fun cs => b :: cs := by
  have hread : readChars (charBits b ++ l) = (readChars l).map fun cs => byteOfBits ((List.range 8).map b.getLsbD) :: cs := rfl
  rw [hread, byteOfBits_getLsbD]

theorem readChars_lineBits (cs : List Byte) (l : List Bool) : readChars (lineBits cs ++ l) = (readChars l).map fun ds => cs ++ ds := by
  induction cs with
  | nil => exact Option.map_id'.symm
  | cons c cs ih =>
    rw [lineBits_cons, List.append_assoc, readChars_charBits, ih, Option.map_map]
    rfl

/-- Idle before, between and after characters is passed over. -/
theorem readChars_spaced (n m : Nat) (cs rest : List Byte) :
    readChars (List.replicate n true ++ lineBits cs ++ List.replicate m true ++ lineBits rest) = some (cs ++ rest) := by
  have hrest : readChars (lineBits rest) = some rest := by
    have h := readChars_lineBits rest []
    rwa [List.append_nil, readChars, Option.map_some, List.append_nil] at h
  rw [List.append_assoc, List.append_assoc, readChars_idle, readChars_lineBits, readChars_idle, hrest, Option.map_some]

/-! ### TXD (R117) -/

theorem txd_of_idle (h : s.de = false) : s.txd = true := by
  rw [State.de, Line.transmitting] at h
  cases hr : s.inReset with
  | true => rw [State.txd, hr, Bool.true_or]
  | false =>
    rw [hr, Bool.not_false, Bool.and_true] at h
    rw [State.txd, hr, Bool.false_or]
    cases hx : s.line.exchange with
    | none => rfl
    | some ex =>
      have hs : ex.sending = none := by simpa [hx] using h
      rw [Option.all_some, Exchange.level, hs]

theorem txd_of_sending (h : s.de = true) {ex : Exchange} (hx : s.line.exchange = some ex) {k : Nat} (hk : ex.sending = some k) {b : Bool}
    (hb : (lineBits ex.frame)[k / ex.rate.bitPeriods]? = some b) : s.txd = b := by
  rw [State.de, Bool.and_eq_true, Bool.not_eq_true'] at h
  rw [State.txd, h.2, Bool.false_or, hx, Option.all_some, Exchange.level, hk]
  dsimp only
  rw [List.getD_eq_getElem?_getD, hb, Option.getD_some]

/-- Settles O48: a frame by the order of its judgment, the characters by their 10 bit times. -/
theorem lineFramesAreJudgedByTheirContents : Obligations.LineFramesAreJudgedByTheirContents := by
  refine ⟨fun x y a b c d kind payload rest hx hy hp => ?frames, fun cs => ?chars, fun s => ?txd⟩
  case frames =>
    refine ⟨?idle, ?present, fun hne => ?address, fun hi ht => ?kind, fun n hn => judgeReply_take hp hn, fun ha => ?start,
      fun e f hcrc => ?crc, by decide +kernel⟩
    case idle => exact (judgeReply_frame (payload := []) (Nat.zero_le 8) hx rest).trans (if_neg fun h => h rfl)
    case present =>
      have hlen : [a, b, c, d].length ≤ 8 := by simp
      exact (judgeReply_frame hlen hx rest).trans (if_neg fun h => h rfl)
    case address => rw [judgeReply_frame hp hy, if_pos hne]
    case kind =>
      have hwhole := judgeReply_frame (x := x) (kind := kind) hp hx []
      rwa [List.append_nil, if_neg (by simp), kindVerdict_of_other hi ht] at hwhole
    case start => rw [judgeReply_lineFrame hp hx, if_pos ha]
    case crc => rw [judgeReply_of_payload hp, if_neg (by simp), if_pos hcrc]
  case chars =>
    refine ⟨length_lineBits cs, fun i hi b hb => ⟨?_, ?_, fun j hj => ?_⟩, ?_, fun n m rest => readChars_spaced n m cs rest⟩
    · exact getElem?_lineBits (k := 0) hb (by omega)
    · exact getElem?_lineBits (k := 9) hb (by omega)
    · rw [Nat.add_assoc, getElem?_lineBits hb (by omega), charBits_bit b hj]
    · have hread := readChars_spaced 0 0 cs []
      rwa [List.replicate_zero, List.nil_append, List.append_nil, show lineBits [] = [] from rfl, List.append_nil, List.append_nil] at hread
  case txd =>
    intro bitTime
    refine ⟨txd_of_idle, fun h ex hx k hk b hb => txd_of_sending h hx hk ?_⟩
    have hrate : bitTime ex.rate = ex.rate.bitPeriods := by
      cases hr : ex.rate <;> simp only [bitTime, LineRate.bitPeriods]
    rw [← hrate]
    exact hb

end Sys2Proof.Machine
end

section
/-!
PROOFS. The work of a presentation neither reads nor changes the line, the mask word and the transaction state of the port (R139, R40):
it is the same for a RELEASE_REQUEST, a TICKET_ACK and a TICKET_CLOSE.
-/

namespace Sys2Proof.Machine

variable {s t : State} {l : Line} {x : PortPhase} {m : Word}

/-- A state with another line, another transaction state of the port and another mask word. -/
def State.framed (l : Line) (x : PortPhase) (m : Word) (s : State) : State :=
  { s with line := l, port := { s.port with phase := x, mask := m } }

theorem framed_self (s : State) : s.framed s.line s.port.phase s.port.mask = s := rfl

theorem setCauseIf_framed (b : Bool) (c : Cause) (s : State) : setCauseIf b c (s.framed l x m) = (setCauseIf b c s).framed l x m := by
  cases b <;> rfl

/-! ### The release decision -/

theorem addReservation_framed (n u v : Nat) (s : State) : addReservation n u v (s.framed l x m) = (addReservation n u v s).framed l x m := by
  have hbank : (s.framed l x m).bank = s.bank := rfl
  cases h : s.bank.accounts.get? n with
  | none => simp only [addReservation, hbank, h]
  | some a => simp only [addReservation, hbank, h]; rfl

theorem releaseJob_framed (n owner : Nat) (r : ReleaseInfo) (s : State) :
    releaseJob n owner r (s.framed l x m) = (releaseJob n owner r s).framed l x m := by
  rw [releaseJob, addReservation_framed]
  rfl

theorem markExhausted_framed (n : Nat) (s : State) : markExhausted n (s.framed l x m) = (markExhausted n s).framed l x m := by
  rw [markExhausted, markExhausted, ← setCauseIf_framed]
  rfl

/-- A result with the framed state. -/
def framedPair {α : Type} (l : Line) (x : PortPhase) (m : Word) (r : State × α) : State × α := (r.1.framed l x m, r.2)

theorem releaseWalk_framed (q owner : Nat) (pr : Printer) (cands : List Job) (n : Nat) (s : State) :
    releaseWalk q owner pr cands n (s.framed l x m) = framedPair l x m (releaseWalk q owner pr cands n s) := by
  induction cands generalizing n s with
  | nil => rfl
  | cons j js ih =>
    have hparams : (s.framed l x m).params = s.params := rfl
    have hcount : (s.framed l x m).inflightCount q = s.inflightCount q := rfl
    have hoffer : (s.framed l x m).offer q owner pr j = s.offer q owner pr j := rfl
    rw [releaseWalk, releaseWalk, hparams, hcount, hoffer]
    by_cases hb : s.params.releaseBatch ≤ n
    · rw [if_pos hb, if_pos hb]; rfl
    by_cases hf : s.params.printerInflight ≤ s.inflightCount q
    · rw [if_neg hb, if_neg hb, if_pos hf, if_pos hf]; rfl
    rw [if_neg hb, if_neg hb, if_neg hf, if_neg hf]
    cases s.offer q owner pr j with
    | none =>
      simp only [markExhausted_framed]
      rfl
    | some r =>
      simp only [releaseJob_framed]
      exact ih (n + 1) _

theorem releaseAt_framed (q owner : Nat) (pr : Printer) (cands : List Job) (s : State) :
    releaseAt q owner pr cands (s.framed l x m) = framedPair l x m (releaseAt q owner pr cands s) := by
  unfold releaseAt
  rw [releaseWalk_framed]
  split <;> rfl

theorem releaseDecision_framed (owner p : Nat) (redirect : Bool) (only : Option Nat) (s : State) :
    releaseDecision owner p redirect only (s.framed l x m) = framedPair l x m (releaseDecision owner p redirect only s) := by
  have hbank : (s.framed l x m).bank = s.bank := rfl
  have htarget : (s.framed l x m).releaseTarget p redirect = s.releaseTarget p redirect := rfl
  have hprinters : (s.framed l x m).printers = s.printers := rfl
  unfold releaseDecision
  rw [hbank, htarget, hprinters]
  split
  · rfl
  · cases s.releaseTarget p redirect with
    | none => rfl
    | some q =>
      cases hq : s.printers.get? q with
      | none => simp only [hq]; rfl
      | some pr => simp only [hq]; exact releaseAt_framed q owner pr _ s

/-! ### Tickets -/

theorem issueTicket_framed (q : Nat) (s : State) : issueTicket q (s.framed l x m) = (issueTicket q s).framed l x m := by
  have hprinters : (s.framed l x m).printers = s.printers := rfl
  cases h : s.printers.get? q with
  | none => simp only [issueTicket, hprinters, h]
  | some p => simp only [issueTicket, hprinters, h]; rfl

theorem handOver_framed (s : State) : handOver (s.framed l x m) = (handOver s).framed l x m := by
  have hcandidates : handOverCandidates (s.framed l x m) = handOverCandidates s := rfl
  unfold handOver
  rw [hcandidates]
  split
  · rfl
  · exact issueTicket_framed _ s

theorem servicePresentation_framed (q : Nat) (s : State) :
    servicePresentation q (s.framed l x m) = framedPair l x m (servicePresentation q s) := by
  have hticket : (s.framed l x m).ticketOf q = s.ticketOf q := rfl
  unfold servicePresentation
  rw [hticket]
  split
  · rfl
  · split
    · rfl
    · rfl
    · exact congrArg (fun u => (u, _)) (handOver_framed (retireTicket _ s))

/-! ### The decision of a presentation (R128) -/

theorem routePresentation_framed (st : Station) (token : Word) (s : State) :
    routePresentation st token (s.framed l x m) = framedPair l x m (routePresentation st token s) := by
  have hbadge : (s.framed l x m).badge token = s.badge token := rfl
  unfold routePresentation
  rw [hbadge]
  split
  · rfl
  · split
    · rfl
    · split
      · rfl
      · split
        · exact releaseDecision_framed _ _ _ _ { s with release := { s.release with presentations := s.release.presentations + 1 } }
        · exact servicePresentation_framed _ s

/-- A presentation's work sets causes, and changes no more of the port. -/
theorem routePresentation_port (st : Station) (token : Word) (s : State) :
    (routePresentation st token s).1.port = { s.port with sticky := (routePresentation st token s).1.port.sticky } := by
  have h := congrArg (fun r : State × Message => r.1.port) (routePresentation_framed (l := s.line) (x := s.port.phase) (m := s.port.mask) st token s)
  exact h

end Sys2Proof.Machine
end

section
/-!
PROOFS. The end of an exchange (R120 to R123, R125, R127, R132): the station's record, the causes, the presentation and the walk.
-/

namespace Sys2Proof.Machine

variable {s t u : State} {ex : Exchange} {v : Verdict} {st : Station} {a n : Nat} {token : Word} {carried : Option Message}

/-! ### The station's record (R125, R127) -/

/-- The count of bad frames in the noise window with this exchange counted (R127). -/
def Station.badNow (v : Verdict) (st : Station) : Nat := if v = .badFrame then min 255 (st.badCount + 1) else st.badCount

/-- The misses in a row with this exchange counted (R125). -/
def Station.missesNow (v : Verdict) (st : Station) : Nat := if v.good then 0 else min 15 (st.misses + 1)

/-- With this exchange the station becomes LOST (R125). -/
def Station.lostNow (missLimit : Nat) (v : Verdict) (st : Station) : Bool :=
  decide (v.good = false ∧ st.state ≠ .lost ∧ missLimit ≤ st.missesNow v)

/-- With this exchange the noise limit is reached (R127). -/
def Station.noisyNow (limit : Nat) (v : Verdict) (st : Station) : Bool := decide (v = .badFrame ∧ limit ≤ st.badNow v)

theorem Station.counted_eq (v : Verdict) (st : Station) : st.counted v = { st with
    polls := st.polls + 1, good := st.good + (if v.good then 1 else 0), bad := st.bad + (if v = .badFrame then 1 else 0) } := by
  cases v <;> simp [Station.counted, Verdict.good]

theorem Station.enlivened_eq (missLimit : Nat) (v : Verdict) (st : Station) : st.enlivened missLimit v = { st with
    misses := st.missesNow v
    state := if v.good then .alive else if st.lostNow missLimit v then .lost else st.state
    slot := if st.lostNow missLimit v then none else st.slot } := by
  unfold Station.enlivened Station.lostNow Station.missesNow
  cases hv : v.good with
  | true => simp
  | false =>
    by_cases hl : missLimit ≤ min 15 (st.misses + 1) ∧ st.state ≠ .lost
    · simp [hl.1, hl.2]
    · have hnot : ¬ (st.state ≠ .lost ∧ missLimit ≤ min 15 (st.misses + 1)) := fun h => hl h.symm
      simp only [Bool.false_eq_true, if_false, if_neg hl, true_and, decide_eq_true_eq, if_neg hnot]

theorem Station.noised_eq (limit : Nat) (v : Verdict) (st : Station) : st.noised limit v = { st with
    pollCount := if st.pollCount = 255 then 0 else st.pollCount + 1
    badCount := if st.pollCount = 255 then 0 else st.badNow v
    noisy := (st.noisy || st.noisyNow limit v) && (decide (st.pollCount ≠ 255) || decide (limit ≤ st.badNow v)) } := by
  have hnow : st.noisyNow limit v = (v == .badFrame && decide (limit ≤ st.badNow v)) := by
    rw [Station.noisyNow, Bool.decide_and]
    rfl
  by_cases h : st.pollCount = 255
  · simp only [Station.noised, hnow, h, ne_eq, not_true_eq_false, decide_false, Bool.false_or]
    rfl
  · simp only [Station.noised, hnow, h, ne_eq, not_false_eq_true, decide_true, Bool.true_or, Bool.and_true]
    rfl

theorem Station.noisyNow_iff (limit : Nat) (v : Verdict) (st : Station) : st.noisyNow limit v = true ↔ v = .badFrame ∧ limit ≤ st.badNow v := by
  rw [Station.noisyNow, decide_eq_true_eq]

/-- A station that was not noisy becomes so when the limit is reached. -/
theorem Station.noised_noisy (h : st.noisy = false) (limit : Nat) (v : Verdict) : (st.noised limit v).noisy = st.noisyNow limit v := by
  rw [Station.noised_eq]
  cases hb : st.noisyNow limit v with
  | false => simp [h]
  | true => simp [((st.noisyNow_iff limit v).1 hb).2]

theorem Station.delivered_eq (carried : Option Message) (v : Verdict) (st : Station) : st.delivered carried v = { st with
    slot := if v.good = true ∧ carried.isSome = true ∧ st.slot = carried then none else st.slot } := by
  unfold Station.delivered
  simp only [Bool.and_eq_true, beq_iff_eq, and_assoc]
  split <;> rfl

/-- A station's record once an exchange has been judged, before a presentation is taken (R125). -/
def Station.judged (missLimit limit : Nat) (carried : Option Message) (v : Verdict) (st : Station) : Station :=
  (((st.counted v).enlivened missLimit v).noised limit v).delivered carried v

theorem Station.judged_eq (missLimit limit : Nat) (carried : Option Message) (v : Verdict) (st : Station) :
    st.judged missLimit limit carried v = { st with
      polls := st.polls + 1, good := st.good + (if v.good then 1 else 0), bad := st.bad + (if v = .badFrame then 1 else 0)
      misses := st.missesNow v
      state := if v.good then .alive else if st.lostNow missLimit v then .lost else st.state
      pollCount := if st.pollCount = 255 then 0 else st.pollCount + 1
      badCount := if st.pollCount = 255 then 0 else st.badNow v
      noisy := (st.noisy || st.noisyNow limit v) && (decide (st.pollCount ≠ 255) || decide (limit ≤ st.badNow v))
      slot := if v.good = true ∧ carried.isSome = true ∧ (if st.lostNow missLimit v then none else st.slot) = carried then none
        else if st.lostNow missLimit v then none else st.slot } := by
  rw [Station.judged, Station.counted_eq, Station.enlivened_eq, Station.noised_eq, Station.delivered_eq]
  rfl

theorem Station.lostNow_of_good (h : v.good = true) (missLimit : Nat) (st : Station) : st.lostNow missLimit v = false := by
  simp [Station.lostNow, h]

theorem Station.lostNow_iff (missLimit : Nat) (v : Verdict) (st : Station) : st.lostNow missLimit v = true
    ↔ v.good = false ∧ st.state ≠ .lost ∧ missLimit ≤ st.missesNow v := by rw [Station.lostNow, decide_eq_true_eq]

/-! ### The judgment (R125) -/

/-- The state once the record and the two causes of an exchange stand, before a presentation is taken. -/
def judgedState (ex : Exchange) (v : Verdict) (st : Station) (s : State) : State :=
  setCauseIf (!st.noisy && st.noisyNow s.params.noiseLimit v) .stationNoisy
    (setCauseIf (st.lostNow s.params.missLimit v) .stationLost
      (updStation ex.station (fun _ => st.judged s.params.missLimit s.params.noiseLimit ex.carried v) s))

theorem judgeExchange_eq (h : s.line.stations.get? ex.station = some st) (v : Verdict) : judgeExchange ex v s
    = match v with
      | .present token => takePresentation ex.station token (judgedState ex v st s)
      | _ => judgedState ex v st s := by
  have hst : s.stationAt ex.station = st := by rw [State.stationAt, h, Option.getD_some]
  have hlost : (decide (st.state ≠ .lost) && ((st.counted v).enlivened s.params.missLimit v).state == .lost)
      = st.lostNow s.params.missLimit v := by
    have hsame : (st.counted v).lostNow s.params.missLimit v = st.lostNow s.params.missLimit v := by rw [Station.counted_eq]; rfl
    have hstate : (st.counted v).state = st.state := by rw [Station.counted_eq]
    rw [Station.enlivened_eq]
    dsimp only
    rw [hsame, hstate]
    cases hg : v.good with
    | true => simp [Station.lostNow_of_good hg]
    | false =>
      cases hl : st.lostNow s.params.missLimit v with
      | true => simp [((st.lostNow_iff _ v).1 hl).2.1]
      | false => simp
  have hnoisy : (!st.noisy && (((st.counted v).enlivened s.params.missLimit v).noised s.params.noiseLimit v).noisy)
      = (!st.noisy && st.noisyNow s.params.noiseLimit v) := by
    cases hn : st.noisy with
    | true => rfl
    | false =>
      refine (Station.noised_noisy (by rw [Station.enlivened_eq, Station.counted_eq]; exact hn) _ v).trans ?_
      rw [Station.enlivened_eq, Station.counted_eq]
      rfl
  unfold judgeExchange
  rw [hst]
  dsimp only
  rw [hlost, hnoisy]
  cases v <;> rfl

end Sys2Proof.Machine
end

section
/-!
PROOFS. STATION_REPLY, MISS and LATE_REPLY (R120 to R123, R125 to R127, R130, R132): the presentation taken, and the exchange closed.
-/

namespace Sys2Proof.Machine

variable {s t u w : State} {ex : Exchange} {v : Verdict} {st : Station} {a n : Nat} {token : Word}

/-! ### A presentation taken (R126, R128, R130) -/

/-- A station's record with the presentation it has last made. -/
def Station.presented (token now : Word) (st : Station) : Station := { st with last := some (token, now) }

/-- A station's record once a message is posted to it (R129). -/
def Station.posted (m : Message) (st : Station) : Station :=
  if st.state = .alive ∨ st.state = .unknown then { st with slot := some m } else st

theorem takePresentation_of_guarded (h : u.line.stations.get? a = some st) (hg : u.guarded st token = true) :
    takePresentation a token u = updStation a (Station.presented token u.now) u := by
  have hst : u.stationAt a = st := by rw [State.stationAt, h, Option.getD_some]
  unfold takePresentation
  rw [hst]
  exact if_pos hg

/-- The line of a part on which a presentation has been made (R123, R128, R130). -/
def Line.pressed (a : Nat) (token now : Word) (m : Message) (l : Line) : Line :=
  { l with
    stations := (l.stations.modify a (Station.presented token now)).modify a (Station.posted m)
    regime := .full
    quietStamp := now
    gap := none
    answer := some a }

/-- The work of a presentation that the guard lets pass, and the line with its message. -/
theorem takePresentation_of_fresh (h : u.line.stations.get? a = some st) (hg : u.guarded st token = false) :
    takePresentation a token u
      = { (routePresentation st token u).1 with line := u.line.pressed a token u.now (routePresentation st token u).2 } := by
  have hst : u.stationAt a = st := by rw [State.stationAt, h, Option.getD_some]
  have hroute := routePresentation_framed (x := u.port.phase) (m := u.port.mask) (l := { u.line with
    stations := u.line.stations.modify a (Station.presented token u.now), regime := .full, quietStamp := u.now, gap := none }) st token u
  have hport := routePresentation_port st token u
  unfold takePresentation
  rw [hst]
  refine (if_neg (by rw [hg]; exact Bool.false_ne_true)).trans ?_
  dsimp only
  refine (congrArg (fun r : State × Message => { (postMessage a r.2 r.1) with
    line := { (postMessage a r.2 r.1).line with answer := some a } }) hroute).trans ?_
  exact congrArg (fun x : Port => { (routePresentation st token u).1 with
    line := u.line.pressed a token u.now (routePresentation st token u).2, port := x }) hport.symm

/-- What a presentation leaves of the line and the port. -/
structure Presented (a : Nat) (st : Station) (u w : State) : Prop where
  line : w.line = { u.line with
    stations := w.line.stations, gap := w.line.gap, regime := w.line.regime, quietStamp := w.line.quietStamp, answer := w.line.answer }
  port : w.port = { u.port with sticky := w.port.sticky }
  others : ∀ x, x ≠ a → w.line.stations.get? x = u.line.stations.get? x
  self : ∃ slot last, w.line.stations.get? a = some { st with slot := slot, last := last }

theorem presented_refl (h : u.line.stations.get? a = some st) : Presented a st u u := ⟨rfl, rfl, fun _ _ => rfl, st.slot, st.last, h⟩

theorem posted_eq (m : Message) (st : Station) : ∃ slot, st.posted m = { st with slot := slot } := by
  unfold Station.posted
  split
  · exact ⟨_, rfl⟩
  · exact ⟨st.slot, rfl⟩

theorem presented_takePresentation (h : u.line.stations.get? a = some st) (token : Word) : Presented a st u (takePresentation a token u) := by
  cases hg : u.guarded st token with
  | true =>
    rw [takePresentation_of_guarded h hg]
    refine ⟨rfl, rfl, fun x hx => Table.get?_modify_ne _ _ hx, st.slot, some (token, u.now), ?_⟩
    exact (Table.get?_modify_self ..).trans (by rw [h, Option.map_some]; rfl)
  | false =>
    rw [takePresentation_of_fresh h hg]
    refine ⟨rfl, routePresentation_port st token u, fun x hx => ?_, ?_⟩
    · exact (Table.get?_modify_ne _ _ hx).trans (Table.get?_modify_ne _ _ hx)
    · obtain ⟨slot, hs⟩ := posted_eq (routePresentation st token u).2 (st.presented token u.now)
      refine ⟨slot, some (token, u.now), (Table.get?_modify_self ..).trans ?_⟩
      rw [Table.get?_modify_self, h, Option.map_some, Option.map_some, hs]
      rfl

/-! ### The exchange judged and closed (R122, R123, R125) -/

theorem judgedState_line (ex : Exchange) (v : Verdict) (st : Station) (s : State) : (judgedState ex v st s).line
    = { s.line with
        stations := s.line.stations.modify ex.station fun _ => st.judged s.params.missLimit s.params.noiseLimit ex.carried v } := by
  rw [judgedState, setCauseIf_line, setCauseIf_line]
  rfl

theorem setCauseIf_frame (b : Bool) (c : Cause) (s : State) : setCauseIf b c s = { s with port := { s.port with
    sticky := (setCauseIf b c s).port.sticky } } := by
  cases b <;> rfl

theorem judgedState_frame (ex : Exchange) (v : Verdict) (st : Station) (s : State) : judgedState ex v st s
    = { s with
        line := (judgedState ex v st s).line
        port := { s.port with sticky := (judgedState ex v st s).port.sticky } } := by
  rw [judgedState, setCauseIf_frame, setCauseIf_frame]
  rfl

theorem hasCause_judgedState (ex : Exchange) (v : Verdict) (st : Station) (s : State) (x : Cause) : (judgedState ex v st s).hasCause x
    = ((s.hasCause x || (st.lostNow s.params.missLimit v && decide (x = .stationLost)))
      || ((!st.noisy && st.noisyNow s.params.noiseLimit v) && decide (x = .stationNoisy))) := by
  rw [judgedState, hasCause_setCauseIf, hasCause_setCauseIf]
  rfl

/-- The end of an exchange after its judgment: the walk moves and a SPARSE gap begins (R122, R123). -/
def closeExchange (ex : Exchange) (s : State) : State :=
  if ex.answer then s
  else
    let l := if ex.walkFixed then s.line else s.line.advanced
    { s with line := if l.regime = .sparse then { l with gap := some s.params.sparseGap } else l }

/-- The exchange is over on the line. -/
def dropExchange (s : State) : State := { s with line := { s.line with exchange := none } }

theorem endExchange_of_abandoned (h : ex.abandoned = true) (v : Verdict) (s : State) :
    endExchange ex v s = closeExchange ex (dropExchange s) := by
  unfold endExchange
  rw [h]
  rfl

theorem endExchange_of_judged (h : ex.abandoned = false) (v : Verdict) (s : State) :
    endExchange ex v s = closeExchange ex (judgeExchange ex v (dropExchange s)) := by
  unfold endExchange
  rw [h]
  rfl

theorem closeExchange_eq (ex : Exchange) (s : State) : closeExchange ex s = { s with line := { s.line with
    walk := if ex.answer || ex.walkFixed then s.line.walk
      else if s.line.walk + 1 < s.line.calendar.length then s.line.walk + 1 else 0
    gap := if ex.answer = false ∧ s.line.regime = .sparse then some s.params.sparseGap else s.line.gap } } := by
  unfold closeExchange
  cases ex.answer with
  | true => rfl
  | false =>
    cases ex.walkFixed with
    | true =>
      by_cases hr : s.line.regime = .sparse <;> simp [hr]
    | false =>
      by_cases hr : s.line.regime = .sparse <;> simp [hr, Line.advanced]

/-- A row that ends the exchange in progress with a verdict. -/
theorem exec_exchangeEnd {c : Instr} {chars : List Byte} (hs : s.Settled) (hex : s.line.exchange = some ex) (hch : chars ≠ [])
    (hc : (c = .miss ∧ v = .miss) ∨ (c = .lateReply chars ∧ v = .badFrame) ∨ (c = .stationReply chars ∧ v = judgeReply ex.station chars)) :
    exec c s = .next (endExchange ex v s) := by
  obtain ⟨rfl, rfl⟩ | ⟨rfl, rfl⟩ | ⟨rfl, rfl⟩ := hc
  · rw [exec_miss hs, endWith, hex]
  · rw [exec_lateReply hs hch, endWith, hex]
  · rw [exec_stationReply hs hch, endWith, hex]

end Sys2Proof.Machine
end

section
/-!
PROOFS. The end of an exchange, as the obligation says it (R120 to R123, R125, R127, R132).
-/

namespace Sys2Proof.Machine

variable {s t u w : State} {ex : Exchange} {v : Verdict} {st : Station} {a n : Nat} {token : Word}

/-- What the judgment of an exchange comes to: the station's record with its slot and its last presentation apart, and without a
PRESENT nothing but the record and the two causes. -/
structure JudgedBy (ex : Exchange) (v : Verdict) (st : Station) (s w : State) : Prop where
  presented : Presented ex.station (st.judged s.params.missLimit s.params.noiseLimit ex.carried v) (judgedState ex v st s) w
  plain : (∀ token, v ≠ .present token) → w = judgedState ex v st s

theorem get?_judgedState (h : s.line.stations.get? ex.station = some st) (v : Verdict) :
    (judgedState ex v st s).line.stations.get? ex.station
      = some (st.judged s.params.missLimit s.params.noiseLimit ex.carried v) := by
  rw [judgedState_line, Table.get?_modify_self, h, Option.map_some]

theorem judgedBy_judgeExchange (h : s.line.stations.get? ex.station = some st) (v : Verdict) :
    JudgedBy ex v st s (judgeExchange ex v s) := by
  have hself := get?_judgedState h v
  rw [judgeExchange_eq h v]
  cases v with
  | present token => exact ⟨presented_takePresentation hself token, fun hv => absurd rfl (hv token)⟩
  | idle | badFrame | miss => exact ⟨presented_refl hself, fun _ => rfl⟩

namespace JudgedBy

variable (h : JudgedBy ex v st s w)
include h

theorem line : w.line = { s.line with
    stations := w.line.stations, gap := w.line.gap, regime := w.line.regime, quietStamp := w.line.quietStamp, answer := w.line.answer } := by
  have hline := h.presented.line
  rw [judgedState_line] at hline
  exact hline

theorem port : w.port = { s.port with sticky := w.port.sticky } := by
  have hport := h.presented.port
  rw [judgedState_frame] at hport
  exact hport

theorem others {x : Nat} (hx : x ≠ ex.station) : w.line.stations.get? x = s.line.stations.get? x := by
  rw [h.presented.others x hx, judgedState_line, Table.get?_modify_ne _ _ hx]

end JudgedBy

/-- What an exchange's end in `t` comes to when its judgment has left `w`. -/
theorem closeExchange_frame (ex : Exchange) (w : State) : (closeExchange ex w).port = w.port
    ∧ (closeExchange ex w).line.stations = w.line.stations := by
  rw [closeExchange_eq]
  exact ⟨rfl, rfl⟩

theorem present_or_plain (v : Verdict) : (∃ token, v = .present token) ∨ ∀ token, v ≠ .present token := by
  cases v with
  | present token => exact .inl ⟨token, rfl⟩
  | idle | badFrame | miss => exact .inr nofun

/-- Settles O46: the judgment by the station's record and its two causes, the close by the walk and the gap. -/
theorem exchangeEndUpdatesTheStation : Obligations.ExchangeEndUpdatesTheStation := by
  intro s c v ex st chars hs hex hst hcount hchars hc misses lost badCount noisyNow next
  have hexec := exec_exchangeEnd hs hex hchars hc
  have hlost : lost ↔ st.lostNow s.params.missLimit v = true := (st.lostNow_iff _ v).symm
  have hnoisy : noisyNow ↔ st.noisyNow s.params.noiseLimit v = true := (st.noisyNow_iff _ v).symm
  have hreset : s.inReset = false := hs.1
  cases hab : ex.abandoned with
  | true =>
    rw [endExchange_of_abandoned hab, closeExchange_eq] at hexec
    refine ⟨_, hexec, rfl, rfl, rfl, rfl, fun _ _ => rfl, fun _ => ⟨rfl, rfl⟩, nofun, rfl, rfl, fun _ => ⟨rfl, rfl, rfl, rfl, rfl, ?_, ?_, fun _ _ _ => rfl⟩⟩
    · exact (or_iff_left fun h => Bool.noConfusion h.1).symm
    · exact (or_iff_left fun h => Bool.noConfusion h.1).symm
  | false =>
    have hjudged := judgedBy_judgeExchange (s := dropExchange s) (ex := ex) (st := st) hst v
    rw [endExchange_of_judged hab, closeExchange_eq] at hexec
    generalize judgeExchange ex v (dropExchange s) = w at hjudged hexec
    obtain ⟨slot, last, hself⟩ := hjudged.presented.self
    have hline := hjudged.line
    have hwalk : w.line.walk = s.line.walk := by rw [hline]; rfl
    have hcalendar : w.line.calendar = s.line.calendar := by rw [hline]; rfl
    have hexchange : w.line.exchange = none := by rw [hline]; rfl
    have hd := st.judged_eq s.params.missLimit s.params.noiseLimit ex.carried v
    rw [show (dropExchange s).params = s.params from rfl, hd] at hself
    have hkept (hv : ∀ token, v ≠ .present token) : last = st.last
        ∧ slot = if v.good = true ∧ ex.carried.isSome = true ∧ (if st.lostNow s.params.missLimit v = true then none else st.slot) = ex.carried
          then none else if st.lostNow s.params.missLimit v = true then none else st.slot := by
      have hget := get?_judgedState (s := dropExchange s) hst v
      rw [← hjudged.plain hv, hself, show (dropExchange s).params = s.params from rfl, hd, Option.some.injEq] at hget
      exact ⟨congrArg Station.last hget, congrArg Station.slot hget⟩
    have hcause (hv : ∀ token, v ≠ .present token) (x : Cause) : w.hasCause x
        = ((s.hasCause x || (st.lostNow s.params.missLimit v && decide (x = .stationLost)))
          || ((!st.noisy && st.noisyNow s.params.noiseLimit v) && decide (x = .stationNoisy))) := by
      rw [hjudged.plain hv, hasCause_judgedState]
      rfl
    have hbad (hv : v.good = false) : ∀ token, v ≠ .present token := fun token h => by rw [h] at hv; cases hv
    refine ⟨_, hexec, hexchange, ?de, hcalendar, ?walk, fun x hx => hjudged.others hx, fun h => Bool.noConfusion h, fun _ =>
      ⟨_, hself, ?record, fun hg => ?alive, fun hl => ?lost, fun hg hl => ?same, fun hi => ?idle, fun h255 => ?full, fun hlt => ?counting,
        fun hn hst => ?noisy, fun hv => ?last⟩, ?line, hjudged.port, fun hv => ?plain⟩
    case de => simp [State.de, Line.transmitting, hexchange]
    case walk => rw [hwalk, hcalendar]
    case record => rfl
    case alive => exact if_pos hg
    case lost =>
      have hv := hbad hl.1
      have hnow := hlost.1 hl
      refine ⟨?_, ?_, ?_⟩
      · exact (if_neg (by rw [hl.1]; exact Bool.false_ne_true)).trans (if_pos hnow)
      · rw [(hkept hv).2, hl.1, hnow]
        rfl
      · refine (hcause hv _).trans ?_
        simp [hnow]
    case same =>
      have hnow : st.lostNow s.params.missLimit v = false := Bool.eq_false_iff.2 fun h => hl (hlost.2 h)
      refine ⟨?_, ?_⟩
      · refine (if_neg (by rw [hg]; exact Bool.false_ne_true)).trans (if_neg ?_)
        rw [hnow]
        exact Bool.false_ne_true
      · rw [(hkept (hbad hg)).2, hg, hnow]
        rfl
    case idle =>
      subst hi
      have hnow := st.lostNow_of_good (v := .idle) rfl s.params.missLimit
      rw [(hkept nofun).2, hnow]
      simp [Verdict.good]
    case full =>
      refine ⟨if_pos h255, if_pos h255, ?_⟩
      rw [hnoisy]
      simp only [h255, ne_eq, not_true_eq_false, decide_false, Bool.false_or, Bool.and_eq_true, Bool.or_eq_true, decide_eq_true_eq]
      exact Iff.rfl
    case counting =>
      have hne := Nat.ne_of_lt hlt
      refine ⟨if_neg hne, if_neg hne, ?_⟩
      rw [hnoisy]
      simp [hne]
    case noisy =>
      refine (hcause (fun token h => Verdict.noConfusion (h.symm.trans hn.1)) _).trans ?_
      simp [hnoisy.1 hn, hst]
    case last =>
      refine (hkept fun token h => ?_).1
      rw [h] at hv
      obtain hv | hv | hv := hv <;> cases hv
    case line =>
      rw [hline]
      rfl
    case plain =>
      have hplain : ∀ token, v ≠ .present token := fun token h => by
        rw [h] at hv
        obtain hv | hv | hv | hv := hv <;> cases hv
      have hw := hjudged.plain hplain
      have hframe := judgedState_frame ex v st (dropExchange s)
      rw [← hw] at hframe
      have hregime : w.line.regime = s.line.regime := by rw [hw, judgedState_line]; rfl
      have hstamp : w.line.quietStamp = s.line.quietStamp := by rw [hw, judgedState_line]; rfl
      have hanswer : w.line.answer = s.line.answer := by rw [hw, judgedState_line]; rfl
      have hgap : w.line.gap = s.line.gap := by rw [hw, judgedState_line]; rfl
      have hparams : w.params = s.params := by rw [hframe]; rfl
      refine ⟨?_, hregime, hstamp, hanswer, ?_, ?_, ?_, fun x hl hn => ?_⟩
      · rw [hframe]
        rfl
      · rw [hregime, hparams, hgap]
      · refine (Bool.eq_iff_iff.1 (hcause hplain _)).trans ?_
        simp [hlost]
      · refine (Bool.eq_iff_iff.1 (hcause hplain _)).trans ?_
        simp [hnoisy, and_comm]
      · refine (hcause hplain x).trans ?_
        simp [hl, hn]

end Sys2Proof.Machine
end

section
/-!
PROOFS. The decision of a presentation (R40, R128, R139, R140): one lemma per line of the table of R128, the target of the
release decision, and the requests whose work a presentation does.
-/

namespace Sys2Proof.Machine

variable {s : State} {st : Station} {token : Word} {e : Nat × Account} {n q x : Nat} {pr : Printer} {redirect : Bool}

/-! ### The table of R128 -/

theorem AcceptMode.accepts_iff (m : AcceptMode) (r : Role) :
    m.accepts r = true ↔ ¬ ((r = .service ∧ m = .usersOnly) ∨ (r = .user ∧ m = .serviceOnly)) := by
  cases m <;> cases r <;> decide

theorem routePresentation_of_unknown (h : s.badge token = none) :
    routePresentation st token s = (s, ⟨.unknownBadge, 0, 0, st.bound.getD 0, 0⟩) := by
  simp only [routePresentation, h]

theorem routePresentation_of_refused (h : s.badge token = some e) (hm : st.mode.accepts e.2.role = false) :
    routePresentation st token s = (s, ⟨.notAccepted, 0, 0, st.bound.getD 0, 0⟩) := by
  simp only [routePresentation, h, hm, Bool.not_false, if_true]

theorem routePresentation_of_unbound (h : s.badge token = some e) (hm : st.mode.accepts e.2.role = true) (hb : st.bound = none) :
    routePresentation st token s = (s, ⟨.notBound, 0, 0, 0, 0⟩) := by
  simp only [routePresentation, h, hm, hb, Bool.not_true, Bool.false_eq_true, if_false]

theorem routePresentation_of_user (h : s.badge token = some e) (hm : st.mode.accepts e.2.role = true) (hb : st.bound = some q)
    (hr : e.2.role = .user) : routePresentation st token s = userPresentation e.1 q st.redirect s := by
  rw [hr] at hm
  simp only [routePresentation, h, hr, hm, hb, Bool.not_true, Bool.false_eq_true, if_false]

theorem routePresentation_of_service (h : s.badge token = some e) (hm : st.mode.accepts e.2.role = true) (hb : st.bound = some q)
    (hr : e.2.role = .service) : routePresentation st token s = servicePresentation q s := by
  rw [hr] at hm
  simp only [routePresentation, h, hr, hm, hb, Bool.not_true, Bool.false_eq_true, if_false]

/-- A presentation that is turned away by its badge, its station or its binding changes nothing. -/
theorem routePresentation_of_turnedAway (h : s.badge token = some e) (ht : st.mode.accepts e.2.role = false ∨ st.bound = none) :
    (routePresentation st token s).1 = s := by
  cases hm : st.mode.accepts e.2.role with
  | false => rw [routePresentation_of_refused h hm]
  | true =>
    have hb : st.bound = none := ht.resolve_left (by rw [hm]; exact Bool.noConfusion)
    rw [routePresentation_of_unbound h hm hb]

/-- A SERVICE badge makes no release decision. -/
theorem routePresentation_of_notUser (h : s.badge token = some e)
    (ht : st.mode.accepts e.2.role = false ∨ st.bound = none ∨ e.2.role = .service) :
    (routePresentation st token s).1.store = s.store ∧ (routePresentation st token s).1.bank = s.bank
      ∧ (routePresentation st token s).1.release = s.release := by
  by_cases hturned : st.mode.accepts e.2.role = false ∨ st.bound = none
  · rw [routePresentation_of_turnedAway h hturned]
    exact ⟨rfl, rfl, rfl⟩
  · obtain ⟨hm, hb⟩ := not_or.1 hturned
    obtain ⟨q, hq⟩ := Option.ne_none_iff_exists'.1 hb
    have hr : e.2.role = .service := (ht.resolve_left hm).resolve_left hb
    rw [routePresentation_of_service h (by simpa using hm) hq hr]
    simp

/-- A USER badge changes no ticket and no printer. -/
theorem routePresentation_of_notService (h : s.badge token = some e)
    (ht : st.mode.accepts e.2.role = false ∨ st.bound = none ∨ e.2.role = .user) :
    (routePresentation st token s).1.callout = s.callout ∧ (routePresentation st token s).1.printers = s.printers := by
  by_cases hturned : st.mode.accepts e.2.role = false ∨ st.bound = none
  · rw [routePresentation_of_turnedAway h hturned]
    exact ⟨rfl, rfl⟩
  · obtain ⟨hm, hb⟩ := not_or.1 hturned
    obtain ⟨q, hq⟩ := Option.ne_none_iff_exists'.1 hb
    have hr : e.2.role = .user := (ht.resolve_left hm).resolve_left hb
    rw [routePresentation_of_user h (by simpa using hm) hq hr]
    simp

/-- A presentation's work is in the records that R40 and R139 name. -/
theorem routePresentation_frame (st : Station) (token : Word) (s : State) : (routePresentation st token s).1 = { s with
    release := (routePresentation st token s).1.release
    store := (routePresentation st token s).1.store
    bank := (routePresentation st token s).1.bank
    callout := (routePresentation st token s).1.callout
    printers := (routePresentation st token s).1.printers
    port := (routePresentation st token s).1.port } := by
  have hpins := routePresentation_pins (s := s) st token
  have htime := routePresentation_time (s := s) st token
  have hparams := routePresentation_params (s := s) st token
  have hstock := routePresentation_stock (s := s) st token
  have hline := routePresentation_line (s := s) st token
  have hsecond := routePresentation_second (s := s) st token
  have hfree := routePresentation_freeCount (s := s) st token
  have hpending := routePresentation_pending (s := s) st token
  generalize (routePresentation st token s).1 = r at *
  cases r
  cases s
  simp_all

/-! ### The target of the release decision (R140) -/

/-- One more printer compared with the best so far (R140). -/
def lighter (count : Nat → Nat) (best : Option Nat) (n : Nat) : Option Nat :=
  if best.any fun b => count b ≤ count n then best else some n

theorem foldl_lighter_of_le {count : Nat → Nat} {l : List Nat} (h : ∀ y ∈ l, count n ≤ count y) :
    l.foldl (lighter count) (some n) = some n := by
  induction l with
  | nil => rfl
  | cons y l ih =>
    have hkeep : lighter count (some n) y = some n := if_pos (by simpa using h y List.mem_cons_self)
    rw [List.foldl_cons, hkeep]
    exact ih fun z hz => h z (List.mem_cons_of_mem y hz)

/-- The least loaded of printers in ascending order, ties to the lowest number. -/
theorem leastLoaded_eq_some {count : Nat → Nat} {l : List Nat} (hl : l.Pairwise (· < ·)) (hn : n ∈ l)
    (hmin : ∀ y ∈ l, count n < count y ∨ (count n = count y ∧ n ≤ y)) : leastLoaded count l = some n := by
  obtain ⟨front, rest, rfl⟩ := List.append_of_mem hn
  have hbefore : ∀ y ∈ front, y < n := fun y hy => (List.pairwise_append.1 hl).2.2 y hy n List.mem_cons_self
  have htaken : lighter count (leastLoaded count front) n = some n := by
    cases hb : leastLoaded count front with
    | none => rfl
    | some b =>
      have hmem := mem_of_leastLoaded hb
      have hlt := hbefore b hmem
      have hbest := hmin b (List.mem_append_left _ hmem)
      have hworse : ¬ count b ≤ count n := by omega
      exact if_neg (by simpa using hworse)
  have hafter : ∀ y ∈ rest, count n ≤ count y := fun y hy => by
    have hbest := hmin y (List.mem_append_right _ (List.mem_cons_of_mem n hy))
    omega
  calc leastLoaded count (front ++ n :: rest)
      = (n :: rest).foldl (lighter count) (leastLoaded count front) := List.foldl_append
    _ = rest.foldl (lighter count) (some n) := congrArg (rest.foldl (lighter count)) htaken
    _ = some n := foldl_lighter_of_le hafter

theorem Printer.accepts_iff (p : Printer) : p.accepts = true ↔ p.state = .ready ∨ p.state = .impaired := by
  simp [Printer.accepts]

theorem releaseTarget_of_accepts (h : s.printers.get? q = some pr) (ha : pr.accepts = true) (redirect : Bool) :
    s.releaseTarget q redirect = some q := by
  simp only [State.releaseTarget, h, ha, if_true]

theorem releaseTarget_of_unredirected (h : s.printers.get? q = some pr) (ha : pr.accepts = false) : s.releaseTarget q false = none := by
  simp [State.releaseTarget, h, ha]

/-- A printer of a floor that accepts releases. -/
def Printer.near (floor : Nat) (p : Printer) : Bool := p.floor == floor && p.accepts

theorem Printer.near_iff {floor : Nat} {p : Printer} :
    p.near floor = true ↔ p.floor = floor ∧ (p.state = .ready ∨ p.state = .impaired) := by
  rw [Printer.near, Bool.and_eq_true, beq_iff_eq, Printer.accepts_iff]

theorem releaseTarget_of_redirected (h : s.printers.get? q = some pr) (ha : pr.accepts = false) :
    s.releaseTarget q true = leastLoaded s.inflightCount (s.printersWhere fun _ p => p.near pr.floor) := by
  simp only [State.releaseTarget, h, ha, Bool.false_eq_true, if_false, if_true]
  rfl

/-- With no printer of its floor that accepts releases, redirection finds no target. -/
theorem releaseTarget_of_noneNear (h : s.printers.get? q = some pr) (ha : pr.accepts = false)
    (hnone : ∀ y ∈ s.printers, ¬ y.2.near pr.floor = true) : s.releaseTarget q true = none := by
  have hempty : (s.printersWhere fun _ p => p.near pr.floor) = [] := by
    rw [State.printersWhere, List.filter_eq_nil_iff.2 hnone]
    rfl
  rw [releaseTarget_of_redirected h ha, hempty]
  rfl

/-- Redirection takes the least loaded printer of the floor that accepts releases, ties to the lowest number. -/
theorem releaseTarget_of_near (hs : Table.Sorted s.printers) (h : s.printers.get? q = some pr) (ha : pr.accepts = false)
    {y : Nat × Printer} (hy : y ∈ s.printers) (hnear : y.2.near pr.floor = true)
    (hmin : ∀ z ∈ s.printers, z.2.near pr.floor = true →
      s.inflightCount y.1 < s.inflightCount z.1 ∨ (s.inflightCount y.1 = s.inflightCount z.1 ∧ y.1 ≤ z.1)) :
    s.releaseTarget q true = some y.1 := by
  rw [releaseTarget_of_redirected h ha]
  refine leastLoaded_eq_some (hs.sublist (List.filter_sublist.map Prod.fst)) ?_ fun z hz => ?_
  · exact List.mem_map_of_mem (List.mem_filter.2 ⟨hy, hnear⟩)
  · obtain ⟨e, he, rfl⟩ := List.mem_map.1 hz
    obtain ⟨hmem, hn⟩ := List.mem_filter.1 he
    exact hmin e hmem hn

/-- The decision depends on where it is made only by its target, and by the printer named when there is none. -/
theorem releaseDecision_congr {r' : Bool} {q' : Nat} (h : s.releaseTarget q redirect = s.releaseTarget q' r')
    (hq : q = q' ∨ ∃ x p, s.releaseTarget q redirect = some x ∧ s.printers.get? x = some p)
    {a : Account} (ha : s.bank.accounts.get? n = some a) (hs : a.suspended = false) (only : Option Nat) :
    releaseDecision n q redirect only s = releaseDecision n q' r' only s := by
  have hactive : ¬ ((s.bank.accounts.get? n).any fun a => a.suspended) = true := by simp [ha, hs]
  unfold releaseDecision
  rw [if_neg hactive, if_neg hactive, ← h]
  obtain rfl | ⟨x, p, hx, hp⟩ := hq
  · rfl
  · simp only [hx, hp]

end Sys2Proof.Machine
end

section
/-!
PROOFS. A good PRESENT (R40, R126, R128 to R130, R139, R140): guarded, or taken with the message of its decision in the slot.
-/

namespace Sys2Proof.Machine

variable {s t : State} {ex : Exchange} {v : Verdict} {st : Station} {token : Word} {chars : List Byte} {a : Account}
  {k : Nat × Ticket} {n q x : Nat} {redirect : Bool}

/-! ### The station of a good exchange (R125) -/

theorem Station.noisyNow_of_good (h : v.good = true) (limit : Nat) (st : Station) : st.noisyNow limit v = false := by
  cases v with
  | idle | present token => simp [Station.noisyNow]
  | badFrame | miss => cases h

/-- A line whose exchange is over, with the record of its station. -/
def Line.ended (a : Nat) (st : Station) (l : Line) : Line :=
  { l with
    exchange := none
    stations := l.stations.modify a fun _ => st }

theorem get?_ended {l : Line} {n : Nat} (h : l.stations.get? n = some st) (r : Station) : (l.ended n r).stations.get? n = some r := by
  have hget := Table.get?_modify_self l.stations n fun _ => r
  rw [h, Option.map_some] at hget
  exact hget

/-- A good exchange sets no cause. -/
theorem judgedState_of_good (h : v.good = true) (ex : Exchange) (st : Station) (s : State) : judgedState ex v st (dropExchange s)
    = { s with line := s.line.ended ex.station (st.judged s.params.missLimit s.params.noiseLimit ex.carried v) } := by
  unfold judgedState
  rw [Station.noisyNow_of_good h, Station.lostNow_of_good h, Bool.and_false]
  rfl

theorem Station.judged_state_of_good (h : v.good = true) (missLimit limit : Nat) (carried : Option Message) (st : Station) :
    (st.judged missLimit limit carried v).state = .alive := by
  rw [Station.judged_eq]
  exact if_pos h

theorem Station.judged_slot_of_good (h : v.good = true) (missLimit limit : Nat) (carried : Option Message) (st : Station) :
    (st.judged missLimit limit carried v).slot = if carried.isSome = true ∧ st.slot = carried then none else st.slot := by
  rw [Station.judged_eq, Station.lostNow_of_good h, h]
  simp

theorem guarded_judged (missLimit limit : Nat) (carried : Option Message) (l : Line) :
    State.guarded { s with line := l } (st.judged missLimit limit carried v) token = s.guarded st token := by
  rw [Station.judged_eq]
  rfl

theorem routePresentation_judged (missLimit limit : Nat) (carried : Option Message) :
    routePresentation (st.judged missLimit limit carried v) token s = routePresentation st token s := by
  rw [Station.judged_eq]
  rfl

theorem Station.posted_of_alive (h : st.state = .alive) (m : Message) : st.posted m = { st with slot := some m } :=
  if_pos (.inl h)

/-! ### STATION_REPLY with a good PRESENT -/

section

variable (hs : s.Settled) (hex : s.line.exchange = some ex) (hab : ex.abandoned = false)
  (hst : s.line.stations.get? ex.station = some st) (hv : judgeReply ex.station chars = .present token) (hch : chars ≠ [])
include hs hex hab hst hv hch

/-- The row judges the exchange, takes the presentation and closes the exchange. -/
theorem exec_present : exec (.stationReply chars) s = .next (closeExchange ex (takePresentation ex.station token
    { s with line := s.line.ended ex.station (st.judged s.params.missLimit s.params.noiseLimit ex.carried (.present token)) })) := by
  rw [exec_exchangeEnd hs hex hch (.inr (.inr ⟨rfl, hv.symm⟩)), endExchange_of_judged hab,
    judgeExchange_eq (s := dropExchange s) hst, judgedState_of_good rfl]

/-- A guarded repeat renews the last run second alone (R126). -/
theorem exec_present_of_guarded (hg : s.guarded st token = true) : ∃ L st', exec (.stationReply chars) s = .next { s with line := L }
    ∧ L.stations.get? ex.station = some st' ∧ st'.last = some (token, s.now)
    ∧ st'.slot = (if ex.carried.isSome = true ∧ st.slot = ex.carried then none else st.slot)
    ∧ L.answer = s.line.answer ∧ L.regime = s.line.regime ∧ L.quietStamp = s.line.quietStamp := by
  have hself := get?_ended hst
    (st.judged s.params.missLimit s.params.noiseLimit ex.carried (.present token))
  rw [exec_present hs hex hab hst hv hch, takePresentation_of_guarded hself (by rw [guarded_judged, hg]), closeExchange_eq]
  refine ⟨_, _, rfl, (Table.get?_modify_self ..).trans (congrArg _ hself), rfl, ?_, rfl, rfl, rfl⟩
  exact Station.judged_slot_of_good rfl _ _ _ st

/-- Otherwise the decision of R128 is made, and its message is posted (R123, R129, R130). -/
theorem exec_present_of_fresh (hg : s.guarded st token = false) : ∃ L st', exec (.stationReply chars) s
      = .next { (routePresentation st token s).1 with line := L }
    ∧ L.stations.get? ex.station = some st' ∧ st'.last = some (token, s.now) ∧ st'.slot = some (routePresentation st token s).2
    ∧ L.answer = some ex.station ∧ L.regime = .full ∧ L.quietStamp = s.now := by
  generalize hr : st.judged s.params.missLimit s.params.noiseLimit ex.carried (.present token) = r
  have halive : r.state = .alive := by rw [← hr, Station.judged_state_of_good rfl]
  have hself := get?_ended hst r
  have hroute : routePresentation r token { s with line := s.line.ended ex.station r }
      = framedPair (s.line.ended ex.station r) s.port.phase s.port.mask (routePresentation st token s) := by
    rw [← hr, routePresentation_judged]
    exact routePresentation_framed st token s
  have hport : { (routePresentation st token s).1.port with phase := s.port.phase, mask := s.port.mask }
      = (routePresentation st token s).1.port := (routePresentation_port st token s).symm
  rw [exec_present hs hex hab hst hv hch, hr, takePresentation_of_fresh hself (by rw [← hr, guarded_judged, hg]), hroute,
    closeExchange_eq]
  have hstate (L : Line) : { (routePresentation st token s).1.framed (s.line.ended ex.station r) s.port.phase s.port.mask with line := L }
      = { (routePresentation st token s).1 with line := L } :=
    congrArg (fun x : Port => { (routePresentation st token s).1 with line := L, port := x }) hport
  have hslot := Station.posted_of_alive (st := r.presented token s.now) halive (routePresentation st token s).2
  refine ⟨_, { r with last := some (token, s.now), slot := some (routePresentation st token s).2 }, congrArg Host.Outcome.next (hstate _),
    ?_, rfl, rfl, rfl, rfl, rfl⟩
  refine (Table.get?_modify_self ..).trans ?_
  rw [Table.get?_modify_self, hself, Option.map_some, Option.map_some]
  exact congrArg some hslot

end

end Sys2Proof.Machine
end

section
/-!
PROOFS. A good PRESENT as its obligation says it: the requests whose work a presentation does, and the statement's cases.
-/

namespace Sys2Proof.Machine

variable {s : State} {st : Station} {token : Word} {a : Account} {e : Nat × Account} {k : Nat × Ticket} {pr : Printer} {n q x v : Nat}
  {redirect : Bool}

/-! ### A request that asks for the same -/

/-- One presentation more is counted (R139). -/
def State.counted (s : State) : State := { s with release := { s.release with presentations := s.release.presentations + 1 } }

/-- The state in which a request asks for what the presentation asks for. -/
def State.asked (s : State) : State := s.counted.framed s.line (.ready resetResponse) s.port.mask

theorem receptive_asked (hs : s.Settled) : s.asked.Receptive := ⟨State.ready_iff.2 ⟨hs.1, _, rfl⟩, hs.2⟩

theorem userPresentation_eq (n q : Nat) (redirect : Bool) (s : State) :
    userPresentation n q redirect s = releaseDecision n q redirect none s.counted := rfl

/-- A SUSPENDED user's presentation is counted and turned away (R139). -/
theorem userPresentation_of_suspended (ha : s.bank.accounts.get? n = some a) (h : a.suspended = true) :
    userPresentation n q redirect s = (s.counted, ⟨.suspended, 0, 0, q, 0⟩) :=
  releaseDecision_of_suspended (s := s.counted) ha h

/-- RELEASE_REQUEST at a printer, without a job named, answers with the decision there (R145). -/
theorem exec_releaseRequest_asked (hs : s.Settled) (hn : n ≤ 65535) (hx : x ≤ 255) (ha : s.bank.accounts.get? n = some a)
    (hr : a.role = .user) (hp : (s.printers.get? x).isSome = true) :
    exec (.releaseRequest (le 2 n ++ le 1 x ++ le 2 0)) s.asked
      = .next (answeredOk 0x50 (decisionPayload (releaseDecision n x false none s.counted).2)
          ((releaseDecision n x false none s.counted).1.framed s.line (.ready resetResponse) s.port.mask)) := by
  have haccount : u16 (le 2 n ++ le 1 x ++ le 2 0) 0 = n := by rw [List.append_assoc]; exact u16_le_two hn _
  have hprinter : byteAt (le 2 n ++ le 1 x ++ le 2 0) 2 = x := byteAt_le_one hx (le 2 0)
  have hjob : u16 (le 2 n ++ le 1 x ++ le 2 0) 3 = 0 := rfl
  have hask := releaseRequest_of_known (s := s.asked) (p := le 2 n ++ le 1 x ++ le 2 0) (a := a) rfl (by rw [haccount]; exact ha) hr
    (by rw [hprinter]; exact hp) (.inl hjob)
  rw [exec_releaseRequest_of_length (receptive_asked hs) rfl, hask, haccount, hprinter, onlyJob, if_pos hjob, State.asked,
    releaseDecision_framed]
  rfl

/-- TICKET_ACK of a RAISED ticket changes the ticket table as a service presentation does (R37, R40). -/
theorem exec_ticketAck_asked (hs : s.Settled) (hsorted : Table.Sorted s.callout.tickets) (hn : k.1 ≤ 65535)
    (hget : s.callout.tickets.get? k.1 = some k.2) (hk : k.2.state = .raised) :
    ∃ u, exec (.ticketAck (le 2 k.1)) s.asked = .next (answeredOk 0x18 (1 :: le 1 (severityOf k.2.causes)) u)
      ∧ (updTicket k.1 (fun t => { t with state := .acked t.severity }) s).callout = u.callout := by
  have hnumber : u16 (le 2 k.1) 0 = k.1 := u16_le_two' hn
  have hask := ticketAck_of_unresolved (s := s.asked) (p := le 2 k.1) (k := k.2) rfl (by rw [hnumber]; exact hget) (.inl ⟨hk, rfl⟩)
  refine ⟨updTicket k.1 (fun _ => { k.2 with state := .acked (severityOf k.2.causes) }) s.asked, ?_, ?_⟩
  · rw [exec_ticketAck_of_two (receptive_asked hs) rfl, hask, hnumber, answer_okay]
  · have hput := Table.modify_eq_put hsorted hget fun t => { t with state := .acked t.severity }
    have hput' := Table.modify_eq_put hsorted hget fun _ => { k.2 with state := .acked (severityOf k.2.causes) }
    exact congrArg (fun tickets => { s.callout with tickets := tickets }) (hput.trans hput'.symm)

theorem issueTicket_counted (q : Nat) (s : State) : issueTicket q s.counted = (issueTicket q s).counted := by
  have hprinters : s.counted.printers = s.printers := rfl
  cases h : s.printers.get? q with
  | none => simp only [issueTicket, hprinters, h]
  | some p => simp only [issueTicket, hprinters, h]; rfl

theorem handOver_counted (s : State) : handOver s.counted = (handOver s).counted := by
  have hcandidates : handOverCandidates s.counted = handOverCandidates s := rfl
  unfold handOver
  rw [hcandidates]
  split
  · rfl
  · exact issueTicket_counted _ s

/-- TICKET_CLOSE of a RESOLVED ticket hands its entry over as a service presentation does (R38, R40). -/
theorem exec_ticketClose_asked (hs : s.Settled) (hn : k.1 ≤ 65535) (hget : s.callout.tickets.get? k.1 = some k.2)
    (hk : k.2.state = .resolved) : exec (.ticketClose (le 2 k.1)) s.asked
      = .next (answeredOk 0x19 [] ((handOver (retireTicket k.1 s)).counted.framed s.line (.ready resetResponse) s.port.mask)) := by
  have hnumber : u16 (le 2 k.1) 0 = k.1 := u16_le_two' hn
  have hask := ticketClose_of_resolved (s := s.asked) (p := le 2 k.1) (k := k.2) rfl (by rw [hnumber]; exact hget) hk
  have hretired : retireTicket k.1 s.asked
      = (retireTicket k.1 s).counted.framed s.line (.ready resetResponse) s.port.mask := rfl
  rw [exec_ticketClose_of_two (receptive_asked hs) rfl, hask, hnumber, hretired, handOver_framed, handOver_counted, answer_okay]

/-! ### What a presentation does at its printer -/

theorem servicePresentation_of_none (h : s.ticketOf q = none) : servicePresentation q s = (s, ⟨.noCallout, 0, 0, q, 0⟩) := by
  simp only [servicePresentation, h]

theorem servicePresentation_of_raised (h : s.ticketOf q = some k) (hk : k.2.state = .raised) : servicePresentation q s
    = (updTicket k.1 (fun t => { t with state := .acked t.severity }) s, ⟨.serviceAck, 0, 0, q, k.1⟩) := by
  simp only [servicePresentation, h, hk]

theorem servicePresentation_of_acked (h : s.ticketOf q = some k) (hk : k.2.state = .acked v) :
    servicePresentation q s = (s, ⟨.serviceAck, 0, 0, q, k.1⟩) := by
  simp only [servicePresentation, h, hk]

theorem servicePresentation_of_resolved (h : s.ticketOf q = some k) (hk : k.2.state = .resolved) :
    servicePresentation q s = (handOver (retireTicket k.1 s), ⟨.serviceClosed, 0, 0, q, k.1⟩) := by
  simp only [servicePresentation, h, hk]

/-- Printer `x` is where a presentation at printer `q` is decided (R140). -/
def State.decidedAt (s : State) (q : Nat) (pr : Printer) (redirect : Bool) (x : Nat) : Prop :=
  (pr.accepts = true ∧ x = q)
  ∨ (pr.accepts = false ∧ (redirect = false ∨ ∀ y ∈ s.printers, ¬ y.2.near pr.floor = true) ∧ x = q)
  ∨ (pr.accepts = false ∧ redirect = true ∧ (∃ y ∈ s.printers, y.1 = x ∧ y.2.near pr.floor = true)
      ∧ ∀ y ∈ s.printers, y.2.near pr.floor = true →
        s.inflightCount x < s.inflightCount y.1 ∨ (s.inflightCount x = s.inflightCount y.1 ∧ x ≤ y.1))

/-- The decision of a USER presentation is the one made at that printer without redirection (R140, R145). -/
theorem userPresentation_decidedAt (hs : Table.Sorted s.printers) (ha : s.bank.accounts.get? n = some a) (hactive : a.suspended = false)
    (hq : s.printers.get? q = some pr) (hx : s.decidedAt q pr redirect x) :
    userPresentation n q redirect s = releaseDecision n x false none s.counted := by
  have hcongr (h : s.releaseTarget q redirect = s.releaseTarget x false)
      (hq : q = x ∨ ∃ y p, s.releaseTarget q redirect = some y ∧ s.printers.get? y = some p) :
      userPresentation n q redirect s = releaseDecision n x false none s.counted :=
    releaseDecision_congr (s := s.counted) h hq ha hactive none
  obtain ⟨hacc, rfl⟩ | ⟨hacc, hnone, rfl⟩ | ⟨hacc, rfl, ⟨y, hy, rfl, hnear⟩, hmin⟩ := hx
  · exact hcongr (by rw [releaseTarget_of_accepts hq hacc, releaseTarget_of_accepts hq hacc]) (.inl rfl)
  · refine hcongr ?_ (.inl rfl)
    cases redirect with
    | false => rfl
    | true => rw [releaseTarget_of_noneNear hq hacc (hnone.resolve_left nofun), releaseTarget_of_unredirected hq hacc]
  · have htarget := releaseTarget_of_near hs hq hacc hy hnear hmin
    have hget := Table.get?_of_mem hs hy
    have hyacc : y.2.accepts = true := (Bool.and_eq_true_iff.1 hnear).2
    exact hcongr (by rw [htarget, releaseTarget_of_accepts hget hyacc]) (.inr ⟨y.1, y.2, htarget, hget⟩)

/-- A RELEASE_REQUEST at the target gives the decision of a USER presentation, its message's fields and the causes it sets. -/
theorem exists_releaseRequest (hs : s.Settled) (ho : TablesOrdered s) (ha : s.bank.accounts.get? n = some a) (hr : a.role = .user)
    (hactive : a.suspended = false) (hq : s.printers.get? q = some pr) (hk : x ∈ Table.keys s.printers)
    (hx : s.decidedAt q pr redirect x) :
    ∃ u, exec (.releaseRequest (le 2 n ++ le 1 x ++ le 2 0)) s.asked
        = .next (answeredOk 0x50 (decisionPayload (userPresentation n q redirect s).2) u)
      ∧ (userPresentation n q redirect s).1.store = u.store ∧ (userPresentation n q redirect s).1.bank = u.bank
      ∧ (userPresentation n q redirect s).1.release = u.release
      ∧ (userPresentation n q redirect s).1.port.sticky = u.port.sticky := by
  obtain ⟨hsorted, hnumbers, -, -, -, -, -, -, -, haccounts, -⟩ := ho
  have hn := (haccounts n (Table.mem_keys_of_get? ha)).2
  rw [userPresentation_decidedAt hsorted ha hactive hq hx]
  exact ⟨_, exec_releaseRequest_asked hs hn (hnumbers x hk) ha hr ((Table.get?_isSome_iff _ _).2 hk), rfl, rfl, rfl, rfl⟩

theorem guarded_iff (s : State) (st : Station) (token : Word) : s.guarded st token = true
    ↔ ∃ l ∈ st.last, l.1 = token ∧ (s.time.runSeconds - l.2).toNat < s.params.repeatGuard := by
  unfold State.guarded elapsed State.now
  cases st.last with
  | none => simp
  | some l => simp

/-- Settles O47: the guard first, then one case for each line of the table of R128. -/
theorem presentationIsGuardedAndRouted : Obligations.PresentationIsGuardedAndRouted := by
  intro s ex st token chars hs hex hab hst hv hch guarded held accepts asked
  have hguard : guarded ↔ s.guarded st token = true := (guarded_iff s st token).symm
  cases hg : s.guarded st token with
  | true =>
    obtain ⟨L, st', hexec, hget, hlast, hslot, hanswer, hregime, hstamp⟩ := exec_present_of_guarded hs hex hab hst hv hch hg
    exact ⟨_, hexec, rfl, st', hget, hlast, fun _ => ⟨hslot, hanswer, hregime, hstamp, rfl, rfl, rfl, rfl, rfl⟩,
      fun h => absurd (hguard.2 hg) h⟩
  | false =>
    obtain ⟨L, st', hexec, hget, hlast, hslot, hanswer, hregime, hstamp⟩ := exec_present_of_fresh hs hex hab hst hv hch hg
    have hframe := congrArg (fun r : State => { r with line := L }) (routePresentation_frame st token s)
    refine ⟨_, hexec, hframe, st', hget, hlast, fun h => absurd (hguard.1 h) (by rw [hg]; exact Bool.false_ne_true),
      fun _ => ⟨hanswer, hregime, hstamp, fun hb => ?unknown, fun e he => ?known⟩⟩
    case unknown =>
      rw [routePresentation_of_unknown hb] at hslot ⊢
      exact ⟨hslot, rfl, rfl⟩
    case known =>
      intro refused
      have hrefused : refused ↔ st.mode.accepts e.2.role = false := by
        rw [← Bool.not_eq_true, AcceptMode.accepts_iff, not_not]
      have hadmitted (h : ¬ refused) : st.mode.accepts e.2.role = true := by simpa using mt hrefused.2 h
      refine ⟨fun h => ?refused, fun h hb => ?unbound, fun h => ?notUser, fun h => ?notService, fun q hq =>
        ⟨fun h hr ha hsus => ?suspended, fun h ho hr ha hactive pr hpr x hx hwhere => ?user, fun h hr hk => ?noCallout,
          fun h hr ho k hk => ?callout⟩⟩
      case refused =>
        rw [routePresentation_of_refused he (hrefused.1 h)] at hslot ⊢
        exact ⟨hslot, rfl, rfl⟩
      case unbound =>
        rw [routePresentation_of_unbound he (hadmitted h) hb] at hslot ⊢
        exact ⟨hslot, rfl, rfl⟩
      case notUser => exact routePresentation_of_notUser he (h.imp_left hrefused.1)
      case notService => exact routePresentation_of_notService he (h.imp_left hrefused.1)
      case suspended =>
        rw [routePresentation_of_user he (hadmitted h) hq hr, userPresentation_of_suspended ha hsus] at hslot ⊢
        exact ⟨hslot, rfl, rfl, rfl⟩
      case user =>
        rw [routePresentation_of_user he (hadmitted h) hq hr] at hslot ⊢
        obtain ⟨u, hu, heffect⟩ := exists_releaseRequest hs ho ha hr hactive hpr hx
          (redirect := st.redirect) (by
            simpa only [State.decidedAt, ← Bool.not_eq_true, Printer.accepts_iff, Printer.near_iff] using hwhere)
        exact ⟨u, _, hslot, hu, heffect⟩
      case noCallout =>
        rw [routePresentation_of_service he (hadmitted h) hq hr, servicePresentation_of_none hk] at hslot ⊢
        exact ⟨hslot, rfl, rfl⟩
      case callout =>
        rw [routePresentation_of_service he (hadmitted h) hq hr] at hslot ⊢
        obtain ⟨-, -, hsorted, hnumbers, -⟩ := ho
        have hticket := Table.get?_of_mem hsorted (State.mem_of_ticketOf hk).1
        have hn := (hnumbers k.1 (Table.mem_keys_of_get? hticket)).2
        refine ⟨fun hstate => ?raised, fun v hstate => ?acked, fun hstate => ?resolved⟩
        case raised =>
          rw [servicePresentation_of_raised hk hstate] at hslot ⊢
          obtain ⟨u, hu, hcallout⟩ := exec_ticketAck_asked hs hsorted hn hticket hstate
          exact ⟨hslot, u, hu, hcallout, rfl⟩
        case acked =>
          rw [servicePresentation_of_acked hk hstate] at hslot ⊢
          exact ⟨hslot, rfl, rfl⟩
        case resolved =>
          rw [servicePresentation_of_resolved hk hstate] at hslot ⊢
          exact ⟨hslot, _, exec_ticketClose_asked hs hn hticket hstate, rfl, rfl, rfl⟩

end Sys2Proof.Machine
end
